-- ==== Sys2Proof/Word.lean ====
section
/-!
DEFINITION. The words of the press link: payloads, and the numbers that name stands and groups.
-/
namespace Sys2Proof

/-- A 16-byte service payload (R13), byte k at bits 8k to 8k+7 (R20: least significant byte first). -/
abbrev Payload := BitVec 128

/-- The service reply field: a header word at bits 0-31, the reply payload above it (section 1.11). -/
abbrev ReplyField := BitVec 160

/-- The service request field: a header word at bits 0-31, the payload above it (section 1.11). -/
abbrev RequestField := BitVec 160

/-- A stand unit, 0-7. -/
abbrev StandId := Fin 8

/-- A folder group, 0-3. -/
abbrev GroupId := Fin 4

/-- The 32-bit engine cycle (R3), or a roll ID. -/
abbrev Word := BitVec 32

/-- A spindle angle, 0-4095 SC, which wraps. -/
abbrev Angle := BitVec 12

end Sys2Proof
end

