-- ==== Sys2Proof/Syntax.lean ====
section
/-!
DEFINITION. The commands the part takes: one constructor of `Instr` for each row of
spec/opcode_table.json, with the operands the spec gives the command.
-/
namespace Sys2Proof

/-- The two reel-carrying arms of a stand. -/
inductive Arm where
  | a
  | b
  deriving DecidableEq, Repr

/-- A slot of a frame (R2): sequence count, writer tag, 32-bit payload. -/
structure Slot where
  count : BitVec 3
  tag : BitVec 5
  payload : BitVec 32
  deriving DecidableEq, Repr

/-- An outbound frame (R1): cycle number, 48 command slots, service request field. What the part does
with a request field that targets it is a command of its own (log 6). -/
structure OutFrame where
  cycle : BitVec 16
  slots : Vector Slot 48
  request : RequestField
  deriving DecidableEq, Repr

/-- A return frame (R1): cycle number, 96 sample slots, service reply field. -/
structure RetFrame where
  cycle : BitVec 16
  slots : Vector Slot 96
  reply : ReplyField
  deriving DecidableEq, Repr

/-- How a return frame meets the part (R10, R11). -/
inductive RetEvent where
  /-- the frame reaches the return-in port after the request field, and passes to its end -/
  | whole (f : RetFrame)
  /-- the frame reaches the port after the request field; its end is a later command -/
  | head (f : RetFrame)
  /-- the last field of the frame in flight passes -/
  | tail
  /-- the frame reaches the port after a start marker and before the request field of that outbound
  frame has wholly passed -/
  | early (f : RetFrame)
  deriving DecidableEq, Repr

/-- A mapped return signal (R21): LINE, or one of the five of a stand. -/
inductive SignalName where
  | line
  | spindle (k : StandId) (x : Arm)
  | gauge (k : StandId) (x : Arm)
  | status (k : StandId)
  deriving DecidableEq, Repr

/-- The two header fields of a service request that every kind carries (R13): target address and stand
index. The kind is the command's constructor. -/
structure Request where
  target : BitVec 5
  stand : BitVec 4
  deriving DecidableEq, Repr

/-- The commands, in the order of spec/opcode_table.json. -/
inductive Instr where
  /-- R1: an outbound start marker arrives, heading the frame. -/
  | outboundStartMarker (f : OutFrame)
  /-- R10: a return frame meets the part. -/
  | returnFrame (e : RetEvent)
  /-- R31: the step without a refresh that takes a LIVE signal to its stale limit. -/
  | signalStaleLimit (g : SignalName)
  /-- R35: the step that takes a stale-watch count of a stand to 64. -/
  | signalStale (k : StandId)
  /-- R44: the step of line increment and spindle travel that completes a running-diameter window. -/
  | runningDiameterWindowComplete (k : StandId) (increment : BitVec 23) (travel : BitVec 12)
  /-- R57: the counted gauge reading (as received, R29) that completes a gauge window. -/
  | gaugeWindowComplete (k : StandId) (reading : BitVec 14)
  /-- R115: the step of spindle travel, without a latched mark, that reaches the tape-watch limit. -/
  | tapeLost (k : StandId) (travel : BitVec 12)
  /-- R112: the step that takes the acceleration timer to its limit. -/
  | accelTimeout (k : StandId)
  /-- R124: the step in which the confirm window of a stand has ended. -/
  | confirmTimeout (k : StandId)
  /-- R137: the line increment that counts a spacing down to 0. -/
  | spacingEnd (g : GroupId) (increment : BitVec 23)
  /-- R14, R15: the last-frame watch expires. -/
  | linkLoss
  /-- R187: RESET has been held low for 1 µs. -/
  | resetAssertion
  /-- R187, R18: RESET goes high; the operand is the level of ADDR4-ADDR0. -/
  | resetRelease (addr : BitVec 5)
  /-- R189: inhibit filters settle after reset; bit k of `steady` says that pin k has been steady for
  2 ms, bit k of `high` gives its level. -/
  | inhibitFilterSettle (steady high : BitVec 8)
  /-- R97, R98: the filtered level of a stand's inhibit pin becomes low. -/
  | inhibitPinAssertion (k : StandId)
  /-- R97, R151: the filtered level of a stand's inhibit pin becomes high. -/
  | inhibitPinRelease (k : StandId)
  /-- R173: READ-ITEM, with its selector. -/
  | readItem (r : Request) (sel : BitVec 16)
  /-- R183: WRITE-ITEM of class 1. -/
  | writeStandParameter (r : Request) (sel : BitVec 16) (p : Payload)
  /-- R22: WRITE-ITEM of class 2. -/
  | writeSlotMapEntry (r : Request) (sel : BitVec 16) (p : Payload)
  /-- R23: WRITE-ITEM of class 3. -/
  | writeLineMap (r : Request) (sel : BitVec 16) (p : Payload)
  /-- R23: WRITE-ITEM of class 4. -/
  | writeImageMap (r : Request) (sel : BitVec 16) (p : Payload)
  /-- R186: WRITE-ITEM of class 5. -/
  | writeGradeTableEntry (r : Request) (sel : BitVec 16) (p : Payload)
  /-- R138: WRITE-ITEM of class 6. -/
  | writeGroupTableEntry (r : Request) (sel : BitVec 16) (p : Payload)
  /-- R62: QUEUE-REEL; the payload is a reel record. -/
  | queueReel (r : Request) (p : Payload)
  /-- R74: WITHDRAW-REEL; the roll ID is in payload bytes 0-3. -/
  | withdrawReel (r : Request) (p : Payload)
  /-- R84: STAND-ONLINE; the selector is that of R177, the payload a reel record when present. -/
  | standOnline (r : Request) (sel : BitVec 16) (p : Payload)
  /-- R103: STAND-OFFLINE. -/
  | standOffline (r : Request)
  /-- R100: INHIBIT. -/
  | inhibit (r : Request)
  /-- R100: RELEASE. -/
  | release (r : Request)
  /-- R102: SPLICE-NOW. -/
  | spliceNow (r : Request)
  /-- R148: CLEAR-FAULT; the arm field is in selector bits 0-1 (R179). -/
  | clearFault (r : Request) (sel : BitVec 16)
  /-- R164: READ-LOG; the selector is that of R180. -/
  | readLog (r : Request) (sel : BitVec 16)
  /-- R165: ACK-LOG. -/
  | ackLog (r : Request)
  /-- R169: a request whose kind code is 0 or 13-15. -/
  | unknownKindRequest (r : Request) (kind : BitVec 4)
  deriving DecidableEq, Repr

end Sys2Proof
end

