-- ==== Sys2Proof/WellFormed.lean ====
section
/-!
DEFINITION. Which terms of `Instr` are commands of the part. The operand types bound most operands;
what is left are the class a WRITE-ITEM row is for, the kind codes that are unknown, and a gauge
reading of 0, which is no reading.
-/
namespace Sys2Proof

/-- The item class of a selector (R171): bits 8-15. -/
def itemClass (sel : BitVec 16) : Nat := (sel.extractLsb' 8 8).toNat

/-- The item index of a selector (R171): bits 0-7. -/
def itemIndex (sel : BitVec 16) : Nat := (sel.extractLsb' 0 8).toNat

/-- Kind codes that name no kind (section 1.11, R169): 0 and 13-15. -/
def unknownKind (kind : BitVec 4) : Bool := kind == 0#4 || decide (13 ≤ kind.toNat)

/-- The classes WRITE-ITEM may address besides class 1 (R171). A WRITE-ITEM of any other class is
carried by the row of class 1, which answers it BAD-REQUEST (log 17). -/
def otherWritableClass (c : Nat) : Bool := decide (2 ≤ c) && decide (c ≤ 6)

/-- A term of `Instr` that stands for a command of the part. -/
def WellFormed : Instr → Bool
  | .outboundStartMarker _ => true
  | .returnFrame _ => true
  | .signalStaleLimit _ => true
  | .signalStale _ => true
  | .runningDiameterWindowComplete _ _ _ => true
  | .gaugeWindowComplete _ reading => reading != 0#14
  | .tapeLost _ _ => true
  | .accelTimeout _ => true
  | .confirmTimeout _ => true
  | .spacingEnd _ _ => true
  | .linkLoss => true
  | .resetAssertion => true
  | .resetRelease _ => true
  | .inhibitFilterSettle _ _ => true
  | .inhibitPinAssertion _ => true
  | .inhibitPinRelease _ => true
  | .readItem _ _ => true
  | .writeStandParameter _ sel _ => !otherWritableClass (itemClass sel)
  | .writeSlotMapEntry _ sel _ => itemClass sel == 2
  | .writeLineMap _ sel _ => itemClass sel == 3
  | .writeImageMap _ sel _ => itemClass sel == 4
  | .writeGradeTableEntry _ sel _ => itemClass sel == 5
  | .writeGroupTableEntry _ sel _ => itemClass sel == 6
  | .queueReel _ _ => true
  | .withdrawReel _ _ => true
  | .standOnline _ _ _ => true
  | .standOffline _ => true
  | .inhibit _ => true
  | .release _ => true
  | .spliceNow _ => true
  | .clearFault _ _ => true
  | .readLog _ _ => true
  | .ackLog _ => true
  | .unknownKindRequest _ kind => unknownKind kind

end Sys2Proof
end

