-- ==== Sys2Proof/Decode.lean ====
section
/-!
DEFINITION. Reading commands from words. The table of commands gives no row any bits, so a table word
spells no command. The service request field of an outbound frame does have a layout (section 1.11):
`decodeRequest` reads a command from its header word and payload, and `encodeRequest` writes it. The
bytes of whole frames are read and written by the tables of the same section.
-/
namespace Sys2Proof

/-- No row of the table gives bits: a table word spells no command. -/
def decodeTableWord (_nbits _w : Nat) : Option Instr := none

/-- Header word of a service request (section 1.11): target 0-4, kind 5-8, stand index 9-12, selector
16-31; bits 13-15 are ignored (R20). -/
def requestTarget (h : BitVec 32) : BitVec 5 := h.extractLsb' 0 5

def requestKind (h : BitVec 32) : BitVec 4 := h.extractLsb' 5 4

def requestStand (h : BitVec 32) : BitVec 4 := h.extractLsb' 9 4

def requestSelector (h : BitVec 32) : BitVec 16 := h.extractLsb' 16 16

/-- The row of a WRITE-ITEM by the class its selector names (R171). -/
def decodeWrite (r : Request) (sel : BitVec 16) (p : Payload) : Instr :=
  match itemClass sel with
  | 2 => .writeSlotMapEntry r sel p
  | 3 => .writeLineMap r sel p
  | 4 => .writeImageMap r sel p
  | 5 => .writeGradeTableEntry r sel p
  | 6 => .writeGroupTableEntry r sel p
  | _ => .writeStandParameter r sel p

/-- The command of a service request field (section 1.11, R13, R169, R170). Total: unknown kinds are
a row of their own. -/
def decodeRequest (h : BitVec 32) (p : Payload) : Instr :=
  let r : Request := ⟨requestTarget h, requestStand h⟩
  let sel := requestSelector h
  match (requestKind h).toNat with
  | 1 => .readItem r sel
  | 2 => decodeWrite r sel p
  | 3 => .queueReel r p
  | 4 => .withdrawReel r p
  | 5 => .standOnline r sel p
  | 6 => .standOffline r
  | 7 => .inhibit r
  | 8 => .release r
  | 9 => .spliceNow r
  | 10 => .clearFault r sel
  | 11 => .readLog r sel
  | 12 => .ackLog r
  | _ => .unknownKindRequest r (requestKind h)

/-- A request header word from its fields (section 1.11); bits 13-15 are written 0. -/
def requestHeader (r : Request) (kind : BitVec 4) (sel : BitVec 16) : BitVec 32 :=
  sel ++ (0#3 ++ (r.stand ++ (kind ++ r.target)))

/-- The service request field that carries a command, with ignored fields 0; none for a command that
is no service request. -/
def encodeRequest : Instr → Option (BitVec 32 × Payload)
  | .readItem r sel => some (requestHeader r 1 sel, 0)
  | .writeStandParameter r sel p => some (requestHeader r 2 sel, p)
  | .writeSlotMapEntry r sel p => some (requestHeader r 2 sel, p)
  | .writeLineMap r sel p => some (requestHeader r 2 sel, p)
  | .writeImageMap r sel p => some (requestHeader r 2 sel, p)
  | .writeGradeTableEntry r sel p => some (requestHeader r 2 sel, p)
  | .writeGroupTableEntry r sel p => some (requestHeader r 2 sel, p)
  | .queueReel r p => some (requestHeader r 3 0, p)
  | .withdrawReel r p => some (requestHeader r 4 0, p)
  | .standOnline r sel p => some (requestHeader r 5 sel, p)
  | .standOffline r => some (requestHeader r 6 0, 0)
  | .inhibit r => some (requestHeader r 7 0, 0)
  | .release r => some (requestHeader r 8 0, 0)
  | .spliceNow r => some (requestHeader r 9 0, 0)
  | .clearFault r sel => some (requestHeader r 10 sel, 0)
  | .readLog r sel => some (requestHeader r 11 sel, 0)
  | .ackLog r => some (requestHeader r 12 0, 0)
  | .unknownKindRequest r kind => some (requestHeader r kind 0, 0)
  | .outboundStartMarker _ => none
  | .returnFrame _ => none
  | .signalStaleLimit _ => none
  | .signalStale _ => none
  | .runningDiameterWindowComplete _ _ _ => none
  | .gaugeWindowComplete _ _ => none
  | .tapeLost _ _ => none
  | .accelTimeout _ => none
  | .confirmTimeout _ => none
  | .spacingEnd _ _ => none
  | .linkLoss => none
  | .resetAssertion => none
  | .resetRelease _ => none
  | .inhibitFilterSettle _ _ => none
  | .inhibitPinAssertion _ => none
  | .inhibitPinRelease _ => none

/-! ### Frames as bytes (section 1.11) -/

/-- A byte of a frame. -/
abbrev Byte := BitVec 8

def byteAt (l : List Byte) (i : Nat) : Byte := l.getD i 0

/-- The number in n bytes from byte b on, least significant byte first (R20). -/
def wordAt (l : List Byte) (b n : Nat) : Nat :=
  match n with
  | 0 => 0
  | m + 1 => (byteAt l b).toNat + 256 * wordAt l (b + 1) m

/-- A slot from its five bytes: header (count in bits 0-2, tag in bits 3-7), then the payload. -/
def decodeSlot (header : Byte) (payload : BitVec 32) : Slot :=
  ⟨header.extractLsb' 0 3, header.extractLsb' 3 5, payload⟩

/-- The header byte of a slot. -/
def slotHeader (sl : Slot) : Byte := sl.tag ++ sl.count

/-- Slot k of a frame, at bytes 2 + 5k to 6 + 5k. -/
def slotAt (l : List Byte) (k : Nat) : Slot :=
  decodeSlot (byteAt l (2 + 5 * k)) (BitVec.ofNat 32 (wordAt l (3 + 5 * k) 4))

/-- An outbound frame of 262 bytes; the service request field is bytes 242-261. -/
def decodeOutFrame (l : List Byte) : OutFrame :=
  ⟨BitVec.ofNat 16 (wordAt l 0 2), Vector.ofFn fun k => slotAt l k.val,
    BitVec.ofNat 160 (wordAt l 242 20)⟩

/-- The command of a service request field: header word, then payload. -/
def decodeRequestField (f : RequestField) : Instr :=
  decodeRequest (f.extractLsb' 0 32) (f.extractLsb' 32 128)

/-- The commands an outbound frame brings, in the order its fields pass (R1): its start marker, then its
service request (log 6). -/
def OutFrame.commands (f : OutFrame) : List Instr := [.outboundStartMarker f, decodeRequestField f.request]

/-- The commands of an outbound frame of 262 bytes. -/
def outboundCommands (l : List Byte) : List Instr := (decodeOutFrame l).commands

/-- A return frame of 502 bytes; the service reply field is bytes 482-501. -/
def decodeRetFrame (l : List Byte) : RetFrame :=
  ⟨BitVec.ofNat 16 (wordAt l 0 2), Vector.ofFn fun k => slotAt l k.val,
    BitVec.ofNat 160 (wordAt l 482 20)⟩

/-- A number as n bytes, least significant byte first (R20). -/
def bytesOf (v n : Nat) : List Byte :=
  match n with
  | 0 => []
  | m + 1 => BitVec.ofNat 8 v :: bytesOf (v / 256) m

/-- The five bytes of a slot. -/
def slotBytes (sl : Slot) : List Byte := slotHeader sl :: bytesOf sl.payload.toNat 4

/-- The bytes of an outbound frame. -/
def outFrameBytes (f : OutFrame) : List Byte :=
  bytesOf f.cycle.toNat 2 ++ f.slots.toList.flatMap slotBytes ++ bytesOf f.request.toNat 20

/-- The bytes of a return frame. -/
def retFrameBytes (f : RetFrame) : List Byte :=
  bytesOf f.cycle.toNat 2 ++ f.slots.toList.flatMap slotBytes ++ bytesOf f.reply.toNat 20

/-- How far a frame has passed at a moment: its first `bytes` bytes, and of the byte after them the bits of
`bits`, which may be any, as the order of the bits within a byte lies below the frame level (log 5). -/
structure Passed where
  bytes : Nat
  bits : Byte
  deriving DecidableEq, Repr

/-- R187: a byte partly passed: the bits that have passed as written, the remaining ones as they arrived. -/
def cutByte (bits written arrived : Byte) : Byte := (written &&& bits) ||| (arrived &&& ~~~bits)

/-- R187: the bytes of a frame cut by an assertion of RESET: what has passed as written, the others as they
arrived. -/
def cutBytes (m : Passed) (written arrived : List Byte) : List Byte :=
  written.take m.bytes ++
    (List.zipWith (cutByte m.bits) (written.drop m.bytes) (arrived.drop m.bytes)).take 1 ++
      arrived.drop (m.bytes + 1)

/-- An outbound frame as it leaves when it has passed as far as m. -/
def OutFrame.cut (m : Passed) (written arrived : OutFrame) : OutFrame :=
  decodeOutFrame (cutBytes m (outFrameBytes written) (outFrameBytes arrived))

/-- A return frame as it leaves when it has passed as far as m. -/
def RetFrame.cut (m : Passed) (written arrived : RetFrame) : RetFrame :=
  decodeRetFrame (cutBytes m (retFrameBytes written) (retFrameBytes arrived))

end Sys2Proof
end

