-- ==== Sys2Proof/Config.lean ====
section
/-!
DEFINITION. The values the manual leaves free. Each is a constant without a body, applied to plain
data of the state, so nothing can be proved of it and every claim holds for all of its values.
-/
namespace Sys2Proof

/-- DESIGN CHOICE, safe (log 7). R162: entries formed in the steps of one cycle, or by one link loss,
join the log in either order; the claim conflicts of one frame (R7) are taken in no stated order. The
argument is the event's free index and a stand; smaller keys go first. -/
opaque Config.eventOrder : Nat → StandId → Nat

/-- DESIGN CHOICE, safe (log 8). R115 adds the change of the held angle to the tape-watch travel; for
a step that refreshes a SPINDLE signal with no earlier held angle it states no travel. The arguments
are the event's free index and the stand; the travel is the value's residue below 4096. -/
opaque Config.firstTravel : Nat → StandId → Nat

/-- DESIGN CHOICE, safe (log 5). R187: an assertion of RESET may come at any moment; how many of its 262
bytes the outbound frame then passing has passed is open. The argument is the event's free index. -/
opaque Config.outPassed : Nat → Fin 263

/-- DESIGN CHOICE, safe (log 5). R187: how many of its 502 bytes the return frame that is passing at an
assertion of RESET has passed is open. The argument is the event's free index. -/
opaque Config.retPassed : Nat → Fin 503

/-- DESIGN CHOICE, safe (log 5). R187: which bits of the byte of the outbound frame that is passing at an
assertion of RESET have passed; in what order they pass lies below the frame level. The argument is the
event's free index. -/
opaque Config.outBits : Nat → BitVec 8

/-- DESIGN CHOICE, safe (log 5). R187: which bits of the byte of the return frame that is passing at an
assertion of RESET have passed. The argument is the event's free index. -/
opaque Config.retBits : Nat → BitVec 8

end Sys2Proof
end

