-- ==== Sys2Proof/Machine/State.lean ====
section
/-!
DEFINITION. Everything the part holds, as plain data, and its value right after reset. Quantities the
manual computes with are natural numbers in the units of the introduction; link counts, angles, web
positions and engine cycles, which wrap, are bit vectors. INVENTORY.md lists each field with its rule.
-/
namespace Sys2Proof.Machine

/-- No command of the part stops the machine: chapter 8's faults are state of a stand. -/
inductive Fault where
  deriving DecidableEq, Repr

/-- Raised by exec for a command that has no meaning yet; safe. No arm of exec raises it. -/
inductive Refusal where
  | notModelled (mnemonic : String)
  deriving DecidableEq, Repr

/-! ### Capture (chapter 2) -/

/-- A rate divisor (R21). -/
inductive Divisor where
  | one
  | two
  | four
  deriving DecidableEq, Repr

/-- A return entry of a map (R21). -/
structure RetEntry where
  slot : Fin 96
  divisor : Divisor
  deriving DecidableEq, Repr

/-- The nine entries of a stand's slot map; none is unset (R21). -/
structure SlotMap where
  spindleA : Option RetEntry
  spindleB : Option RetEntry
  gaugeA : Option RetEntry
  gaugeB : Option RetEntry
  status : Option RetEntry
  driveA : Option (Fin 48)
  driveB : Option (Fin 48)
  paste : Option (Fin 48)
  knife : Option (Fin 48)
  deriving DecidableEq, Repr

/-- A signal's condition (R31). -/
inductive Condition where
  | waiting
  | live
  | stale
  deriving DecidableEq, Repr

/-- What the capture unit holds of every signal (R25, R27, R31): condition, cycles-since-refresh
(0-65535) and reference count. -/
structure Capture where
  cond : Condition
  since : Nat
  ref : Option (BitVec 3)
  deriving DecidableEq, Repr

/-- A SPINDLE signal: held angle (R28) and history, oldest first (R36). -/
structure Spindle where
  cap : Capture
  angle : Option Angle
  hist : List Angle
  deriving DecidableEq, Repr

/-- A GAUGE signal: held diameter and held reel-present flag, absent before the first refresh (R28). -/
structure Gauge where
  cap : Capture
  diameter : Option Nat
  present : Option Bool
  deriving DecidableEq, Repr

/-- The held flags of a STATUS signal (R28). -/
structure HomeFlags where
  paste : Bool
  knife : Bool
  deriving DecidableEq, Repr

/-- A STATUS signal. -/
structure Status where
  cap : Capture
  home : Option HomeFlags
  deriving DecidableEq, Repr

/-- The LINE signal: held web position (R28) and history, oldest first (R36). -/
structure Line where
  cap : Capture
  pos : Option (BitVec 24)
  hist : List (BitVec 24)
  deriving DecidableEq, Repr

/-- The three stale-watch counts of a stand (R35), 0-64. -/
structure StaleWatch where
  line : Nat
  spindle : Nat
  status : Nat
  deriving DecidableEq, Repr

/-! ### Measurement (chapter 3) and reels (chapter 4) -/

/-- An open running-diameter window (R43): line travel, spindle travel, previous angle. -/
structure DiameterWindow where
  line : Nat
  travel : Nat
  angle : Angle
  deriving DecidableEq, Repr

/-- An open gauge window (R55). `waits` says that the step of the cycle whose request opened it is still
to come; its sample does not count (log 16). -/
structure GaugeWindow where
  arm : Arm
  sum : Nat
  count : Nat
  waits : Bool
  deriving DecidableEq, Repr

/-- A learning anchor that is present (R49): D_a and T_a. -/
structure Anchor where
  diameter : Nat
  travel : Nat
  deriving DecidableEq, Repr

/-- A reel record as accepted (R61). -/
structure ReelRecord where
  roll : Word
  grade : Fin 16
  mount : Nat
  core : Nat
  width : Nat
  override : Option Nat
  caliper : Option Nat
  deriving DecidableEq, Repr

/-- A running reel context (R66); roll 0 is the anonymous reel. -/
structure RunningContext where
  roll : Word
  grade : Fin 16
  core : Option Nat
  width : Option Nat
  override : Option Nat
  caliper : Nat
  dRun : Nat
  valid : Bool
  anchor : Option Anchor
  deriving DecidableEq, Repr

/-- A ready reel context (R67). -/
structure ReadyContext where
  record : ReelRecord
  arm : Arm
  dNew : Option Nat
  tape : Option Angle
  spent : Bool
  deriving DecidableEq, Repr

/-- What belongs to an arm, whatever its role: its two signals (R25), its spindle rate C (R41), its
unload-required flag (R68), and whether STAND-ONLINE declared it EMPTY (R69, log 10). -/
structure ArmState where
  spindle : Spindle
  gauge : Gauge
  rate : Nat
  unload : Bool
  declaredEmpty : Bool
  deriving DecidableEq, Repr

/-! ### Sequence and scheduler (chapters 5 and 6) -/

/-- The stand states of section 5.1. -/
inductive StandState where
  | offline
  | running
  | checking
  | ready
  | accel
  | matched
  | firingPending
  | firingIssued
  | confirm
  | settle
  | fault
  deriving DecidableEq, Repr

/-- An instant (R3): engine cycle and offset 0-249 µs. -/
structure Instant where
  cycle : Word
  offset : Nat
  deriving DecidableEq, Repr

/-- A prepared fire (R106): the outbound cycle it is prepared for, and its offset. -/
structure PreparedFire where
  cycle : Word
  offset : Nat
  deriving DecidableEq, Repr

/-- The state of a planned knife (R106). -/
inductive KnifeState where
  | planned
  | issued
  | withheld
  deriving DecidableEq, Repr

/-- A fire plan (R106). -/
structure FirePlan where
  fire : Instant
  dRun : Nat
  delay : Nat
  knife : Instant
  clamped : Bool
  knifeState : KnifeState
  late : Bool
  windowEnd : Option Instant
  lag : Option Nat
  deriving DecidableEq, Repr

/-- The fire scheduler of a stand (R106). -/
structure Scheduler where
  target : Option Nat
  nRef : Option Nat
  tapeTravel : Nat
  prepared : Option PreparedFire
  plan : Option FirePlan
  deriving DecidableEq, Repr

/-- The grant recorded with a sequence (R139). -/
structure GrantRecord where
  wait : Nat
  urgent : Bool
  deriving DecidableEq, Repr

/-- What is kept with a sequence at the write of its fire, for its log entry (R93, R161). -/
structure KeptSequence where
  wait : Nat
  urgent : Bool
  forced : Bool
  deriving DecidableEq, Repr

/-- The command counts of a stand's four command slots (R2). -/
structure CommandCounts where
  driveA : BitVec 3
  driveB : BitVec 3
  paste : BitVec 3
  knife : BitVec 3
  deriving DecidableEq, Repr

/-! ### Faults (chapter 8) and parameters (chapter 11) -/

/-- The seven fault kinds (R141). -/
inductive FaultKind where
  | reelMismatch
  | accelTimeout
  | tapeLost
  | signalStale
  | confirmTimeout
  | linkLoss
  | claimConflict
  deriving DecidableEq, Repr

/-- The signals a SIGNAL-STALE fault can name (R35). -/
inductive StaleSignal where
  | line
  | spindleA
  | spindleB
  | status
  deriving DecidableEq, Repr

/-- A fault record that is not empty (R142). -/
structure FaultRecord where
  kind : FaultKind
  cycle : Word
  stateAt : StandState
  fireIssued : Bool
  arm : Arm
  signal : Option StaleSignal
  further : Bool
  deriving DecidableEq, Repr

/-- The stand parameters, in the order of R182. -/
structure Params where
  dS : Nat
  dEmerg : Nat
  tLead : Nat
  tMatchMax : Nat
  ovs : Nat
  tol : Nat
  hyst : Nat
  sensorLead : Nat
  tPaste : Nat
  lKnife : Nat
  tKnife : Nat
  minGap : Nat
  maxGap : Nat
  tConfirm : Nat
  mismatchTol : Nat
  riseTol : Nat
  group : GroupId
  defaultGrade : Fin 16
  deriving DecidableEq, Repr

/-- One stand unit. The first five fields belong to the stand index and outlive its time in service.
awaitsRelease says that the stand was put online with its pin asserted and has seen no release edge since
(R189, log 13). stepUrgent is the urgency of the last measurement step, which the image uses (R156, log 29). -/
structure Stand where
  params : Params
  map : SlotMap
  queue : List ReelRecord
  pinAsserted : Bool
  pinSettled : Bool
  state : StandState
  runningArm : Arm
  requestInhibit : Bool
  awaitsRelease : Bool
  forced : Bool
  braking : Bool
  accelTimer : Option Nat
  claimLost : Bool
  linkLoss : Bool
  counts : CommandCounts
  armA : ArmState
  armB : ArmState
  status : Status
  watch : StaleWatch
  window : Option DiameterWindow
  acceptOpen : Bool
  lRem : Option Nat
  tTs : Option Nat
  stepUrgent : Bool
  gaugeWindow : Option GaugeWindow
  lastDg : Option Nat
  sNew : Option Nat
  running : Option RunningContext
  ready : Option ReadyContext
  mountPending : Bool
  sched : Scheduler
  requestStart : Option Word
  grant : Option GrantRecord
  kept : Option KeptSequence
  record : Option FaultRecord
  deriving DecidableEq, Repr

/-! ### The part -/

/-- A grant state (R127). SPACING holds the remaining length, and whether the step of the release's own
cycle is still to come, which does not count (R137). -/
inductive GrantState where
  | free
  | held (k : StandId)
  | spacing (remaining : Nat) (waits : Bool)
  deriving DecidableEq, Repr

/-- A group arbiter and its group table entry (R127, R138); bit k of the requester set is stand k. -/
structure Group where
  grant : GrantState
  requesters : BitVec 8
  stagger : Nat
  deriving DecidableEq, Repr

/-- A grade table entry (R186). -/
structure Grade where
  caliper : Nat
  band : Nat
  deriving DecidableEq, Repr

/-- The outcome of a logged sequence (R160). -/
inductive LogOutcome where
  | spliced
  | noConfirm
  | aborted
  deriving DecidableEq, Repr

/-- A splice log entry (R161). -/
structure LogEntry where
  stand : StandId
  outcome : LogOutcome
  expiring : Word
  newRoll : Word
  width : Nat
  fire : Instant
  delay : Nat
  clamped : Bool
  late : Bool
  dRun : Nat
  lag : Option Nat
  wait : Nat
  urgent : Bool
  forced : Bool
  deriving DecidableEq, Repr

/-- The reply codes of section 1.11. -/
inductive ReplyCode where
  | done
  | busy
  | badValue
  | badRequest
  | noSuch
  | full
  | duplicate
  | notOnline
  | notOffline
  | mapInvalid
  | noReady
  | needsArm
  deriving DecidableEq, Repr

/-- A held reply (R13, R168). -/
structure Reply where
  responder : BitVec 5
  kind : BitVec 4
  stand : BitVec 4
  code : ReplyCode
  payload : Payload
  deriving DecidableEq, Repr

/-- A return frame of the current cycle that is passing (R10, R11): its samples while their capture is
still possible, and the reply to write into its last field. -/
structure InFlight where
  samples : Option (Vector Slot 96)
  reply : Option Reply
  deriving DecidableEq, Repr

/-- The part. outFrame and retFrame are the frames last repeated at OUT-OUT and RET-OUT, outArrived and
retArrived the same frames as they reached OUT-IN and RET-IN; outPassing says that the part writes into the
outbound frame last begun and its last field, the request, has not wholly passed (log 19, R1, R187). -/
structure State where
  inReset : Bool
  nodeAddr : BitVec 5
  lastCycle : Option (BitVec 16)
  engineCycle : Option Word
  watchArmed : Bool
  linkLost : Bool
  stepPending : Bool
  returnDecided : Bool
  inFlight : Option InFlight
  heldReply : Option Reply
  imageCount : BitVec 3
  imageMap : Option (Fin 96 × Fin 96)
  imageActive : Option (Fin 96 × Fin 96)
  lineMap : Option RetEntry
  line : Line
  lineSpeed : Nat
  lineInc : Nat
  grades : Vector Grade 16
  groups : Vector Group 4
  stands : Vector Stand 8
  log : List LogEntry
  overrun : Bool
  formed : List LogEntry
  outFrame : Option OutFrame
  outArrived : Option OutFrame
  outPassing : Bool
  retFrame : Option RetFrame
  retArrived : Option RetFrame
  freeIndex : Nat
  pending : List Instr
  deriving DecidableEq, Repr

/-! ### Reset values -/

/-- The defaults of R182. -/
def Params.default : Params where
  dS := 1800
  dEmerg := 1400
  tLead := 30000
  tMatchMax := 20000
  ovs := 5
  tol := 4
  hyst := 2
  sensorLead := 1024
  tPaste := 20000
  lKnife := 100000
  tKnife := 5000
  minGap := 10000
  maxGap := 300000
  tConfirm := 500
  mismatchTol := 150
  riseTol := 30
  group := 0
  defaultGrade := 0

/-- Every entry unset (R21, R38). -/
def SlotMap.unset : SlotMap := ⟨none, none, none, none, none, none, none, none, none⟩

/-- The entry condition of a signal (R25). -/
def Capture.entry : Capture := ⟨.waiting, 0, none⟩

/-- An arm at entry into service (R25, R41), with its two declared flags clear. -/
def ArmState.entry : ArmState where
  spindle := ⟨.entry, none, []⟩
  gauge := ⟨.entry, none, none⟩
  rate := 0
  unload := false
  declaredEmpty := false

/-- The scheduler after reset and at STAND-ONLINE (R106). -/
def Scheduler.empty : Scheduler := ⟨none, none, 0, none, none⟩

/-- A stand after reset (R182, R38, R78, R105, R106, R158, R189). -/
def Stand.afterReset : Stand where
  params := .default
  map := .unset
  queue := []
  pinAsserted := true
  pinSettled := false
  state := .offline
  runningArm := .a
  requestInhibit := false
  awaitsRelease := false
  forced := false
  braking := false
  accelTimer := none
  claimLost := false
  linkLoss := false
  counts := ⟨0, 0, 0, 0⟩
  armA := .entry
  armB := .entry
  status := ⟨.entry, none⟩
  watch := ⟨0, 0, 0⟩
  window := none
  acceptOpen := false
  lRem := none
  tTs := none
  stepUrgent := false
  gaugeWindow := none
  lastDg := none
  sNew := none
  running := none
  ready := none
  mountPending := false
  sched := .empty
  requestStart := none
  grant := none
  kept := none
  record := none

/-- A group after reset (R127). -/
def Group.afterReset : Group := ⟨.free, 0, 5000000⟩

/-- The part after the release of RESET with the given address latched (R187's table). -/
def State.afterReset (addr : BitVec 5) : State where
  inReset := false
  nodeAddr := addr
  lastCycle := none
  engineCycle := none
  watchArmed := false
  linkLost := false
  stepPending := false
  returnDecided := false
  inFlight := none
  heldReply := none
  imageCount := 0
  imageMap := none
  imageActive := none
  lineMap := none
  line := ⟨.entry, none, []⟩
  lineSpeed := 0
  lineInc := 0
  grades := Vector.replicate 16 ⟨70, 200⟩
  groups := Vector.replicate 4 .afterReset
  stands := Vector.replicate 8 .afterReset
  log := []
  overrun := false
  formed := []
  outFrame := none
  outArrived := none
  outPassing := false
  retFrame := none
  retArrived := none
  freeIndex := 0
  pending := []

/-- The machine right after reset. DESIGN CHOICE, unsafe (log 1): the address pins are tied on the
board; they read 7 here, the address of section 10.6's part. -/
def State.reset : State := .afterReset 7#5

end Sys2Proof.Machine
end

