-- ==== Sys2Proof/Machine/Ops.lean ====
section
/-!
DEFINITION. The named operations the meanings share: arithmetic of the conventions, instants, access to
stands and groups, the reel contexts, the group arbiters, the splice log, taking a fault and clearing
one.
-/
namespace Sys2Proof.Machine

/-! ### Arithmetic and instants -/

/-- Division that rounds half up (Conventions). -/
def roundDiv (n d : Nat) : Nat := (n + d / 2) / d

/-- The distance of two numbers. -/
def absDiff (a b : Nat) : Nat := (a - b) + (b - a)

/-- R3: the instant d µs after i. -/
def Instant.add (i : Instant) (d : Nat) : Instant :=
  ⟨i.cycle + BitVec.ofNat 32 ((i.offset + d) / 250), (i.offset + d) % 250⟩

/-- R3: µs from i to j, for j at or after i, cycles taken modulo 2^32. -/
def Instant.until (i j : Instant) : Nat := (j.cycle - i.cycle).toNat * 250 + j.offset - i.offset

/-- R3: engine cycle c lies after d; intervals are shorter than 2^31 cycles. -/
def cycleAfter (c d : Word) : Bool := c != d && decide ((c - d).toNat < 2 ^ 31)

/-- R3: i lies before j. -/
def Instant.before (i j : Instant) : Bool :=
  cycleAfter j.cycle i.cycle || (i.cycle == j.cycle && decide (i.offset < j.offset))

/-! ### Stands and groups -/

/-- The arm that is not x. -/
def otherArm : Arm → Arm
  | .a => .b
  | .b => .a

def Stand.arm (st : Stand) : Arm → ArmState
  | .a => st.armA
  | .b => st.armB

def Stand.setArm (st : Stand) (x : Arm) (v : ArmState) : Stand :=
  match x with
  | .a => { st with armA := v }
  | .b => { st with armB := v }

/-- R81: the arm the letter does not name. -/
def Stand.readyArm (st : Stand) : Arm := otherArm st.runningArm

/-- A stand in service: any state but OFFLINE. -/
def Stand.inService (st : Stand) : Bool := st.state != .offline

def State.stand (s : State) (k : StandId) : Stand := s.stands[k]

def State.setStand (s : State) (k : StandId) (st : Stand) : State :=
  { s with stands := s.stands.set k st }

def State.modStand (s : State) (k : StandId) (f : Stand → Stand) : State :=
  s.setStand k (f (s.stand k))

def State.group (s : State) (g : GroupId) : Group := s.groups[g]

def State.setGroup (s : State) (g : GroupId) (v : Group) : State :=
  { s with groups := s.groups.set g v }

/-- The group of a stand (R127); its folder group parameter cannot change while it matters. -/
def State.groupOf (s : State) (k : StandId) : GroupId := (s.stand k).params.group

/-- The engine cycle in force; 0 before the first outbound frame, where no rule asks for it (log 6). -/
def State.cycle (s : State) : Word := s.engineCycle.getD 0

def allStands : List StandId := [0, 1, 2, 3, 4, 5, 6, 7]

def allGroups : List GroupId := [0, 1, 2, 3]

/-- Some stand is in service (R23). -/
def State.anyOnline (s : State) : Bool := allStands.any fun k => (s.stand k).inService

/-! ### Conditions of a stand -/

/-- R28: the reel-present level of an arm; false while its GAUGE signal has no held value. -/
def Stand.level (st : Stand) (x : Arm) : Bool := (st.arm x).gauge.present.getD false

/-- R68: the arm shows a reel. -/
def Stand.showsReel (st : Stand) (x : Arm) : Bool := st.level x && !(st.arm x).unload

/-- R97: pin asserted, or request-inhibit flag set. -/
def Stand.inhibited (st : Stand) : Bool := st.pinAsserted || st.requestInhibit

/-- R52: the splice diameter in force. -/
def Stand.spliceDiameter (st : Stand) : Nat :=
  match st.running with
  | some r => r.override.getD st.params.dS
  | none => st.params.dS

/-- R90: diameter-valid set and D_run at or below D_s. -/
def Stand.dueByDiameter (st : Stand) : Bool :=
  match st.running with
  | some r => r.valid && decide (r.dRun ≤ st.spliceDiameter)
  | none => false

/-- R90: due. -/
def Stand.due (st : Stand) : Bool := st.dueByDiameter || st.forced

/-- R91: urgent. -/
def Stand.urgent (st : Stand) : Bool :=
  match st.running with
  | some r => r.valid && decide (r.dRun ≤ min st.params.dEmerg st.spliceDiameter)
  | none => false

/-- R47: the diameter-valid flag of the running context. -/
def Stand.diameterValid (st : Stand) : Bool :=
  match st.running with
  | some r => r.valid
  | none => false

/-- D_run of the running context, 0 without one. -/
def Stand.dRun (st : Stand) : Nat :=
  match st.running with
  | some r => r.dRun
  | none => 0

/-- R64: a ready context that counts toward the occupancy. -/
def Stand.holdsReturnable (st : Stand) : Bool :=
  match st.ready with
  | some r => !r.spent
  | none => false

/-- R64: the occupancy. -/
def Stand.occupancy (st : Stand) : Nat := st.queue.length + (if st.holdsReturnable then 1 else 0)

/-- R92, R129: the conditions of a requester. -/
def Stand.requests (st : Stand) : Bool :=
  st.state == .matched && st.due && !st.inhibited

/-- States in which the fire of the sequence has been written and SETTLE not reached. -/
def StandState.afterFire : StandState → Bool
  | .firingIssued => true
  | .confirm => true
  | _ => false

/-- R35: the watched states; also those of tape tracking (R113) and of TAPE-LOST (R115). -/
def StandState.watched : StandState → Bool
  | .accel => true
  | .matched => true
  | .firingPending => true
  | _ => false

/-- R183: the states in which a stand's parameters cannot be written. -/
def StandState.locksParams : StandState → Bool
  | .accel => true
  | .matched => true
  | .firingPending => true
  | .firingIssued => true
  | .confirm => true
  | .settle => true
  | _ => false

/-! ### Drive modes (R80, R144) -/

inductive DriveMode where
  | idle
  | speed
  | tension
  | brake
  deriving DecidableEq, Repr

def Stand.brakeOrIdle (st : Stand) : DriveMode := if st.braking then .brake else .idle

/-- R80, and in FAULT the posture of R144. -/
def Stand.readyMode (st : Stand) : DriveMode :=
  match st.state with
  | .offline => .idle
  | .running => st.brakeOrIdle
  | .checking => st.brakeOrIdle
  | .ready => st.brakeOrIdle
  | .accel => .speed
  | .matched => .speed
  | .firingPending => .speed
  | .firingIssued => .speed
  | .confirm => .speed
  | .settle => st.brakeOrIdle
  | .fault =>
    match st.record with
    | some r => if r.stateAt.afterFire then .tension else st.brakeOrIdle
    | none => st.brakeOrIdle

def Stand.driveMode (st : Stand) (x : Arm) : DriveMode :=
  if st.state = .offline then .idle
  else if x = st.runningArm then .tension
  else st.readyMode

/-- R5, R109: N_ref in mode SPEED, 0 in the other modes. -/
def Stand.speedRef (st : Stand) (x : Arm) : Nat :=
  if st.driveMode x = .speed then st.sched.nRef.getD 0 else 0

/-! ### Reel contexts (chapter 4) -/

/-- R72: a returnable ready context goes back to the head of the queue; an open gauge window closes
and S_new becomes absent (R59). Nothing happens without one. -/
def Stand.returnToHead (st : Stand) : Stand :=
  match st.ready with
  | some r =>
    if r.spent then st
    else { st with queue := r.record :: st.queue, ready := none, sNew := none, gaugeWindow := none }
  | none => st

/-- R71: the head record is bound to the ready arm, and the stand enters CHECKING with an empty gauge
window (R55). `waits` says that a request binds it in a cycle whose step is still to come (log 16).
Nothing happens on an empty queue. -/
def Stand.bindHead (st : Stand) (waits : Bool) : Stand :=
  match st.queue with
  | r :: rest =>
    { st with
      queue := rest
      ready := some ⟨r, st.readyArm, none, none, false⟩
      sNew := none
      mountPending := false
      state := .checking
      gaugeWindow := some ⟨st.readyArm, 0, 0, waits⟩ }
  | [] => st

/-- R71: the four binding conditions; in RUNNING the ready arm is IDLE when the braking flag is
clear. -/
def Stand.canBind (st : Stand) : Bool :=
  st.state == .running && !st.braking && st.mountPending && !st.queue.isEmpty

/-- R71: binding at the first point at which the conditions hold. -/
def Stand.tryBind (st : Stand) (waits : Bool) : Stand := if st.canBind then st.bindHead waits else st

/-- R48: a record's caliper, or its grade's. -/
def ReelRecord.caliperFrom (r : ReelRecord) (grades : Vector Grade 16) : Nat :=
  r.caliper.getD grades[r.grade].caliper

/-- R68: an arm's unload-required flag is set when its reel-present level is true. -/
def Stand.markUnload (st : Stand) (x : Arm) : Stand :=
  if st.level x then st.setArm x { st.arm x with unload := true } else st

/-- R75: the running context the ready context becomes. -/
def ReadyContext.toRunning (r : ReadyContext) (grades : Vector Grade 16) : RunningContext where
  roll := r.record.roll
  grade := r.record.grade
  core := some r.record.core
  width := some r.record.width
  override := r.record.override
  caliper := r.record.caliperFrom grades
  dRun := r.dNew.getD 0
  valid := true
  anchor := none

/-- R75: the transfer. The expiring arm is the one that was running. -/
def Stand.transfer (st : Stand) (grades : Vector Grade 16) : Stand :=
  match st.ready with
  | some r =>
    { st.markUnload st.runningArm with
      running := some (r.toRunning grades)
      ready := none
      sNew := none
      runningArm := st.readyArm }
  | none => st

/-- R149: the tape-spent ready context is discarded. -/
def Stand.discardReady (st : Stand) : Stand :=
  { st.markUnload st.readyArm with ready := none, sNew := none }

/-- R63: the roll IDs a stand holds, in its queue and its contexts, without the anonymous 0. -/
def Stand.rolls (st : Stand) : List Word :=
  st.queue.map (·.roll) ++
  (match st.ready with | some r => [r.record.roll] | none => []) ++
  (match st.running with | some r => (if r.roll = 0 then [] else [r.roll]) | none => [])

/-- R62: the roll ID is held in some queue or context of the part. -/
def State.holdsRoll (s : State) (roll : Word) : Bool :=
  allStands.any fun k => (s.stand k).rolls.contains roll

/-! ### Group arbiters (chapter 7) -/

def Group.has (v : Group) (k : StandId) : Bool := v.requesters.getLsbD k

def Group.add (v : Group) (k : StandId) : Group :=
  { v with requesters := v.requesters ||| (1#8 <<< k.val) }

def Group.remove (v : Group) (k : StandId) : Group :=
  { v with requesters := v.requesters &&& ~~~(1#8 <<< k.val) }

/-- R136: the release of a holder whose fire was written; a stagger length of 0 goes to FREE. `waits`
says that the step of the cycle in force is still to come; it does not count (R137). -/
def Group.toSpacing (v : Group) (waits : Bool) : Group :=
  { v with grant := if v.stagger = 0 then .free else .spacing v.stagger waits }

/-- R92, R129, R130: a stand in MATCHED joins or leaves its group's requester set as its conditions
hold, and its request start takes the engine cycle when it joins without one. -/
def State.refreshRequest (s : State) (k : StandId) : State :=
  let st := s.stand k
  let g := s.groupOf k
  if st.state = .matched then
    if st.requests then
      (s.setStand k { st with requestStart := some (st.requestStart.getD s.cycle) }).setGroup g
        ((s.group g).add k)
    else s.setGroup g ((s.group g).remove k)
  else s

/-- What leaving its present state costs a stand in its group: from MATCHED its request (R129), from
FIRING-pending the grant, to FREE (R135), from FIRING-issued and CONFIRM the grant, to SPACING
(R136). -/
def State.leaveGroup (s : State) (k : StandId) : State :=
  let g := s.groupOf k
  match (s.stand k).state with
  | .matched => s.setGroup g ((s.group g).remove k)
  | .firingPending => s.setGroup g { s.group g with grant := .free }
  | .firingIssued => s.setGroup g ((s.group g).toSpacing s.stepPending)
  | .confirm => s.setGroup g ((s.group g).toSpacing s.stepPending)
  | _ => s

/-- R132: stand j is placed before stand k. -/
def State.placedBefore (s : State) (j k : StandId) : Bool :=
  let a := s.stand j
  let b := s.stand k
  if a.urgent != b.urgent then a.urgent
  else if a.diameterValid != b.diameterValid then a.diameterValid
  else if a.diameterValid && a.dRun != b.dRun then decide (a.dRun < b.dRun)
  else decide (j < k)

/-- R131: a decision of group g may grant stand k. -/
def State.mayGrant (s : State) (g : GroupId) (k : StandId) : Bool :=
  (s.group g).has k &&
  (match (s.group g).grant with
   | .free => true
   | .held _ => false
   | .spacing _ _ => (s.stand k).urgent)

/-- One comparison of the choice of R132. -/
def State.better (s : State) (best : Option StandId) (k : StandId) : Option StandId :=
  match best with
  | none => some k
  | some j => if s.placedBefore k j then some k else some j

/-- R131, R132: the stand a decision of group g grants, if any. -/
def State.chosen (s : State) (g : GroupId) : Option StandId :=
  (allStands.filter (s.mayGrant g)).foldl s.better none

/-- R139: the stagger wait of a grant in the engine cycle in force. -/
def State.staggerWait (s : State) (k : StandId) : Nat :=
  (s.cycle - (s.stand k).requestStart.getD s.cycle).toNat

/-- R133: the grant of group g to stand k. -/
def State.grantTo (s : State) (g : GroupId) (k : StandId) : State :=
  let st := s.stand k
  (s.setGroup g { (s.group g).remove k with grant := .held k }).setStand k
    { st with state := .firingPending, grant := some ⟨s.staggerWait k, st.urgent⟩ }

/-- R131: a grant decision of group g. -/
def State.decideGroup (s : State) (g : GroupId) : State :=
  match s.chosen g with
  | some k => s.grantTo g k
  | none => s

/-- R131, point 1: the decisions after the steps of one cycle. -/
def State.decideAll (s : State) : State := allGroups.foldl State.decideGroup s

/-- R131, points 2 to 4: group g decides when its requester set or grant state has changed. -/
def State.decideChangedGroup (before : State) (s : State) (g : GroupId) : State :=
  if (before.group g).grant = (s.group g).grant ∧
      (before.group g).requesters = (s.group g).requesters then s
  else s.decideGroup g

/-- R131, R175: the decisions at the end of a request, pin event, link loss or claim conflict. -/
def State.decideChanged (before s : State) : State :=
  allGroups.foldl (State.decideChangedGroup before) s

/-! ### Splice log (chapter 9) -/

/-- R161: the entry of a stand's sequence. A stand without contexts, plan or kept values forms none,
which no stand after its fire is (log 18). -/
def Stand.logEntry (st : Stand) (k : StandId) (o : LogOutcome) : Option LogEntry :=
  match st.running, st.ready, st.sched.plan, st.kept with
  | some old, some new, some p, some q =>
    some
      { stand := k
        outcome := o
        expiring := old.roll
        newRoll := new.record.roll
        width := new.record.width
        fire := p.fire
        delay := p.delay
        clamped := p.clamped
        late := p.late
        dRun := p.dRun
        lag := if o = .spliced then p.lag else none
        wait := q.wait
        urgent := q.urgent
        forced := q.forced }
  | _, _, _, _ => none

/-- An entry of the stand is formed, to join the log at the end of the event. -/
def State.formEntry (s : State) (k : StandId) (o : LogOutcome) : State :=
  { s with formed := s.formed ++ ((s.stand k).logEntry k o).toList }

/-- R162, R163: an entry joins a list of entries at the tail; a list of 32 loses its oldest. -/
def pushEntry (l : List LogEntry) (e : LogEntry) : List LogEntry :=
  if l.length < 32 then l ++ [e] else l.drop (l.length - 31) ++ [e]

/-- R162, R163: an entry joins the log, and sets the overrun flag when the log is full. -/
def State.appendEntry (s : State) (e : LogEntry) : State :=
  { s with log := pushEntry s.log e, overrun := s.overrun || decide (32 ≤ s.log.length) }

/-- Insertion by an open order's key (log 7); a single element needs no key. -/
def insertKeyed {α : Type} (key : α → Nat) (x : α) : List α → List α
  | [] => [x]
  | y :: ys => if key x < key y then x :: y :: ys else y :: insertKeyed key x ys

/-- The elements in the order of an open order's key. -/
def sortKeyed {α : Type} (key : α → Nat) : List α → List α
  | [] => []
  | x :: xs => insertKeyed key x (sortKeyed key xs)

/-- R162: the entries formed by the event join the log, in an order the manual leaves open (log 7). -/
def State.joinLog (s : State) : State :=
  (sortKeyed (fun e => Config.eventOrder s.freeIndex e.stand) s.formed).foldl State.appendEntry
    { s with formed := [] }

/-! ### Taking a fault (R104, R141 to R145) -/

/-- R142: the record of a fault latched in the present state. -/
def Stand.newRecord (st : Stand) (kind : FaultKind) (c : Word) (sig : Option StaleSignal) :
    FaultRecord where
  kind := kind
  cycle := c
  stateAt := st.state
  fireIssued := st.state.afterFire || st.state == .settle
  arm := st.runningArm
  signal := sig
  further := false

/-- R143: a further fault. -/
def Stand.markFurther (st : Stand) : Stand :=
  match st.record with
  | some r => { st with record := some { r with further := true } }
  | none => st

/-- R121, R125: the plan at entry to FAULT: a knife not yet written is withheld. -/
def FirePlan.atFault (p : FirePlan) (left : StandState) : FirePlan :=
  if left = .firingIssued then { p with knifeState := .withheld } else p

/-- R125: the scheduler at entry to FAULT, or at a return to READY by inhibit: no prepared fire, S_t
and N_ref absent. -/
def Scheduler.stopped (c : Scheduler) : Scheduler :=
  { c with target := none, nRef := none, prepared := none }

/-- R144: the braking flag at entry to FAULT. -/
def Stand.brakingAtFault (st : Stand) : Bool :=
  if st.state.watched then true else if st.state.afterFire then false else st.braking

/-- R104: what the stand itself does at entry to FAULT. -/
def Stand.enterFault (st : Stand) (kind : FaultKind) (c : Word) (sig : Option StaleSignal) : Stand :=
  let base := if st.state = .checking then { st.returnToHead with gaugeWindow := none } else st
  { base with
    state := .fault
    record := some (st.newRecord kind c sig)
    accelTimer := none
    forced := false
    braking := st.brakingAtFault
    sched := { st.sched.stopped with plan := st.sched.plan.map (·.atFault st.state) } }

/-- R160: the outcome logged at a fault after the fire. -/
def FaultKind.outcome (kind : FaultKind) : LogOutcome :=
  if kind = .confirmTimeout then .noConfirm else .aborted

/-- R141: the fault unit takes a fault for a stand: latched from any state in service, a further fault
in FAULT (R143), nothing for an OFFLINE stand. The log entry is formed first (R161), then the group is
released (R135, R136). -/
def State.takeFault (s : State) (k : StandId) (kind : FaultKind) (sig : Option StaleSignal) : State :=
  match (s.stand k).state with
  | .offline => s
  | .fault => s.modStand k Stand.markFurther
  | _ =>
    let s1 := if (s.stand k).state.afterFire then s.formEntry k kind.outcome else s
    (s1.leaveGroup k).modStand k fun st => st.enterFault kind s.cycle sig

/-! ### Clearing a fault (R147 to R153) -/

/-- R149: roles kept. -/
def Stand.keepRoles (st : Stand) : Stand := { st.discardReady with braking := true }

/-- R150: swap completed. -/
def Stand.completeSwap (st : Stand) (grades : Vector Grade 16) : Stand :=
  { st.transfer grades with braking := true }

/-- R152: what every clear does before the stand enters its next state. -/
def Stand.dropFault (st : Stand) : Stand :=
  { st with
    record := none
    claimLost := false
    linkLoss := false
    acceptOpen := true
    running := st.running.map fun r => { r with anchor := none }
    window := none }

/-- R153, items 3 and 4. -/
def Stand.enterUnready (st : Stand) (waits : Bool) : Stand :=
  if st.ready.isNone && st.showsReel st.readyArm && !st.queue.isEmpty && !st.braking then
    st.bindHead waits
  else
    { st with
      state := .running
      mountPending := st.mountPending || (st.ready.isNone && st.showsReel st.readyArm) }

/-- R153: the state a cleared stand enters. -/
def Stand.enterCleared (st : Stand) (waits : Bool) : Stand :=
  match st.ready with
  | some r =>
    if !r.spent && !st.showsReel r.arm then st.returnToHead.enterUnready waits
    else if r.dNew.isSome && st.showsReel r.arm then { st with state := .ready }
    else st.enterUnready waits
  | none => st.enterUnready waits

/-- R152: a clear; `waits` is that of a binding it makes. -/
def Stand.clearFault (st : Stand) (waits : Bool) : Stand := st.dropFault.enterCleared waits

/-- The state at fault of a stand in FAULT needs a named arm (R147). -/
def Stand.needsArm (st : Stand) : Bool :=
  match st.record with
  | some r => r.stateAt.afterFire
  | none => false

/-! ### Inhibit (R98, R99) -/

/-- R99: what the stand itself does at a return to READY by inhibit. -/
def Stand.returnReady (st : Stand) : Stand :=
  let base : Stand :=
    { st with braking := true, accelTimer := none, sched := st.sched.stopped, state := .ready }
  if st.level st.readyArm then base else { base.returnToHead with state := .running }

/-- R98: the effect on a stand that has just become inhibited. -/
def State.becomeInhibited (s : State) (k : StandId) : State :=
  if (s.stand k).state.watched then (s.leaveGroup k).modStand k Stand.returnReady else s

/-! ### Leaving service, and reset of what it held -/

/-- What belongs to the stand index and outlives its time in service: parameters, map, queue, inhibit
pin (R182, R21, R65, R103), with the running-arm letter and the command counts as they stand. -/
def Stand.outOfService (st : Stand) : Stand :=
  { Stand.afterReset with
    params := st.params
    map := st.map
    queue := st.queue
    pinAsserted := st.pinAsserted
    pinSettled := st.pinSettled
    runningArm := st.runningArm
    counts := st.counts }

/-- R76, R103: STAND-OFFLINE at the stand. -/
def Stand.goOffline (st : Stand) : Stand := st.returnToHead.outOfService

end Sys2Proof.Machine
end

