-- ==== Sys2Proof/Machine/Operands.lean ====
section
/-!
DEFINITION. Every operand form: reading the fields of payloads and selectors, the layouts of section
1.11 and of R172, the checks on received values, and the access to maps and parameters by index.
-/
namespace Sys2Proof.Machine

/-! ### Fields of received words -/

/-- The number in n payload bytes from byte b on, least significant byte first (R20). -/
def Payload.bytes (p : Payload) (b n : Nat) : Nat := (p.extractLsb' (8 * b) (8 * n)).toNat

/-- Spindle sample: angle in bits 0-11. -/
def spindleAngle (w : BitVec 32) : Angle := w.extractLsb' 0 12

/-- R29: an offset of 250-255 µs is taken as 249. -/
def boundOffset (n : Nat) : Nat := min n 249

/-- Spindle sample: tape-mark flag in bit 12, offset in bits 16-23, bounded (R29). -/
def spindleMark (w : BitVec 32) : Option Nat :=
  if w.getLsbD 12 then some (boundOffset (w.extractLsb' 16 8).toNat) else none

/-- R29: a gauge diameter above 16000 is taken as 16000. -/
def boundDiameter (n : Nat) : Nat := min n 16000

/-- Gauge sample: diameter in bits 0-13; 0 is no reading (R28). -/
def gaugeDiameter (w : BitVec 32) : Option Nat :=
  let d := (w.extractLsb' 0 14).toNat
  if d = 0 then none else some (boundDiameter d)

/-- Gauge sample: reel-present flag in bit 14. -/
def gaugePresent (w : BitVec 32) : Bool := w.getLsbD 14

/-- STATUS sample: splice-confirm flag in bit 0, offset in bits 8-15, bounded (R29). -/
def statusConfirm (w : BitVec 32) : Option Nat :=
  if w.getLsbD 0 then some (boundOffset (w.extractLsb' 8 8).toNat) else none

/-- STATUS sample: paste-home in bit 1, knife-home in bit 2. -/
def statusHome (w : BitVec 32) : HomeFlags := ⟨w.getLsbD 1, w.getLsbD 2⟩

/-- LINE sample: web position in bits 0-23. -/
def linePosition (w : BitVec 32) : BitVec 24 := w.extractLsb' 0 24

/-! ### Writing words -/

/-- A list of fields, each a number of bytes and a value, placed from byte 0 in order, least significant
byte first (R20, R172). -/
def packNat : List (Nat × Nat) → Nat
  | [] => 0
  | (n, v) :: rest => v % 256 ^ n + 256 ^ n * packNat rest

/-- A 16-byte payload of fields; bytes after the last are 0 (R172). -/
def pack (fields : List (Nat × Nat)) : Payload := BitVec.ofNat 128 (packNat fields)

/-- A bit as a number. -/
def bit (b : Bool) : Nat := if b then 1 else 0

/-- Flags of one byte, from bit 0 on (R172). -/
def flagBits : List Bool → Nat
  | [] => 0
  | b :: rest => bit b + 2 * flagBits rest

/-- Codes of the layouts. -/
def armCode : Arm → Nat
  | .a => 0
  | .b => 1

def DriveMode.code : DriveMode → Nat
  | .idle => 0
  | .speed => 1
  | .tension => 2
  | .brake => 3

def StandState.code : StandState → Nat
  | .offline => 0
  | .running => 1
  | .checking => 2
  | .ready => 3
  | .accel => 4
  | .matched => 5
  | .firingPending => 6
  | .firingIssued => 7
  | .confirm => 8
  | .settle => 9
  | .fault => 10

def ReplyCode.code : ReplyCode → BitVec 4
  | .done => 0
  | .busy => 1
  | .badValue => 2
  | .badRequest => 3
  | .noSuch => 4
  | .full => 5
  | .duplicate => 6
  | .notOnline => 7
  | .notOffline => 8
  | .mapInvalid => 9
  | .noReady => 10
  | .needsArm => 11

def FaultKind.code : FaultKind → Nat
  | .reelMismatch => 1
  | .accelTimeout => 2
  | .tapeLost => 3
  | .signalStale => 4
  | .confirmTimeout => 5
  | .linkLoss => 6
  | .claimConflict => 7

def StaleSignal.code : StaleSignal → Nat
  | .line => 0
  | .spindleA => 1
  | .spindleB => 2
  | .status => 3

def KnifeState.code : KnifeState → Nat
  | .planned => 0
  | .issued => 1
  | .withheld => 2

def Condition.code : Condition → Nat
  | .waiting => 0
  | .live => 1
  | .stale => 2

def LogOutcome.code : LogOutcome → Nat
  | .spliced => 0
  | .noConfirm => 1
  | .aborted => 2

/-- DRIVE payload (section 1.11): mode in bits 0-1, speed reference in bits 16-31. -/
def drivePayload (m : DriveMode) (ref : Nat) : BitVec 32 :=
  BitVec.ofNat 32 (m.code + 65536 * (ref % 65536))

/-- PASTE or KNIFE payload: fire flag in bit 0, offset in bits 8-15; no command is all 0 (R5). -/
def firePayload : Option Nat → BitVec 32
  | some off => BitVec.ofNat 32 (1 + 256 * (off % 256))
  | none => 0

/-- The service reply field (section 1.11): responder 0-4, kind 5-8, stand index 9-12, code 16-19,
payload from bit 32. -/
def Reply.field (r : Reply) : ReplyField :=
  r.payload ++ (0#12 ++ (r.code.code ++ (0#3 ++ (r.stand ++ (r.kind ++ r.responder)))))

/-- R2: the slot the part writes. -/
def ownSlot (addr : BitVec 5) (count : BitVec 3) (payload : BitVec 32) : Slot := ⟨count, addr, payload⟩

/-! ### Reel records (R61, section 1.11) -/

/-- An optional field whose encoding 0 is absence. -/
def orAbsent (n : Nat) : Option Nat := if n = 0 then none else some n

/-- R61: the checks of a record; `n` are the fields as received. -/
def recordOk (roll grade mount core width override caliper : Nat) : Bool :=
  roll != 0 && decide (grade ≤ 15)
  && decide (3000 ≤ mount) && decide (mount ≤ 16000)
  && decide (700 ≤ core) && decide (core ≤ 2500) && decide (core + 501 ≤ mount)
  && decide (200 ≤ width) && decide (width ≤ 2200)
  && (override == 0 || (decide (1000 ≤ override) && decide (override ≤ 4000) && decide (core < override)))
  && (caliper == 0 || (decide (40 ≤ caliper) && decide (caliper ≤ 150)))

/-- The record of a payload, when it passes R61. -/
def recordOf (p : Payload) : Option ReelRecord :=
  let roll := Payload.bytes p 0 4
  let grade := Payload.bytes p 4 1
  let mount := Payload.bytes p 5 2
  let core := Payload.bytes p 7 2
  let width := Payload.bytes p 9 2
  let override := Payload.bytes p 11 2
  let caliper := Payload.bytes p 13 1
  if recordOk roll grade mount core width override caliper then
    some ⟨BitVec.ofNat 32 roll, Fin.ofNat 16 grade, mount, core, width, orAbsent override,
      orAbsent caliper⟩
  else none

/-- Bytes 0-13 of a record's layout, as fields. -/
def ReelRecord.fields (r : ReelRecord) : List (Nat × Nat) :=
  [(4, r.roll.toNat), (1, r.grade.val), (2, r.mount), (2, r.core), (2, r.width),
   (2, r.override.getD 0), (1, r.caliper.getD 0)]

/-! ### Splice log entries (section 1.11) -/

/-- Half 0 of an entry. -/
def LogEntry.half0 (e : LogEntry) : Payload :=
  pack
    [(4, e.expiring.toNat), (4, e.newRoll.toNat), (4, e.fire.cycle.toNat), (1, e.fire.offset),
     (1, e.stand.val + 8 * e.outcome.code + 32 * bit e.clamped + 64 * bit e.late + 128 * bit e.urgent),
     (2, e.width)]

/-- Half 1 of an entry. -/
def LogEntry.half1 (e : LogEntry) : Payload :=
  pack
    [(4, e.delay), (2, e.dRun), (4, e.lag.getD 0), (4, e.wait),
     (1, bit e.forced + 2 * bit e.lag.isSome), (1, 0)]

/-- A half of an entry, by its number. -/
def LogEntry.half (e : LogEntry) (h : Nat) : Payload :=
  if h = 0 then e.half0 else e.half1

/-! ### Maps (R21, R22, R174) -/

def Divisor.value : Divisor → Nat
  | .one => 1
  | .two => 2
  | .four => 4

/-- R31: the stale limit of a signal. -/
def Divisor.limit (d : Divisor) : Nat := 8 * d.value

def divisorOf : Nat → Option Divisor
  | 1 => some .one
  | 2 => some .two
  | 4 => some .four
  | _ => none

/-- A map value decoded from a payload: refused, or unset, or set. -/
inductive MapValue (α : Type) where
  | refused
  | unset
  | set (v : α)
  deriving DecidableEq, Repr

/-- R174: set byte, slot byte, divisor byte of a return entry (classes 2 and 3). -/
def returnValue (p : Payload) : MapValue RetEntry :=
  match Payload.bytes p 0 1 with
  | 0 => .unset
  | 1 =>
    if h : Payload.bytes p 1 1 < 96 then
      match divisorOf (Payload.bytes p 2 1) with
      | some d => .set ⟨⟨_, h⟩, d⟩
      | none => .refused
    else .refused
  | _ => .refused

/-- R174: an outbound entry; the divisor byte is ignored. -/
def outboundValue (p : Payload) : MapValue (Fin 48) :=
  match Payload.bytes p 0 1 with
  | 0 => .unset
  | 1 => if h : Payload.bytes p 1 1 < 48 then .set ⟨_, h⟩ else .refused
  | _ => .refused

/-- R23: the IMAGE map, two slots that differ. -/
def imageValue (p : Payload) : MapValue (Fin 96 × Fin 96) :=
  match Payload.bytes p 0 1 with
  | 0 => .unset
  | 1 =>
    if h : Payload.bytes p 1 1 < 96 ∧ Payload.bytes p 2 1 < 96 then
      if Payload.bytes p 1 1 = Payload.bytes p 2 1 then .refused else .set (⟨_, h.1⟩, ⟨_, h.2⟩)
    else .refused
  | _ => .refused

/-- The five return entries of a map, in the order of R171. -/
def SlotMap.returnEntries (m : SlotMap) : List (Option RetEntry) :=
  [m.spindleA, m.spindleB, m.gaugeA, m.gaugeB, m.status]

/-- The four outbound entries of a map, in the order of R171. -/
def SlotMap.outboundEntries (m : SlotMap) : List (Option (Fin 48)) :=
  [m.driveA, m.driveB, m.paste, m.knife]

def SlotMap.spindle (m : SlotMap) : Arm → Option RetEntry
  | .a => m.spindleA
  | .b => m.spindleB

def SlotMap.gauge (m : SlotMap) : Arm → Option RetEntry
  | .a => m.gaugeA
  | .b => m.gaugeB

/-- R24: all nine entries are set. -/
def SlotMap.complete (m : SlotMap) : Bool :=
  m.returnEntries.all (·.isSome) && m.outboundEntries.all (·.isSome)

/-- A write of a return entry, index 0-4 of R171. -/
def SlotMap.setReturn (m : SlotMap) (i : Nat) (v : Option RetEntry) : SlotMap :=
  match i with
  | 0 => { m with spindleA := v }
  | 1 => { m with spindleB := v }
  | 2 => { m with gaugeA := v }
  | 3 => { m with gaugeB := v }
  | _ => { m with status := v }

/-- A write of an outbound entry, index 5-8 of R171. -/
def SlotMap.setOutbound (m : SlotMap) (i : Nat) (v : Option (Fin 48)) : SlotMap :=
  match i with
  | 5 => { m with driveA := v }
  | 6 => { m with driveB := v }
  | 7 => { m with paste := v }
  | _ => { m with knife := v }

/-- R24, condition 3: the return slots that must differ for stand k to come online. -/
def State.returnSlots (s : State) (k : StandId) : List (Fin 96) :=
  (s.lineMap.toList.map (·.slot)) ++
  (match s.imageMap with | some (i, j) => [i, j] | none => []) ++
  (allStands.filter (fun j => j = k ∨ (s.stand j).inService = true)).flatMap fun j =>
    (s.stand j).map.returnEntries.flatMap fun e => e.toList.map (·.slot)

/-- R24, condition 4: the outbound slots that must differ. -/
def State.outboundSlots (s : State) (k : StandId) : List (Fin 48) :=
  (allStands.filter (fun j => j = k ∨ (s.stand j).inService = true)).flatMap fun j =>
    (s.stand j).map.outboundEntries.flatMap Option.toList

/-- R24: the map validation of a STAND-ONLINE. -/
def State.mapsValid (s : State) (k : StandId) : Bool :=
  (s.stand k).map.complete && s.lineMap.isSome
  && decide (s.returnSlots k).Nodup && decide (s.outboundSlots k).Nodup

/-! ### Parameters (R182 to R184) -/

/-- A parameter by its index in R171. -/
def Params.get (q : Params) (i : Nat) : Nat :=
  match i with
  | 0 => q.dS
  | 1 => q.dEmerg
  | 2 => q.tLead
  | 3 => q.tMatchMax
  | 4 => q.ovs
  | 5 => q.tol
  | 6 => q.hyst
  | 7 => q.sensorLead
  | 8 => q.tPaste
  | 9 => q.lKnife
  | 10 => q.tKnife
  | 11 => q.minGap
  | 12 => q.maxGap
  | 13 => q.tConfirm
  | 14 => q.mismatchTol
  | 15 => q.riseTol
  | 16 => q.group.val
  | _ => q.defaultGrade.val

/-- A parameter set with the parameter of an index replaced. -/
def Params.set (q : Params) (i v : Nat) : Params :=
  match i with
  | 0 => { q with dS := v }
  | 1 => { q with dEmerg := v }
  | 2 => { q with tLead := v }
  | 3 => { q with tMatchMax := v }
  | 4 => { q with ovs := v }
  | 5 => { q with tol := v }
  | 6 => { q with hyst := v }
  | 7 => { q with sensorLead := v }
  | 8 => { q with tPaste := v }
  | 9 => { q with lKnife := v }
  | 10 => { q with tKnife := v }
  | 11 => { q with minGap := v }
  | 12 => { q with maxGap := v }
  | 13 => { q with tConfirm := v }
  | 14 => { q with mismatchTol := v }
  | 15 => { q with riseTol := v }
  | 16 => { q with group := Fin.ofNat 4 v }
  | _ => { q with defaultGrade := Fin.ofNat 16 v }

/-- R182: the lowest and highest value of a parameter by itself. The linked bounds of D_emerg and of
the knife max gap are those of R184. -/
def paramRange (i : Nat) : Nat × Nat :=
  match i with
  | 0 => (1000, 4000)
  | 1 => (800, 4000)
  | 2 => (1000, 120000)
  | 3 => (1000, 60000)
  | 4 => (0, 50)
  | 5 => (1, 20)
  | 6 => (0, 20)
  | 7 => (0, 4095)
  | 8 => (1000, 250000)
  | 9 => (0, 1000000)
  | 10 => (0, 50000)
  | 11 => (1000, 100000)
  | 12 => (1000, 1000000)
  | 13 => (50, 5000)
  | 14 => (10, 1000)
  | 15 => (0, 500)
  | 16 => (0, 3)
  | _ => (0, 15)

/-- R183, check 2. -/
def paramInRange (i v : Nat) : Bool :=
  decide ((paramRange i).1 ≤ v) && decide (v ≤ (paramRange i).2)

/-- R184: the two relations a write keeps. -/
def Params.linked (q : Params) : Bool := decide (q.dEmerg ≤ q.dS) && decide (q.minGap ≤ q.maxGap)

/-- R183, check 3: the write would keep the relation its parameter stands in (R184). -/
def Params.linkOk (q : Params) (i v : Nat) : Bool :=
  match i with
  | 0 => decide (q.dEmerg ≤ v)
  | 1 => decide (v ≤ q.dS)
  | 11 => decide (v ≤ q.maxGap)
  | 12 => decide (q.minGap ≤ v)
  | _ => true

/-! ### Selectors (R171, R177, R179, R180) -/

/-- R171: the number of indices of an item class; 0 for a class that is not one. -/
def classSize : Nat → Nat
  | 1 => 18
  | 2 => 9
  | 3 => 1
  | 4 => 1
  | 5 => 16
  | 6 => 4
  | 7 => 4
  | 8 => 2
  | 9 => 2
  | 10 => 1
  | 11 => 6
  | 12 => 2
  | 13 => 2
  | 14 => 1
  | 15 => 1
  | 16 => 2
  | 17 => 1
  | 18 => 6
  | 19 => 1
  | _ => 0

/-- R169, check 3, of READ-ITEM: the selector names an item. -/
def readable (sel : BitVec 16) : Bool := decide (itemIndex sel < classSize (itemClass sel))

/-- R169, check 3, of WRITE-ITEM at the row of class c: the selector names an item of that class. -/
def writable (c : Nat) (sel : BitVec 16) : Bool :=
  itemClass sel == c && decide (itemIndex sel < classSize c)

/-- R177, R179: an arm field with a code for A and one for B. -/
def armField (sel : BitVec 16) (b codeA codeB : Nat) : Option Arm :=
  let v := (sel.extractLsb' b 2).toNat
  if v = codeA then some .a else if v = codeB then some .b else none

/-- R177: the ready-arm condition; true is MOUNTED, none is refused. -/
def conditionField (sel : BitVec 16) : Option Bool :=
  match (sel.extractLsb' 2 2).toNat with
  | 0 => some false
  | 1 => some true
  | _ => none

end Sys2Proof.Machine
end

