-- ==== Sys2Proof/Machine/Flags.lean ====
section
/-!
DEFINITION. The flags the part forms afresh from its state: attention, the part byte and the stand
image (chapter 8, section 1.11).
-/
namespace Sys2Proof.Machine

/-- R156, "reel needed, queue": the queue is empty and T_ts is at most twice T_lead. -/
def Stand.queueNeeded (st : Stand) : Bool :=
  st.queue.isEmpty &&
  (match st.tTs with | some t => decide (t ≤ 2 * st.params.tLead) | none => false)

/-- R156: the attention bit, with T_ts and urgency of the last measurement step. -/
def Stand.attention (st : Stand) : Bool :=
  st.inService &&
  (st.mountPending || st.queueNeeded || (st.state == .running && st.stepUrgent))

/-- R155: the inhibited bit, of an OFFLINE stand the pin's filtered level alone. -/
def Stand.inhibitedBit (st : Stand) : Bool := if st.inService then st.inhibited else st.pinAsserted

/-- R155: fault latched. -/
def Stand.faultLatched (st : Stand) : Bool := st.inService && st.record.isSome

/-- The 7-bit field of a stand (section 1.11, R155). -/
def Stand.imageField (st : Stand) : Nat :=
  st.state.code + 16 * bit st.faultLatched + 32 * bit st.inhibitedBit + 64 * bit st.attention

/-- R157: bits 0-3 of the part byte. -/
def State.partByte (s : State) : Nat :=
  flagBits
    [!s.log.isEmpty, s.overrun, allStands.any fun k => (s.stand k).claimLost,
     allStands.any fun k => (s.stand k).linkLoss]

/-- Four stand fields, the lowest at bit 0. -/
def State.imageQuad (s : State) (k0 k1 k2 k3 : StandId) : Nat :=
  (s.stand k0).imageField + 2 ^ 7 * (s.stand k1).imageField + 2 ^ 14 * (s.stand k2).imageField
    + 2 ^ 21 * (s.stand k3).imageField

/-- The payload of image slot 0 (section 1.11): stands 0-3, and bits 0-3 of the part byte. -/
def State.image0 (s : State) : BitVec 32 :=
  BitVec.ofNat 32 (s.imageQuad 0 1 2 3 + 2 ^ 28 * s.partByte)

/-- The payload of image slot 1: stands 4-7; bits 4-7 of the part byte are 0. -/
def State.image1 (s : State) : BitVec 32 := BitVec.ofNat 32 (s.imageQuad 4 5 6 7)

/-- R18: an address of 1-30 is a node address; with 0 or 31 the part passes everything through. -/
def State.hasAddress (s : State) : Bool := s.nodeAddr != 0 && s.nodeAddr != 31

end Sys2Proof.Machine
end

