-- ==== Sys2Proof/Machine/Capture.lean ====
section
/-!
DEFINITION. The capture step (chapter 2): which signals were refreshed, their held values, conditions
and histories, and what the step hands over.
-/
namespace Sys2Proof.Machine

/-- A signal's state when a step does not refresh it (R31): the count advances, saturating at 65535, and
at the stale limit a LIVE signal goes to STALE. -/
def Capture.age (c : Capture) (limit : Nat) : Capture :=
  let n := min 65535 (c.since + 1)
  { c with since := n, cond := if c.cond = .live ∧ limit ≤ n then .stale else c.cond }

/-- R27, R31: one capture of a signal's slot, none in a step without samples. The second value says
whether the signal was refreshed. -/
def Capture.take (c : Capture) (limit : Nat) (slot : Option Slot) : Capture × Bool :=
  match slot with
  | none => (c.age limit, false)
  | some sl =>
    match c.ref with
    | none => ({ c with ref := some sl.count }.age limit, false)
    | some r => if sl.count = r then (c.age limit, false) else (⟨.live, 0, some sl.count⟩, true)

/-- R31: stale, for every rule that speaks of a stale signal. -/
def Capture.isStale (c : Capture) : Bool := c.cond != .live

/-- R36: an entry joins a history of at most 17. -/
def pushHistory {α : Type} (h : List α) (v : α) : List α :=
  if h.length < 17 then h ++ [v] else h.drop (h.length - 16) ++ [v]

/-- R36: a history is complete with 17 entries. -/
def historyComplete {α : Type} (h : List α) : Bool := h.length == 17

/-- R36, R37: the history after a step: a LIVE signal appends its held value, except in a step of a
passed-over cycle; a signal that is not LIVE holds none. -/
def stepHistory {α : Type} (h : List α) (c : Capture) (held : Option α) (passedOver : Bool) : List α :=
  if c.isStale then [] else
    match held with
    | some v => if passedOver then h else pushHistory h v
    | none => h

/-- The slot a return entry names, in a step with samples. -/
def entrySlot (e : Option RetEntry) (samples : Option (Vector Slot 96)) : Option Slot :=
  match e, samples with
  | some r, some f => some f[r.slot]
  | _, _ => none

/-- The stale limit of an entry (R31); a signal in service has its entry set. -/
def entryLimit (e : Option RetEntry) : Nat :=
  match e with
  | some r => r.divisor.limit
  | none => 8

/-- What one capture step hands over of an arm (R26, R28, R30). -/
structure ArmHand where
  /-- the SPINDLE signal was refreshed -/
  refreshed : Bool
  /-- the SPINDLE signal was LIVE at the end of the previous step -/
  wasLive : Bool
  /-- the held angle at the end of the previous step -/
  before : Option Angle
  /-- the SPINDLE signal went from LIVE to STALE -/
  wentStale : Bool
  /-- the offset of a tape mark -/
  mark : Option Nat
  /-- a gauge reading that counts (R56) -/
  reading : Option Nat
  /-- a change of reel-present, to the level given -/
  change : Option Bool
  /-- the first gauge refresh reported a reel -/
  firstTrue : Bool
  deriving DecidableEq, Repr

/-- What one capture step hands over of a stand. -/
structure StandHand where
  a : ArmHand
  b : ArmHand
  /-- the offset of a splice-confirm -/
  confirm : Option Nat
  deriving DecidableEq, Repr

/-- What one capture step hands over of the LINE signal, with the line increment (R42). -/
structure LineHand where
  stale : Bool
  wentStale : Bool
  increment : Nat
  deriving DecidableEq, Repr

def StandHand.arm (h : StandHand) : Arm → ArmHand
  | .a => h.a
  | .b => h.b

/-- R28, R30: the capture of a SPINDLE signal. -/
def Spindle.step (g : Spindle) (e : Option RetEntry) (samples : Option (Vector Slot 96))
    (passedOver : Bool) : Spindle × Bool × Option Nat :=
  let slot := entrySlot e samples
  let (cap, fresh) := g.cap.take (entryLimit e) slot
  match fresh, slot with
  | true, some sl =>
    let held := some (spindleAngle sl.payload)
    (⟨cap, held, stepHistory g.hist cap held passedOver⟩, true, spindleMark sl.payload)
  | _, _ => (⟨cap, g.angle, stepHistory g.hist cap g.angle passedOver⟩, false, none)

/-- R28, R29: the capture of a GAUGE signal; the further values are the counting reading, the change of
reel-present and whether the first refresh reported a reel. -/
def Gauge.step (g : Gauge) (e : Option RetEntry) (samples : Option (Vector Slot 96)) :
    Gauge × Option Nat × Option Bool × Bool :=
  let slot := entrySlot e samples
  let (cap, fresh) := g.cap.take (entryLimit e) slot
  match fresh, slot with
  | true, some sl =>
    let d := gaugeDiameter sl.payload
    let present := gaugePresent sl.payload
    let held : Option Nat := match d with | some v => some v | none => g.diameter
    let change := match g.present with | some p => if p = present then none else some present | none => none
    (⟨cap, held, some present⟩, if present then d else none, change, g.present.isNone && present)
  | _, _ => (⟨cap, g.diameter, g.present⟩, none, none, false)

/-- R28, R30: the capture of a STATUS signal, with the splice-confirm it hands over. -/
def Status.step (g : Status) (e : Option RetEntry) (samples : Option (Vector Slot 96)) :
    Status × Option Nat :=
  let slot := entrySlot e samples
  let (cap, fresh) := g.cap.take (entryLimit e) slot
  match fresh, slot with
  | true, some sl => (⟨cap, some (statusHome sl.payload)⟩, statusConfirm sl.payload)
  | _, _ => (⟨cap, g.home⟩, none)

/-- R28: the capture of the LINE signal. -/
def Line.step (g : Line) (e : Option RetEntry) (samples : Option (Vector Slot 96))
    (passedOver : Bool) : Line :=
  let slot := entrySlot e samples
  let (cap, fresh) := g.cap.take (entryLimit e) slot
  match fresh, slot with
  | true, some sl =>
    let held := some (linePosition sl.payload)
    ⟨cap, held, stepHistory g.hist cap held passedOver⟩
  | _, _ => ⟨cap, g.pos, stepHistory g.hist cap g.pos passedOver⟩

/-- The capture of an arm's two signals. At the end of the step a false reel-present level clears the
unload-required flag (R68). -/
def ArmState.step (v : ArmState) (es eg : Option RetEntry) (samples : Option (Vector Slot 96))
    (passedOver : Bool) : ArmState × ArmHand :=
  let (sp, fresh, mark) := v.spindle.step es samples passedOver
  let (ga, reading, change, first) := v.gauge.step eg samples
  ({ v with spindle := sp, gauge := ga, unload := v.unload && ga.present.getD false },
   { refreshed := fresh
     wasLive := v.spindle.cap.cond == .live
     before := v.spindle.angle
     wentStale := v.spindle.cap.cond == .live && sp.cap.isStale
     mark := mark
     reading := reading
     change := change
     firstTrue := first })

/-- R26: the capture of a stand's five signals. -/
def Stand.captureStep (st : Stand) (samples : Option (Vector Slot 96)) (passedOver : Bool) :
    Stand × StandHand :=
  let (a, ha) := st.armA.step st.map.spindleA st.map.gaugeA samples passedOver
  let (b, hb) := st.armB.step st.map.spindleB st.map.gaugeB samples passedOver
  let (g, confirm) := st.status.step st.map.status samples
  ({ st with armA := a, armB := b, status := g }, ⟨ha, hb, confirm⟩)

/-- R42: the line increment from the held positions before and after a step. -/
def lineIncrement (before after : Option (BitVec 24)) : Nat :=
  match before, after with
  | some p, some q => if (q - p).toNat < 2 ^ 23 then (q - p).toNat else 0
  | _, _ => 0

/-- R40: the line speed of a history, when it is complete. -/
def speedOf (h : List (BitVec 24)) (old : Nat) : Nat :=
  match h.head?, h.getLast? with
  | some p, some q =>
    if historyComplete h then (if (q - p).toNat < 2 ^ 23 then (q - p).toNat else 0) else old
  | _, _ => old

/-- R26, R39, R40, R42: the capture of LINE and the line-wide quantities; nothing while the LINE map
is unset. -/
def State.lineStep (s : State) (samples : Option (Vector Slot 96)) (passedOver : Bool) :
    State × LineHand :=
  match s.lineMap with
  | none => (s, ⟨true, false, 0⟩)
  | some e =>
    let g := s.line.step (some e) samples passedOver
    let inc := lineIncrement s.line.pos g.pos
    ({ s with line := g, lineSpeed := speedOf g.hist s.lineSpeed, lineInc := inc },
     ⟨g.cap.isStale, s.line.cap.cond == .live && g.cap.isStale, inc⟩)

/-! ### Stale watch (R35) -/

/-- One stale-watch count. -/
def watchCount (n : Nat) (stale watched : Bool) : Nat :=
  if stale && watched then min 64 (n + 1) else 0

/-- R35: the counts at the end of a capture step. -/
def Stand.watchStep (st : Stand) (lineStale : Bool) : Stand :=
  let w := st.state.watched
  { st with
    watch :=
      { line := watchCount st.watch.line lineStale w
        spindle := watchCount st.watch.spindle (st.arm st.readyArm).spindle.cap.isStale w
        status := watchCount st.watch.status st.status.cap.isStale w } }

/-- The name of an arm's SPINDLE signal in a SIGNAL-STALE record. -/
def spindleName : Arm → StaleSignal
  | .a => .spindleA
  | .b => .spindleB

/-- R35: the signal a SIGNAL-STALE fault of the step names, if a count has reached 64. -/
def Stand.watchExpired (st : Stand) : Option StaleSignal :=
  if st.watch.line = 64 then some .line
  else if st.watch.spindle = 64 then some (spindleName st.readyArm)
  else if st.watch.status = 64 then some .status
  else none

/-! ### Entry into service (R25), restart at a break (R37) -/

/-- R37: every history of a stand is emptied, the running-diameter window is discarded (R45) and an open
gauge window restarts (R58). -/
def Stand.restart (st : Stand) : Stand :=
  { st with
    armA := { st.armA with spindle := { st.armA.spindle with hist := [] } }
    armB := { st.armB with spindle := { st.armB.spindle with hist := [] } }
    window := none
    gaugeWindow := st.gaugeWindow.map fun w => { w with sum := 0, count := 0 } }

/-- R4, R37: the restart at the marker of a break frame. -/
def State.restart (s : State) : State :=
  allStands.foldl (fun t k => t.modStand k Stand.restart) { s with line := { s.line with hist := [] } }

end Sys2Proof.Machine
end

