-- ==== Sys2Proof/Machine/Measure.lean ====
section
/-!
DEFINITION. The measurement step of a stand (chapter 3): spindle rates, running diameter, caliper
learning, remaining length and time to splice, gauging, surface speed of the ready reel.
-/
namespace Sys2Proof.Machine

/-! ### Spindle rates (R41) -/

/-- R41: the rate of a history, when it is complete. -/
def rateOf (h : List Angle) (old : Nat) : Nat :=
  match h.head?, h.getLast? with
  | some p, some q => if historyComplete h then (q - p).toNat else old
  | _, _ => old

def ArmState.measureRate (v : ArmState) : ArmState := { v with rate := rateOf v.spindle.hist v.rate }

def Stand.measureRates (st : Stand) : Stand :=
  { st with armA := st.armA.measureRate, armB := st.armB.measureRate }

/-! ### Running diameter and caliper (R43 to R51) -/

/-- R50: the travel of a present anchor, held exactly and saturating at 2^48 - 1. -/
def Anchor.advance (a : Anchor) (inc : Nat) : Anchor :=
  { a with travel := min (2 ^ 48 - 1) (a.travel + inc) }

/-- R50, at the stand. -/
def Stand.advanceAnchor (st : Stand) (inc : Nat) : Stand :=
  { st with running := st.running.map fun r => { r with anchor := r.anchor.map (·.advance inc) } }

/-- R51: the ring between two diameters, in 7854/10000 of the difference of their squares. -/
def ringArea (d0 d1 : Nat) : Nat := (d0 ^ 2 - d1 ^ 2) * 7854

/-- R51: the caliper in use after a learning check at diameter d. -/
def learnedCaliper (a : Anchor) (d : Nat) (grade : Grade) (old : Nat) : Nat :=
  if a.travel = 0 then old
  else
    let t := roundDiv (ringArea a.diameter d) (10 * a.travel)
    if absDiff t grade.caliper * 1000 ≤ grade.band * grade.caliper then t else old

/-- R46, R47, R49, R51: an accepted measurement becomes D_run, sets diameter-valid, and sets the anchor
or goes to a learning check. -/
def RunningContext.accept (r : RunningContext) (d : Nat) (grades : Vector Grade 16) : RunningContext :=
  match r.anchor with
  | none => { r with dRun := d, valid := true, anchor := some ⟨d, 0⟩ }
  | some a =>
    if d + 200 ≤ a.diameter then
      { r with
        dRun := d
        valid := true
        caliper := learnedCaliper a d grades[r.grade] r.caliper
        anchor := some ⟨d, 0⟩ }
    else { r with dRun := d, valid := true }

/-- R46: a completed measurement meets the acceptance test. -/
def Stand.acceptTest (st : Stand) (d : Nat) (grades : Vector Grade 16) : Stand :=
  if st.acceptOpen || decide (d ≤ st.dRun + st.params.riseTol) then
    { st with acceptOpen := false, running := st.running.map (·.accept d grades) }
  else st

/-- R44: D_meas of a completed window. -/
def measuredDiameter (line travel : Nat) : Nat := min 16000 (roundDiv (line * 4096000) (travel * 31416))

/-- R44: an open window advanced by a line increment and a spindle travel. -/
def DiameterWindow.advance (w : DiameterWindow) (inc : Nat) (travel : Angle) : DiameterWindow :=
  ⟨min (2 ^ 32 - 1) (w.line + inc), w.travel + travel.toNat, w.angle + travel⟩

/-- R44: the window of a stand is advanced; a complete one gives its measurement and restarts. -/
def Stand.advanceWindow (st : Stand) (w : DiameterWindow) (inc : Nat) (travel : Angle)
    (grades : Vector Grade 16) : Stand :=
  let v := w.advance inc travel
  if 4096 ≤ v.travel then
    { st with window := some ⟨0, 0, v.angle⟩ }.acceptTest (measuredDiameter v.line v.travel) grades
  else { st with window := some v }

/-- R43, R44: the running-diameter window in a measurement step. -/
def Stand.windowStep (st : Stand) (lineLive passedOver : Bool) (inc : Nat) (grades : Vector Grade 16) :
    Stand :=
  let sp := (st.arm st.runningArm).spindle
  if lineLive && !sp.cap.isStale then
    match st.window, sp.angle with
    | some w, some x => st.advanceWindow w inc (x - w.angle) grades
    | none, some x => if passedOver then st else { st with window := some ⟨0, 0, x⟩ }
    | _, none => st
  else st

/-! ### Remaining length and time to splice (R53, R54) -/

/-- R53: the remaining length of a running context of valid diameter. -/
def remainingLength (r : RunningContext) (dS : Nat) : Nat :=
  if r.dRun ≤ dS then 0 else min (2 ^ 32 - 1) (roundDiv (ringArea r.dRun dS) (10 * r.caliper))

/-- R54: the time to splice. -/
def timeToSplice (len speed : Nat) : Nat :=
  if len = 0 then 0
  else if speed = 0 then 2 ^ 32 - 1
  else min (2 ^ 32 - 1) (roundDiv (len * 4) speed)

/-- R53, R54, at the stand; both absent while the diameter is not valid. The urgency of the step is
kept for the image (R156). -/
def Stand.measureLength (st : Stand) (speed : Nat) : Stand :=
  let len : Option Nat :=
    match st.running with
    | some r => if r.valid then some (remainingLength r st.spliceDiameter) else none
    | none => none
  { st with lRem := len, tTs := len.map (timeToSplice · speed), stepUrgent := st.urgent }

/-! ### Gauging (R55 to R57) and the ready reel (R59) -/

/-- R56, R57: a counted reading; the second value is D_g when the window completes. -/
def Stand.countReading (st : Stand) (w : GaugeWindow) (d : Nat) : Stand × Option Nat :=
  if w.count + 1 < 64 then
    ({ st with gaugeWindow := some { w with sum := w.sum + d, count := w.count + 1 } }, none)
  else
    let dg := roundDiv (w.sum + d) 64
    ({ st with gaugeWindow := none, lastDg := some dg }, some dg)

/-- R55, R56: the gauge window in a measurement step; the step of the cycle whose request opened the
window counts nothing. -/
def Stand.gaugeStep (st : Stand) (h : StandHand) : Stand × Option Nat :=
  match st.gaugeWindow with
  | some w =>
    if w.waits then ({ st with gaugeWindow := some { w with waits := false } }, none)
    else
      match (h.arm w.arm).reading with
      | some d => st.countReading w d
      | none => (st, none)
  | none => (st, none)

/-- R59: the surface speed of a reel of diameter d at rate c. -/
def surfaceSpeed (c d : Nat) : Nat := roundDiv (c * d * 31416) 4096000

/-- R59, at the stand: absent without a gauged ready context. -/
def Stand.measureReady (st : Stand) : Stand :=
  { st with
    sNew :=
      match st.ready with
      | some r => r.dNew.map (surfaceSpeed (st.arm st.readyArm).rate)
      | none => none }

/-- R39: the stand's part of a measurement step; the second value is the D_g handed over (R57). DEDUCED: the
travel of an anchor grows before the window's measurement is taken (log 11). -/
def Stand.measureStep (st : Stand) (h : StandHand) (lineLive passedOver : Bool) (inc speed : Nat)
    (grades : Vector Grade 16) : Stand × Option Nat :=
  let st1 := (st.measureRates.advanceAnchor inc).windowStep lineLive passedOver inc grades
  let (st2, dg) := (st1.measureLength speed).gaugeStep h
  (st2.measureReady, dg)

/-! ### Spacing (R137) -/

/-- R137: a measurement step counts a spacing down, unless it is the step of the cycle that carried the
release. -/
def Group.countDown (v : Group) (inc : Nat) : Group :=
  match v.grant with
  | .spacing rest true => { v with grant := .spacing rest false }
  | .spacing rest false =>
    if rest ≤ inc then { v with grant := .free } else { v with grant := .spacing (rest - inc) false }
  | _ => v

def State.countDownGroup (s : State) (inc : Nat) (g : GroupId) : State :=
  s.setGroup g ((s.group g).countDown inc)

/-- R137: all groups take the same increment in the same step. -/
def State.countDown (s : State) (inc : Nat) : State :=
  allGroups.foldl (fun t g => t.countDownGroup inc g) s

end Sys2Proof.Machine
end

