-- ==== Sys2Proof/Machine/Schedule.lean ====
section
/-!
DEFINITION. The fire scheduler's work in a controller step (chapter 6), in the order of R107: tape
tracking, target and reference, acceleration timer, match band, paste opportunity, splice-confirm.
-/
namespace Sys2Proof.Machine

/-! ### Target speed and drive reference (R108, R109) -/

/-- R108. -/
def targetSpeed (speed ovs : Nat) : Nat := roundDiv (speed * (1000 + ovs)) 1000

/-- R109. -/
def driveReference (target dNew : Nat) : Nat := min 65535 (roundDiv (target * 65536000) (dNew * 31416))

/-- The gauged diameter of the ready context, 0 without one. -/
def Stand.dNew (st : Stand) : Nat := (st.ready.bind (·.dNew)).getD 0

/-- R108, R109: S_t and N_ref are formed. -/
def Stand.formTarget (st : Stand) (speed : Nat) : Stand :=
  let t := targetSpeed speed st.params.ovs
  { st with sched := { st.sched with target := some t, nRef := some (driveReference t st.dNew) } }

/-! ### Tape tracking (R113 to R115) -/

/-- R113: the interpolated tape angle. -/
def tapeAngle (a0 a1 : Angle) (o : Nat) : Angle :=
  a0 + BitVec.ofNat 12 (roundDiv ((a1 - a0).toNat * o) 250)

/-- R113: a mark is latched when the signal was LIVE at the end of the previous step. -/
def latchOf (h : ArmHand) (now : Option Angle) : Option Angle :=
  match h.mark, h.before, now with
  | some o, some a0, some a1 => if h.wasLive then some (tapeAngle a0 a1 o) else none
  | _, _, _ => none

/-- R115: the spindle travel of a step. The value for a first refresh without an earlier held angle is
`first`, which the manual leaves open (log 8). -/
def stepTravel (h : ArmHand) (now : Option Angle) (first : Nat) : Nat :=
  if h.refreshed then
    match h.before, now with
    | some a0, some a1 => (a1 - a0).toNat
    | _, _ => first % 4096
  else 0

/-- R115: the tape-watch limit, three turns. -/
def tapeLimit : Nat := 12288

/-- R113: a tape angle is latched into the ready context, and the tape watch starts again. -/
def Stand.latchTape (st : Stand) (x : Angle) : Stand :=
  { st with
    ready := st.ready.map fun r => { r with tape := some x }
    sched := { st.sched with tapeTravel := 0 } }

/-- R115: tape-watch travel is added. -/
def Stand.addTapeTravel (st : Stand) (n : Nat) : Stand :=
  { st with sched := { st.sched with tapeTravel := min tapeLimit (st.sched.tapeTravel + n) } }

/-- R107, item 1. -/
def Stand.trackTape (st : Stand) (h : ArmHand) (first : Nat) : Stand :=
  let now := (st.arm st.readyArm).spindle.angle
  match latchOf h now with
  | some x => st.latchTape x
  | none => st.addTapeTravel (stepTravel h now first)

/-- R115: the tape watch has reached its limit. -/
def Stand.tapeExpired (st : Stand) : Bool := decide (tapeLimit ≤ st.sched.tapeTravel)

/-! ### Acceleration timer (R112) -/

/-- R107, item 3: the count advances. -/
def Stand.tickAccel (st : Stand) : Stand := { st with accelTimer := some (st.accelTimer.getD 0 + 1) }

/-- R112: the timer has reached 4 × T_match_max. -/
def Stand.accelExpired (st : Stand) : Bool :=
  match st.accelTimer with
  | some n => decide (4 * st.params.tMatchMax ≤ n)
  | none => false

/-! ### Match band (R110, R111) -/

/-- R110: the band-entry test. -/
def Stand.bandEntry (st : Stand) : Bool :=
  match st.sNew, st.sched.target with
  | some v, some t => decide (0 < t) && decide (absDiff v t * 1000 ≤ st.params.tol * t)
  | _, _ => false

/-- R111: the band-exit test. -/
def Stand.bandExit (st : Stand) : Bool :=
  match st.sched.target with
  | some t =>
    t == 0 ||
    (match st.sNew with
     | some v => decide ((st.params.tol + st.params.hyst) * t < absDiff v t * 1000)
     | none => false)
  | none => false

/-! ### Paste opportunity (R116 to R118) -/

/-- R117: the time of one revolution, in µs. -/
def revolutionTime (c : Nat) : Nat := roundDiv (4096 * 4000) c

/-- R117: the arrival time of the tape at the nip, in µs from the start of the cycle. -/
def arrivalTime (contact now : Angle) (c : Nat) : Nat := roundDiv ((contact - now).toNat * 4000) c

/-- R117: the smallest number of whole revolutions that leaves the roller its time. -/
def revolutionsNeeded (tArr tRev tPaste : Nat) : Nat := (tPaste + 500 - tArr + (tRev - 1)) / tRev

/-- R117: the fire time. -/
def fireTime (contact now : Angle) (c tPaste : Nat) : Nat :=
  let tArr := arrivalTime contact now c
  let tRev := revolutionTime c
  tArr + revolutionsNeeded tArr tRev tPaste * tRev - tPaste

/-- R114: the paste contact angle. -/
def contactAngle (tape : Angle) (lead : Nat) : Angle := tape + BitVec.ofNat 12 lead

/-- R116, R118: the fire an evaluation in the step of engine cycle c prepares, if any. -/
def Stand.evaluatePaste (st : Stand) (h : ArmHand) (lineStale : Bool) (c : Word) :
    Option PreparedFire :=
  let v := st.arm st.readyArm
  match st.ready.bind (·.tape), v.spindle.angle with
  | some tape, some now =>
    if h.refreshed && decide (0 < v.rate) && !lineStale && !st.status.cap.isStale then
      let tf := fireTime (contactAngle tape st.params.sensorLead) now v.rate st.params.tPaste
      if tf < 750 then some ⟨c + 1, tf - 500⟩ else none
    else none
  | _, _ => none

/-! ### Splice-confirm (R123, R124) -/

/-- R123: the confirm lag of an accepted splice-confirm at instant i. -/
def confirmLag (knife i : Instant) : Nat := if i.before knife then 0 else knife.until i

/-- R123: the plan with the lag written, when a splice-confirm handed over in the step of engine cycle c
is accepted. -/
def FirePlan.accept (p : FirePlan) (confirm : Option Nat) (c : Word) : Option FirePlan :=
  match confirm, p.windowEnd with
  | some o, some e =>
    let i : Instant := ⟨c - 1, o⟩
    if i.before e then some { p with lag := some (confirmLag p.knife i) } else none
  | _, _ => none

/-- R124: the confirm window has ended in the step of engine cycle c. -/
def FirePlan.timedOut (p : FirePlan) (c : Word) : Bool :=
  match p.windowEnd with
  | some e => !(Instant.before ⟨c, 0⟩ e)
  | none => false

/-! ### The scheduler's step (R107) -/

/-- What the scheduler's work asks of the sequence controller. -/
inductive Verdict where
  | stay
  /-- a fault, with a further fault in the same step (R107) -/
  | fault (kind : FaultKind) (further : Bool)
  | enterMatched
  | leaveBand
  | confirmed
  deriving DecidableEq, Repr

/-- R107, items 3 and 4, for a stand that begins the step in ACCEL. -/
def Stand.accelWork (st : Stand) : Stand × Verdict :=
  let st1 := st.tickAccel
  if st1.accelExpired then (st1, .fault .accelTimeout false)
  else if st1.bandEntry then (st1, .enterMatched)
  else (st1, .stay)

/-- R107, items 4 and 5, for FIRING-pending. -/
def Stand.pendingWork (st : Stand) (h : ArmHand) (lineStale : Bool) (c : Word) : Stand × Verdict :=
  if st.bandExit then (st, .leaveBand)
  else
    match st.evaluatePaste h lineStale c with
    | some p => ({ st with sched := { st.sched with prepared := some p } }, .stay)
    | none => (st, .stay)

/-- R107, item 6, for CONFIRM. -/
def Stand.confirmWork (st : Stand) (confirm : Option Nat) (c : Word) : Stand × Verdict :=
  match st.sched.plan with
  | some p =>
    match p.accept confirm c with
    | some q => ({ st with sched := { st.sched with plan := some q } }, .confirmed)
    | none => if p.timedOut c then (st, .fault .confirmTimeout false) else (st, .stay)
  | none => (st, .stay)

/-- R107: the items after tape tracking. -/
def Stand.schedulerRest (st : Stand) (h : StandHand) (lineStale : Bool) (c : Word) : Stand × Verdict :=
  match st.state with
  | .accel => st.accelWork
  | .matched => if st.bandExit then (st, .leaveBand) else (st, .stay)
  | .firingPending => st.pendingWork (h.arm st.readyArm) lineStale c
  | .confirm => st.confirmWork h.confirm c
  | _ => (st, .stay)

/-- R107: the work of one step of engine cycle c, for a stand in ACCEL, MATCHED, FIRING or CONFIRM. A
TAPE-LOST leaves out the later items but for the timer of a stand in ACCEL. -/
def Stand.schedulerStep (st : Stand) (h : StandHand) (lineStale : Bool) (speed : Nat) (c : Word)
    (first : Nat) : Stand × Verdict :=
  let st1 := if st.state.watched then st.trackTape (h.arm st.readyArm) first else st
  if st.state.watched && st1.tapeExpired then
    if st.state = .accel then
      let st2 := st1.tickAccel
      (st2, .fault .tapeLost st2.accelExpired)
    else (st1, .fault .tapeLost false)
  else (st1.formTarget speed).schedulerRest h lineStale c

/-! ### The knife plan (R120, R121, R122) -/

/-- R120: the time the web takes from the nip to the knife, in µs. -/
def nipToKnife (lKnife speed : Nat) : Nat := roundDiv (lKnife * 4000) speed

/-- R120: the knife delay, and whether it was clamped. -/
def knifeDelay (q : Params) (speed : Nat) : Nat × Bool :=
  if speed = 0 then (q.maxGap, true)
  else
    let t := q.tPaste + nipToKnife q.lKnife speed
    if t < q.tKnife + q.minGap then (q.minGap, true)
    else if q.tKnife + q.maxGap < t then (q.maxGap, true)
    else (t - q.tKnife, false)

/-- R119, R120: the plan formed at the write of a fire that acts at instant i. -/
def firePlanAt (q : Params) (speed dRun : Nat) (i : Instant) : FirePlan where
  fire := i
  dRun := dRun
  delay := (knifeDelay q speed).1
  knife := i.add (knifeDelay q speed).1
  clamped := (knifeDelay q speed).2
  knifeState := .planned
  late := false
  windowEnd := none
  lag := none

/-- R16, R93, R119: the write of the fire that acts at instant i. -/
def Stand.issueFire (st : Stand) (speed : Nat) (i : Instant) : Stand :=
  let g := st.grant.getD ⟨0, false⟩
  { st with
    state := .firingIssued
    ready := st.ready.map fun r => { r with spent := true }
    kept := some ⟨g.wait, g.urgent, st.forced⟩
    sched :=
      { st.sched with
        prepared := none
        plan := some (firePlanAt st.params speed st.dRun i) } }

/-- R17: a planned knife is written in outbound m: its instant's cycle is at or before m+1. -/
def FirePlan.knifeDue (p : FirePlan) (m : Word) : Bool :=
  p.knifeState == .planned && !cycleAfter p.knife.cycle (m + 1)

/-- R17, R121, R122: the plan at the write of the knife in outbound m. -/
def FirePlan.issueKnife (p : FirePlan) (m : Word) (tConfirm : Nat) : FirePlan :=
  let late := p.knife.cycle != m + 1
  let i : Instant := if late then ⟨m + 1, 0⟩ else p.knife
  { p with
    knife := i
    delay := p.fire.until i
    knifeState := .issued
    late := late
    windowEnd := some (i.add (tConfirm * 1000)) }

/-- R94, R121: the write of the knife in outbound m. -/
def Stand.issueKnife (st : Stand) (p : FirePlan) (m : Word) : Stand :=
  { st with
    state := .confirm
    sched := { st.sched with plan := some (p.issueKnife m st.params.tConfirm) } }

end Sys2Proof.Machine
end

