-- ==== Sys2Proof/Machine/Controller.lean ====
section
/-!
DEFINITION. The sequence controller's step (chapter 5), and the step of one engine cycle: capture,
measurement, controllers, grant decisions, in the order of R26, R39, R85 and R131.
-/
namespace Sys2Proof.Machine

/-! ### Changes of reel-present (R69, R70, R73) -/

/-- R69: the hand-over is a mount edge on arm x. -/
def Stand.mountEdge (st : Stand) (x : Arm) (h : ArmHand) : Bool :=
  st.ready.isNone && (h.change == some true || (h.firstTrue && (st.arm x).declaredEmpty))

/-- R73: an unmount of the ready arm. In CHECKING and READY the context returns and the stand goes to
RUNNING; in FAULT a returnable context returns; in other states a context is kept. -/
def Stand.unmount (st : Stand) : Stand :=
  let st1 := { st with mountPending := false }
  match st.state with
  | .checking => { st1.returnToHead with state := .running, gaugeWindow := none }
  | .ready => { st1.returnToHead with state := .running, gaugeWindow := none }
  | .fault => st1.returnToHead
  | _ => st1

/-- R85: the changes of reel-present a step handed over. Only the ready arm's act. -/
def Stand.reelChanges (st : Stand) (h : StandHand) : Stand :=
  let x := st.readyArm
  if (h.arm x).change = some false then st.unmount
  else if st.mountEdge x (h.arm x) then { st with mountPending := true }
  else st

/-! ### The braking flag (R82, R96, R145) -/

/-- R96: the expiring arm is settled. -/
def Stand.settled (st : Stand) : Bool :=
  historyComplete (st.arm st.readyArm).spindle.hist && (st.arm st.readyArm).rate == 0

/-- R82, R96, R145: the braking flag in a step, as it stood before the transitions of the step (log 32). -/
def Stand.brakingStep (st : Stand) : Stand :=
  if st.state = .settle then { st with braking := st.braking && !st.settled }
  else { st with braking := st.braking && (st.arm st.readyArm).rate != 0 }

/-! ### Transitions (R86 to R89, R95, R96) -/

/-- R88, R189: the arming test. A stand put online with its pin asserted waits for a release edge. -/
def Stand.arms (st : Stand) : Bool :=
  !st.inhibited && !st.awaitsRelease && !st.braking &&
  ((match st.tTs with | some t => decide (t ≤ st.params.tLead) | none => false) || st.due)

/-- R89, R108, R114, R115, R125, R130, R139: entry to ACCEL from READY. -/
def Stand.enterAccel (st : Stand) (speed : Nat) : Stand :=
  let st1 : Stand :=
    { st with
      state := .accel
      accelTimer := some 0
      ready := st.ready.map fun r => { r with tape := none }
      requestStart := none
      grant := none
      kept := none
      sched := { st.sched with tapeTravel := 0, prepared := none, plan := none } }
  st1.formTarget speed

/-- R86: entry to READY with the gauged diameter. -/
def Stand.enterReady (st : Stand) (dg : Nat) : Stand :=
  let st1 : Stand :=
    { st with state := .ready, ready := st.ready.map fun r => { r with dNew := some dg } }
  st1.measureReady

/-- R86: D_g lies within the mismatch tolerance. -/
def Stand.gaugeFits (st : Stand) (dg : Nat) : Bool :=
  match st.ready with
  | some r => decide (absDiff dg r.record.mount ≤ st.params.mismatchTol)
  | none => false

/-- R96: both home flags, as held. -/
def Stand.bothHome (st : Stand) : Bool :=
  match st.status.home with
  | some h => h.paste && h.knife
  | none => false

/-- R96: the end of SETTLE, with the binding of R71 in the same step. -/
def Stand.settleWork (st : Stand) : Stand :=
  if !st.braking && st.bothHome then { st with state := .running, forced := false }.tryBind false else st

/-- R95: entry to SETTLE at the stand: transfer, acceptance-open, window discarded, braking. -/
def Stand.enterSettle (st : Stand) (grades : Vector Grade 16) : Stand :=
  { st.transfer grades with
    state := .settle
    acceptOpen := true
    window := none
    braking := true
    sched := st.sched.stopped }

/-- R95: the log entry is formed first, then the contexts are transferred and the group released. -/
def State.enterSettle (s : State) (k : StandId) : State :=
  ((s.formEntry k .spliced).leaveGroup k).modStand k fun st => st.enterSettle s.grades

/-- R110: entry to MATCHED; a stand whose conditions hold becomes a requester. -/
def State.enterMatched (s : State) (k : StandId) : State :=
  (s.modStand k fun st => { st with state := .matched, accelTimer := none }).refreshRequest k

/-- R111: the return to ACCEL by band exit. -/
def State.leaveBand (s : State) (k : StandId) : State :=
  (s.leaveGroup k).modStand k fun st =>
    { st with
      state := .accel
      accelTimer := some 0
      sched := { st.sched with prepared := none } }

/-- What a verdict of the scheduler makes of the stand. A stand in MATCHED joins the requesters only where it
stays: one that becomes due in the step in which it leaves the band or takes a fault does not, and its request
start is not formed then (DESIGN CHOICE, log 31). -/
def State.applyVerdict (s : State) (k : StandId) : Verdict → State
  | .stay => s.refreshRequest k
  | .fault kind further =>
    let s1 := s.takeFault k kind none
    if further then s1.takeFault k .accelTimeout none else s1
  | .enterMatched => s.enterMatched k
  | .leaveBand => s.leaveBand k
  | .confirmed => s.enterSettle k

/-- R86: a completed gauge window meets the sequence controller in CHECKING. -/
def State.gaugeDone (s : State) (k : StandId) (dg : Nat) : State :=
  if (s.stand k).gaugeFits dg then s.modStand k (·.enterReady dg)
  else s.takeFault k .reelMismatch none

/-- R85: the transitions of a step of engine cycle c for the state stand k is in. `unmounted` says that
the step's reel-present changes have taken the stand from CHECKING or READY to RUNNING. -/
def State.transitions (s : State) (k : StandId) (h : StandHand) (lineStale : Bool)
    (dg : Option Nat) (unmounted : Bool) : State :=
  let st := s.stand k
  match st.state with
  | .offline => s
  | .running => if unmounted then s else s.setStand k (st.tryBind false)
  | .checking => match dg with | some d => s.gaugeDone k d | none => s
  | .ready => if st.arms then s.setStand k (st.enterAccel s.lineSpeed) else s
  | .settle => s.setStand k st.settleWork
  | .fault => s
  | _ =>
    let (st1, v) :=
      st.schedulerStep h lineStale s.lineSpeed s.cycle (Config.firstTravel s.freeIndex k)
    (s.setStand k st1).applyVerdict k v

/-- R85: the controller step of stand k. The braking flag is worked out before the transitions, so that a flag
set by one of them, by a fault or at the entry to SETTLE, is not tested in that step (DESIGN CHOICE, log 32). -/
def State.controllerStep (s : State) (k : StandId) (h : StandHand) (lineStale : Bool)
    (dg : Option Nat) : State :=
  let st := s.stand k
  let st1 := st.reelChanges h
  let st2 := st1.brakingStep
  (s.setStand k st2).transitions k h lineStale dg (st.state != st1.state)

/-! ### The step of a cycle (R26, R39, R85) -/

/-- R32, R33, R45: LINE or the running arm's SPINDLE signal going stale discards the window. -/
def Stand.staleWindow (st : Stand) (h : StandHand) (lh : LineHand) : Stand :=
  if lh.wentStale || (h.arm st.runningArm).wentStale then { st with window := none } else st

/-- R35: the stale watch of stand k, and the SIGNAL-STALE fault of the capture step. -/
def State.watchStand (s : State) (k : StandId) (lineStale : Bool) : State :=
  let st := (s.stand k).watchStep lineStale
  let s1 := s.setStand k st
  match st.watchExpired with
  | some sig => s1.takeFault k .signalStale (some sig)
  | none => s1

/-- The capture, measurement and controller steps of stand k in one engine cycle. An OFFLINE stand
takes none. Stands meet only at their groups, whose decisions follow (log 23). -/
def State.standStep (samples : Option (Vector Slot 96)) (passedOver : Bool) (lh : LineHand) (s : State)
    (k : StandId) : State :=
  if (s.stand k).inService then
    let (st, h) := (s.stand k).captureStep samples passedOver
    let s1 := (s.setStand k (st.staleWindow h lh)).watchStand k lh.stale
    let (st2, dg) :=
      (s1.stand k).measureStep h (!lh.stale) passedOver lh.increment s.lineSpeed s.grades
    (s1.setStand k st2).controllerStep k h lh.stale dg
  else s

/-- R26, R39, R85, R131: the steps of the engine cycle in force, with the samples of its return frame or
without, and the decisions that follow. -/
def State.cycleStep (s : State) (samples : Option (Vector Slot 96)) (passedOver : Bool) : State :=
  let (s1, lh) := s.lineStep samples passedOver
  let s2 := allStands.foldl (State.standStep samples passedOver lh) (s1.countDown lh.increment)
  { s2.decideAll.joinLog with freeIndex := s.freeIndex + 1 }

end Sys2Proof.Machine
end

