-- ==== Sys2Proof/Machine/Link.lean ====
section
/-!
DEFINITION. The press link (chapter 1): OUTBOUND_START_MARKER, RETURN_FRAME, LINK_LOSS.
-/
namespace Sys2Proof.Machine

/-- What every meaning answers: no command stops the part. -/
abbrev Result := Host.Outcome State Fault Refusal

/-! ### The engine cycle (R3, R4) -/

/-- R3: the advance d of a received cycle number; 0 is taken as 65536. -/
def cycleAdvance (c : Word) (num : BitVec 16) : Nat :=
  let d := (num - c.setWidth 16).toNat
  if d = 0 then 65536 else d

/-- R4: the frame is a sequence break. -/
def State.breaks (s : State) (d : Nat) : Bool := d != 1 || s.linkLost

/-- R26: the step of the cycle in force, without samples, if it is still to be taken. -/
def State.pendingStep (s : State) : State :=
  if s.stepPending then { s with stepPending := false }.cycleStep none false else s

/-- R4, R26: n cycles are passed over, each with its step, in engine-cycle order. -/
def State.passOver : Nat → State → State
  | 0, s => s
  | n + 1, s => State.passOver n ({ s with engineCycle := some (s.cycle + 1) }.cycleStep none true)

/-- R16: the next frame is not the one a fire was prepared for: the fire is dropped, before the steps of
the passed-over cycles (R111; log 15). -/
def Stand.dropFire (st : Stand) : Stand := { st with sched := { st.sched with prepared := none } }

def State.dropFires (s : State) : State := allStands.foldl (fun t k => t.modStand k Stand.dropFire) s

/-- R11: the samples of a frame still passing are not captured once the next cycle has begun. -/
def State.discardSamples (s : State) : State :=
  { s with inFlight := s.inFlight.map fun f => { f with samples := none } }

/-- R3, R4, R26: the engine cycle advances by d. -/
def State.advanceCycle (s : State) (c : Word) (d : Nat) : State :=
  let s1 := (if d = 1 then s else s.dropFires).pendingStep
  let s2 := if s.breaks d then s1.restart else s1
  { (State.passOver (d - 1) s2) with engineCycle := some (c + BitVec.ofNat 32 d) }

/-- R1, R3, R11, R13, R14, R23: a marker begins a cycle. -/
def State.beginCycle (s : State) (num : BitVec 16) : State :=
  let s0 := { s.discardSamples with heldReply := none }
  let s1 :=
    match s0.engineCycle with
    | none => { s0 with engineCycle := some (num.setWidth 32) }
    | some c => s0.advanceCycle c (cycleAdvance c num)
  { s1 with
    lastCycle := some num
    watchArmed := true
    linkLost := false
    stepPending := true
    returnDecided := false
    imageActive := s1.imageMap }

/-! ### Claims (R7, R8) -/

/-- R7: a writer tag that is neither 0 nor the part's own. -/
def foreignTag (addr : BitVec 5) (sl : Slot) : Bool := sl.tag != 0 && sl.tag != addr

/-- The command slots a stand's map names. -/
def SlotMap.commandSlots (m : SlotMap) : List (Fin 48) := m.outboundEntries.flatMap Option.toList

/-- R7: the claim check of stand k fails on the slots as they arrived. -/
def State.claimFails (s : State) (slots : Vector Slot 48) (k : StandId) : Bool :=
  let st := s.stand k
  st.inService && !st.claimLost && st.map.commandSlots.any fun i => foreignTag s.nodeAddr slots[i]

/-- R7, R131: a claim conflict of stand k, one event, with its log entry and the decision after it. -/
def State.claimConflict (s : State) (k : StandId) : State :=
  let s1 := (s.modStand k fun st => { st with claimLost := true }).takeFault k .claimConflict none
  (State.decideChanged s s1).joinLog

/-- R7: the claim conflicts of a frame, in an order the manual leaves open (log 7). -/
def State.checkClaims (s : State) (slots : Vector Slot 48) : State :=
  let struck := allStands.filter (s.claimFails slots)
  let s1 := (sortKeyed (Config.eventOrder s.freeIndex) struck).foldl State.claimConflict s
  { s1 with freeIndex := s.freeIndex + 1 }

/-! ### Writing the command slots (R2, R5, R16, R17) -/

/-- R16, R119: the prepared fire of stand k in outbound m is written when it is m's and the stand still
waits for it; the offset written is returned. A prepared fire that is not written is dropped. -/
def State.fireStep (s : State) (k : StandId) (m : Word) : State × Option Nat :=
  let st := s.stand k
  match st.sched.prepared with
  | some p =>
    if st.state = .firingPending ∧ p.cycle = m then
      (s.setStand k (st.issueFire s.lineSpeed ⟨m + 1, p.offset⟩), some p.offset)
    else (s.setStand k st.dropFire, none)
  | none => (s, none)

/-- R17, R121: the planned knife of stand k in outbound m, with the offset written. -/
def State.knifeStep (s : State) (k : StandId) (m : Word) : State × Option Nat :=
  let st := s.stand k
  match st.sched.plan with
  | some p =>
    if st.state = .firingIssued ∧ p.knifeDue m = true then
      (s.setStand k (st.issueKnife p m), some (p.issueKnife m st.params.tConfirm).knife.offset)
    else (s, none)
  | none => (s, none)

/-- R2: a slot of the frame is written with the part's tag and a count. -/
def writeSlot (slots : Vector Slot 48) (i : Option (Fin 48)) (addr : BitVec 5) (n : BitVec 3)
    (payload : BitVec 32) : Vector Slot 48 :=
  match i with
  | some j => slots.set j (ownSlot addr n payload)
  | none => slots

/-- R2: every command count of a stand advances. -/
def CommandCounts.advance (c : CommandCounts) : CommandCounts :=
  ⟨c.driveA + 1, c.driveB + 1, c.paste + 1, c.knife + 1⟩

/-- R2, R5: the four slots of a stand as written, with its counts already advanced. -/
def Stand.writeSlots (st : Stand) (addr : BitVec 5) (fire knife : Option Nat) (slots : Vector Slot 48) :
    Vector Slot 48 :=
  let w0 := writeSlot slots st.map.driveA addr st.counts.driveA
    (drivePayload (st.driveMode .a) (st.speedRef .a))
  let w1 := writeSlot w0 st.map.driveB addr st.counts.driveB
    (drivePayload (st.driveMode .b) (st.speedRef .b))
  let w2 := writeSlot w1 st.map.paste addr st.counts.paste (firePayload fire)
  writeSlot w2 st.map.knife addr st.counts.knife (firePayload knife)

/-- R5: the part writes the slots of stand k. -/
def Stand.written (st : Stand) : Bool := st.inService && !st.claimLost

/-- R5, R16, R17: the writes of stand k in outbound m. -/
def State.writeStand (m : Word) (acc : State × Vector Slot 48) (k : StandId) :
    State × Vector Slot 48 :=
  if (acc.1.stand k).written then
    let (s1, fire) := acc.1.fireStep k m
    let (s2, knife) := s1.knifeStep k m
    let s3 := s2.modStand k fun st => { st with counts := st.counts.advance }
    (s3, (s3.stand k).writeSlots s3.nodeAddr fire knife acc.2)
  else acc

/-- An outbound frame passes unchanged. -/
def State.passOut (s : State) (f : OutFrame) : State :=
  { s with outFrame := some f, outArrived := some f, outPassing := false }

/-- R1, R5, R7, R13, R18: an outbound frame begins to pass, its request field as it arrived; with address 0
or 31 frames pass unchanged. -/
def State.passOutbound (s : State) (f : OutFrame) : State :=
  if s.hasAddress then
    let (s1, slots) := allStands.foldl (State.writeStand s.cycle) (s.checkClaims f.slots, f.slots)
    { s1 with outFrame := some { f with slots := slots }, outArrived := some f, outPassing := true }
  else s.passOut f

/-- OUTBOUND_START_MARKER (R1, R3 to R7, R13, R14, R16, R17). While RESET is asserted the frame is only
repeated (R19). -/
def State.startMarker (s : State) (f : OutFrame) : State :=
  if s.inReset then s.passOut f else (s.beginCycle f.cycle).passOutbound f

def execOutboundStartMarker (f : OutFrame) (s : State) : Result := .next (s.startMarker f)

/-! ### The return frame (R10 to R13) -/

/-- R12: both image slots are written while the IMAGE map is set. -/
def State.imageSlots (s : State) (slots : Vector Slot 96) : Vector Slot 96 :=
  match s.imageActive with
  | some (i, j) =>
    (slots.set i (ownSlot s.nodeAddr (s.imageCount + 1) s.image0)).set j
      (ownSlot s.nodeAddr (s.imageCount + 1) s.image1)
  | none => slots

/-- A return frame passes unchanged (R10). -/
def State.passReturn (s : State) (f : RetFrame) : State :=
  { s with retFrame := some f, retArrived := some f }

/-- R10, R12: the return frame of the current cycle reaches the part: the image is written, its samples
and the held reply go with it until its end. -/
def State.matchReturn (s : State) (f : RetFrame) : State :=
  if s.hasAddress then
    { s with
      returnDecided := true
      retFrame := some { f with slots := s.imageSlots f.slots }
      retArrived := some f
      imageCount := if s.imageActive.isSome then s.imageCount + 1 else s.imageCount
      inFlight := some ⟨some f.slots, s.heldReply⟩
      heldReply := none }
  else
    { s.passReturn f with returnDecided := true, inFlight := some ⟨some f.slots, none⟩ }

/-- R13: the return frame in flight with the reply it carries written into its last field. -/
def State.replyWritten (s : State) : Option RetFrame :=
  match s.inFlight.bind (·.reply) with
  | some r => s.retFrame.map fun f => { f with reply := r.field }
  | none => s.retFrame

/-- R11, R13, R26: the end of the frame in flight: the reply is written, and the samples are captured
when the next cycle has not begun. -/
def State.endReturn (s : State) : State :=
  match s.inFlight with
  | some g =>
    let s1 : State := { s with inFlight := none, retFrame := s.replyWritten }
    match g.samples with
    | some v => { s1 with stepPending := false }.cycleStep (some v) false
    | none => s1
  | none => s

/-- R10: the first return frame after the request field decides the return side of the cycle; any other
passes unchanged, and so does one before the first outbound frame. A frame that arrives while one is
in flight has let that one end, and as it comes after the request field, the outbound frame has wholly
passed (log 5). -/
def State.beginReturn (s0 : State) (f : RetFrame) : State :=
  let s := { s0.endReturn with outPassing := false }
  if s.returnDecided then s.passReturn f
  else
    match s.lastCycle with
    | some n =>
      if f.cycle = n then s.matchReturn f else { s.passReturn f with returnDecided := true }
    | none => s.passReturn f

/-- RETURN_FRAME (R10, R11). While RESET is asserted a frame is only repeated (R19). -/
def State.returnEvent (s : State) (e : RetEvent) : State :=
  match e with
  | .whole f => if s.inReset then s.passReturn f else (s.beginReturn f).endReturn
  | .head f => if s.inReset then s.passReturn f else s.beginReturn f
  | .tail => if s.inReset then s else s.endReturn
  | .early f => if s.inReset then s.passReturn f else s.endReturn.passReturn f

def execReturnFrame (e : RetEvent) (s : State) : Result := .next (s.returnEvent e)

/-! ### Link loss (R14, R15) -/

/-- R15: link loss at stand k. -/
def State.linkLossAt (s : State) (k : StandId) : State :=
  if (s.stand k).inService then
    (s.takeFault k .linkLoss none).modStand k fun st => { st with linkLoss := true }
  else s

/-- R14, R15: the watch expires; by then the outbound frame last begun has wholly passed (log 5). -/
def State.loseLink (s : State) : State :=
  let s1 := allStands.foldl State.linkLossAt
    { s with watchArmed := false, linkLost := true, outPassing := false }
  { (State.decideChanged s s1).joinLog with freeIndex := s.freeIndex + 1 }

/-- LINK_LOSS: an expiry can only come from an armed watch (R14). -/
def State.watchExpiry (s : State) : State := if s.inReset || !s.watchArmed then s else s.loseLink

def execLinkLoss (s : State) : Result := .next s.watchExpiry

end Sys2Proof.Machine
end

