-- ==== Sys2Proof/Machine/Events.lean ====
section
/-!
DEFINITION. The rows of the table that are events within the steps of a cycle. The steps of
`State.cycleStep` take them where the rules place them; the row by itself is the part of a step in
which the event comes about, with the step's reading as its operand, made by the same operations
(log 2). Where its condition is not reached, the event does not occur and nothing changes.
-/
namespace Sys2Proof.Machine

/-- The end of an event of this file: grant decisions as after the steps of a cycle (R131), and the log
entries the event formed (R162). -/
def State.endEvent (s : State) : State := { s.decideAll.joinLog with freeIndex := s.freeIndex + 1 }

/-! ### SIGNAL_STALE_LIMIT (R31 to R34, R37, R45) -/

/-- R31: the next step without a refresh takes the signal from LIVE to STALE. -/
def Capture.atLimit (c : Capture) (limit : Nat) : Bool :=
  c.cond == .live && decide (limit ≤ min 65535 (c.since + 1))

/-- A SPINDLE signal goes to STALE with its history emptied. -/
def Spindle.goStale (g : Spindle) (e : Option RetEntry) : Spindle :=
  { g with cap := g.cap.age (entryLimit e), hist := [] }

/-- The SPINDLE signal of an arm goes to STALE; the running arm's discards the window. -/
def Stand.spindleStale (st : Stand) (x : Arm) : Stand :=
  let v := st.arm x
  if st.inService && v.spindle.cap.atLimit (entryLimit (st.map.spindle x)) then
    let st1 := st.setArm x { v with spindle := v.spindle.goStale (st.map.spindle x) }
    if x = st.runningArm then { st1 with window := none } else st1
  else st

/-- The GAUGE signal of an arm goes to STALE. -/
def Stand.gaugeStale (st : Stand) (x : Arm) : Stand :=
  let v := st.arm x
  if st.inService && v.gauge.cap.atLimit (entryLimit (st.map.gauge x)) then
    st.setArm x { v with gauge := { v.gauge with cap := v.gauge.cap.age (entryLimit (st.map.gauge x)) } }
  else st

/-- The STATUS signal of a stand goes to STALE. -/
def Stand.statusStale (st : Stand) : Stand :=
  if st.inService && st.status.cap.atLimit (entryLimit st.map.status) then
    { st with status := { st.status with cap := st.status.cap.age (entryLimit st.map.status) } }
  else st

/-- R32: LINE goes to STALE with its history emptied, and every stand's window is discarded. -/
def State.lineStale (s : State) : State :=
  match s.lineMap with
  | some e =>
    if s.line.cap.atLimit e.divisor.limit then
      allStands.foldl (fun t k => t.modStand k fun st => { st with window := none })
        { s with line := { s.line with cap := s.line.cap.age e.divisor.limit, hist := [] } }
    else s
  | none => s

def State.signalStaleLimit (s : State) (g : SignalName) : State :=
  if s.inReset then s
  else
    match g with
    | .line => s.lineStale
    | .spindle k x => s.modStand k (·.spindleStale x)
    | .gauge k x => s.modStand k (·.gaugeStale x)
    | .status k => s.modStand k Stand.statusStale

def execSignalStaleLimit (g : SignalName) (s : State) : Result := .next (s.signalStaleLimit g)

/-! ### SIGNAL_STALE (R35) -/

/-- R35: the stale watch of the step takes a count of stand k to 64. -/
def State.staleWatchDue (s : State) (k : StandId) : Bool :=
  (s.stand k).inService && ((s.stand k).watchStep s.line.cap.isStale).watchExpired.isSome

def State.signalStale (s : State) (k : StandId) : State :=
  if !s.inReset && s.staleWatchDue k then (s.watchStand k s.line.cap.isStale).endEvent else s

def execSignalStale (k : StandId) (s : State) : Result := .next (s.signalStale k)

/-! ### RUNNING_DIAMETER_WINDOW_COMPLETE (R44, R46, R51) -/

/-- R43, R44: the window of stand k is open, and both its signals are LIVE. -/
def State.windowLive (s : State) (k : StandId) : Bool :=
  (s.stand k).inService && !s.line.cap.isStale &&
    !((s.stand k).arm (s.stand k).runningArm).spindle.cap.isStale

/-- The part of a measurement step that completes the window, and what follows from D_run in the same
step: L_rem and T_ts (R53), and the stand's request (R92). -/
def State.completeWindow (s : State) (k : StandId) (w : DiameterWindow) (inc : Nat) (travel : Angle) :
    State :=
  let st := ((s.stand k).advanceAnchor inc).advanceWindow w inc travel s.grades
  ((s.setStand k (st.measureLength s.lineSpeed)).refreshRequest k).endEvent

def State.windowComplete (s : State) (k : StandId) (inc : BitVec 23) (travel : Angle) : State :=
  match (s.stand k).window with
  | some w =>
    if !s.inReset && s.windowLive k && decide (4096 ≤ w.travel + travel.toNat) then
      s.completeWindow k w inc.toNat travel
    else s
  | none => s

def execRunningDiameterWindowComplete (k : StandId) (inc : BitVec 23) (travel : BitVec 12) (s : State) :
    Result :=
  .next (s.windowComplete k inc travel)

/-! ### GAUGE_WINDOW_COMPLETE (R57, R86) -/

/-- R57: D_g is formed and handed to the sequence controller, which takes it in CHECKING (R86). -/
def State.completeGauge (s : State) (k : StandId) (w : GaugeWindow) (d : Nat) : State :=
  let s1 := s.setStand k ((s.stand k).countReading w d).1
  let dg := roundDiv (w.sum + d) 64
  (if (s.stand k).state = .checking then s1.gaugeDone k dg else s1).endEvent

def State.gaugeComplete (s : State) (k : StandId) (reading : BitVec 14) : State :=
  match (s.stand k).gaugeWindow with
  | some w =>
    if !s.inReset && (s.stand k).inService && !w.waits && reading != 0 && decide (64 ≤ w.count + 1) then
      s.completeGauge k w (boundDiameter reading.toNat)
    else s
  | none => s

def execGaugeWindowComplete (k : StandId) (reading : BitVec 14) (s : State) : Result :=
  .next (s.gaugeComplete k reading)

/-! ### TAPE_LOST (R107, R115) -/

/-- R107, R115: the travel reaches its limit: the fault, after the timer of a stand in ACCEL, whose
limit reached in the same step is a further fault. -/
def State.loseTape (s : State) (k : StandId) (travel : Nat) : State :=
  let st := (s.stand k).addTapeTravel travel
  let st1 := if st.state = .accel then st.tickAccel else st
  let further := st.state == .accel && st1.accelExpired
  ((s.setStand k st1).applyVerdict k (.fault .tapeLost further)).endEvent

def State.tapeLost (s : State) (k : StandId) (travel : Angle) : State :=
  let st := s.stand k
  if !s.inReset && st.state.watched && decide (tapeLimit ≤ st.sched.tapeTravel + travel.toNat) then
    s.loseTape k travel.toNat
  else s

def execTapeLost (k : StandId) (travel : BitVec 12) (s : State) : Result := .next (s.tapeLost k travel)

/-! ### ACCEL_TIMEOUT (R112) -/

def State.accelTimeout (s : State) (k : StandId) : State :=
  let st := (s.stand k).tickAccel
  if !s.inReset && st.state == .accel && st.accelExpired then
    ((s.setStand k st).takeFault k .accelTimeout none).endEvent
  else s

def execAccelTimeout (k : StandId) (s : State) : Result := .next (s.accelTimeout k)

/-! ### CONFIRM_TIMEOUT (R124) -/

/-- R124: stand k waits in CONFIRM and its window has ended by the start of the engine cycle. -/
def State.confirmEnded (s : State) (k : StandId) : Bool :=
  (s.stand k).state == .confirm &&
  (match (s.stand k).sched.plan with
   | some p => p.timedOut s.cycle
   | none => false)

def State.confirmTimeout (s : State) (k : StandId) : State :=
  if !s.inReset && s.confirmEnded k then (s.takeFault k .confirmTimeout none).endEvent else s

def execConfirmTimeout (k : StandId) (s : State) : Result := .next (s.confirmTimeout k)

/-! ### SPACING_END (R137) -/

/-- R137: the increment ends the spacing of group g, in a step that counts. -/
def State.spacingEnds (s : State) (g : GroupId) (inc : Nat) : Bool :=
  match (s.group g).grant with
  | .spacing rest waits => !waits && decide (rest ≤ inc)
  | _ => false

def State.spacingEnd (s : State) (g : GroupId) (inc : BitVec 23) : State :=
  if !s.inReset && s.spacingEnds g inc.toNat then (s.countDownGroup inc.toNat g).endEvent else s

def execSpacingEnd (g : GroupId) (inc : BitVec 23) (s : State) : Result := .next (s.spacingEnd g inc)

end Sys2Proof.Machine
end

