-- ==== Sys2Proof/Machine/Pins.lean ====
section
/-!
DEFINITION. The pins (sections 1.9, 5.6, 8.3, 11.4 to 11.6): RESET and the inhibit pins.
-/
namespace Sys2Proof.Machine

/-! ### RESET (R18, R19, R187) -/

/-- R187: the outbound frame that leaves when RESET is asserted, a frame still passing having passed as far
as m. One that has wholly passed, or into which the part writes nothing, leaves as it is (log 5). -/
def State.outCut (s : State) (m : Passed) : Option OutFrame :=
  match s.outFrame, s.outArrived with
  | some f, some g => some (if s.outPassing then f.cut m g else f)
  | f, _ => f

/-- R187: the return frame that leaves when RESET is asserted, a frame still passing having passed as far
as m. -/
def State.retCut (s : State) (m : Passed) : Option RetFrame :=
  match s.replyWritten, s.retArrived with
  | some f, some g => some (if s.inFlight.isSome then f.cut m g else f)
  | f, _ => f

/-- R187: from the assertion on all state is lost; what is left is that RESET is asserted. What the ports
have repeated, the commands waiting in the queue and the free index are not state of the part (log 19,
log 22). -/
def State.assertReset (s : State) (outPassed retPassed : Passed) : State :=
  if s.inReset then s
  else
    { State.afterReset 0 with
      inReset := true
      outFrame := s.outCut outPassed
      outArrived := s.outArrived
      retFrame := s.retCut retPassed
      retArrived := s.retArrived
      freeIndex := s.freeIndex + 1
      pending := s.pending }

/-- RESET_ASSERTION comes at any moment (R187), so what has passed of the frames, to the bit, is free
(log 5). -/
def execResetAssertion (s : State) : Result :=
  .next (s.assertReset ⟨(Config.outPassed s.freeIndex).val, Config.outBits s.freeIndex⟩
    ⟨(Config.retPassed s.freeIndex).val, Config.retBits s.freeIndex⟩)

/-- R18, R19, R187: at the release the address is latched and every state takes its reset value; a frame
partly passed goes on to its end as it arrived. -/
def State.releaseReset (s : State) (addr : BitVec 5) : State :=
  if s.inReset then
    { State.afterReset addr with
      outFrame := s.outFrame
      outArrived := s.outArrived
      retFrame := s.retFrame
      retArrived := s.retArrived
      freeIndex := s.freeIndex
      pending := s.pending }
  else s

def execResetRelease (addr : BitVec 5) (s : State) : Result := .next (s.releaseReset addr)

/-! ### Inhibit pins (R97 to R99, R151, R189) -/

/-- R189: a filter not yet settled takes the steady raw level, without an edge. Where the level is released, a
stand put online before is no longer inhibited by its pin, but it arms only after a release edge (log 13). -/
def Stand.settlePin (st : Stand) (steady high : Bool) : Stand :=
  if steady && !st.pinSettled then { st with pinAsserted := !high, pinSettled := true } else st

def State.settlePins (s : State) (steady high : BitVec 8) : State :=
  if s.inReset then s
  else
    allStands.foldl
      (fun t k => t.modStand k fun st => st.settlePin (steady.getLsbD k.val) (high.getLsbD k.val)) s

def execInhibitFilterSettle (steady high : BitVec 8) (s : State) : Result :=
  .next (s.settlePins steady high)

/-- R97, R98: the assertion; a stand already inhibited by request is not changed by it. -/
def State.pinAssert (s : State) (k : StandId) : State :=
  let s1 := s.modStand k fun st => { st with pinAsserted := true }
  State.decideChanged s (if (s.stand k).inhibited then s1 else s1.becomeInhibited k)

/-- INHIBIT_PIN_ASSERTION: an edge is formed only by a settled filter whose level is released (R189). -/
def State.pinAssertion (s : State) (k : StandId) : State :=
  if s.inReset || !(s.stand k).pinSettled || (s.stand k).pinAsserted then s else s.pinAssert k

def execInhibitPinAssertion (k : StandId) (s : State) : Result := .next (s.pinAssertion k)

/-- R97, R151, R189: the release edge ends the pin's inhibit; it clears a fault that needs no named arm, and
a stand in MATCHED may become a requester (R129). -/
def State.pinLetGo (s : State) (k : StandId) : State :=
  let s1 := s.modStand k fun st => { st with pinAsserted := false, awaitsRelease := false }
  let s2 :=
    if (s.stand k).state = .fault then
      if (s.stand k).needsArm then s1 else s1.modStand k (·.clearFault false)
    else s1.refreshRequest k
  State.decideChanged s s2

/-- INHIBIT_PIN_RELEASE: an edge is formed only by a settled filter whose level is asserted (R189). -/
def State.pinRelease (s : State) (k : StandId) : State :=
  if s.inReset || !(s.stand k).pinSettled || !(s.stand k).pinAsserted then s else s.pinLetGo k

def execInhibitPinRelease (k : StandId) (s : State) : Result := .next (s.pinRelease k)

end Sys2Proof.Machine
end

