-- ==== Sys2Proof/Machine/Items.lean ====
section
/-!
DEFINITION. The items READ-ITEM addresses (R171 to R173), laid out as R172 states.
-/
namespace Sys2Proof.Machine

/-- A number as a field, 0 when absent. -/
def opt (o : Option Nat) : Nat := o.getD 0

/-- A word as a number, 0 when absent. -/
def optWord {n : Nat} (o : Option (BitVec n)) : Nat :=
  match o with
  | some v => v.toNat
  | none => 0

/-! ### Configuration items, classes 1 to 6 -/

def parameterItem (st : Stand) (i : Nat) : Payload := pack [(4, st.params.get i)]

def returnEntryItem : Option RetEntry → Payload
  | some e => pack [(1, 1), (1, e.slot.val), (1, e.divisor.value)]
  | none => 0

def outboundEntryItem : Option (Fin 48) → Payload
  | some i => pack [(1, 1), (1, i.val), (1, 0)]
  | none => 0

def mapEntryItem (m : SlotMap) (i : Nat) : Payload :=
  match i with
  | 0 => returnEntryItem m.spindleA
  | 1 => returnEntryItem m.spindleB
  | 2 => returnEntryItem m.gaugeA
  | 3 => returnEntryItem m.gaugeB
  | 4 => returnEntryItem m.status
  | 5 => outboundEntryItem m.driveA
  | 6 => outboundEntryItem m.driveB
  | 7 => outboundEntryItem m.paste
  | _ => outboundEntryItem m.knife

def imageMapItem : Option (Fin 96 × Fin 96) → Payload
  | some (i, j) => pack [(1, 1), (1, i.val), (1, j.val)]
  | none => 0

def gradeItem (g : Grade) : Payload := pack [(1, g.caliper), (2, g.band)]

def groupTableItem (v : Group) : Payload := pack [(4, v.stagger)]

/-! ### Group state, class 7 (R140) -/

def GrantState.code : GrantState → Nat
  | .free => 0
  | .held _ => 1
  | .spacing _ _ => 2

def GrantState.holder : GrantState → Nat
  | .held k => k.val
  | _ => 0

def GrantState.remaining : GrantState → Nat
  | .spacing rest _ => rest
  | _ => 0

def groupStateItem (v : Group) : Payload :=
  pack
    [(1, v.grant.code), (1, v.grant.holder), (4, v.grant.remaining), (1, v.requesters.toNat),
     (4, v.stagger)]

/-! ### Stand status, class 8 (R79, R140, R158, R173) -/

/-- An OFFLINE stand reads its pin level, and 0 in every other field (R173; log 12). -/
def statusItem0 (st : Stand) : Payload :=
  if st.inService then
    pack
      [(1, st.state.code), (1, armCode st.runningArm),
       (1, flagBits
         [st.requestInhibit, st.pinAsserted, st.inhibited, st.forced, st.braking, st.due, st.urgent,
          st.accelTimer.isSome]),
       (1, (st.driveMode .a).code), (1, (st.driveMode .b).code),
       (2, st.speedRef .a), (2, st.speedRef .b), (4, opt st.accelTimer)]
  else pack [(1, 0), (1, 0), (1, flagBits [false, st.pinAsserted])]

def statusItem1 (st : Stand) : Payload :=
  if st.inService then
    pack
      [(1, flagBits
         [true, st.requestStart.isSome, st.grant.isSome,
          match st.grant with | some g => g.urgent | none => false]),
       (4, optWord st.requestStart), (4, match st.grant with | some g => g.wait | none => 0)]
  else 0

/-! ### Measurement, class 9 (R39) -/

def measurementItem0 (st : Stand) : Payload :=
  pack
    [(2, st.armA.rate), (2, st.armB.rate), (2, st.dRun),
     (1, match st.running with | some r => r.caliper | none => 0),
     (1, flagBits
       [st.diameterValid, st.acceptOpen, st.lRem.isSome, st.tTs.isSome, st.lastDg.isSome,
        st.sNew.isSome, st.window.isSome, st.gaugeWindow.isSome]),
     (4, opt st.lRem)]

def measurementItem1 (st : Stand) : Payload :=
  pack
    [(4, opt st.tTs), (2, opt st.lastDg), (3, opt st.sNew),
     (1, match st.gaugeWindow with | some w => w.count | none => 0)]

/-! ### Queues and contexts, classes 10 to 14 (R77) -/

def queueLengthItem (st : Stand) : Payload := pack [(1, st.queue.length), (1, st.occupancy)]

def recordItem (r : ReelRecord) : Payload := pack r.fields

def runningItem0 (r : RunningContext) : Payload :=
  pack
    [(4, r.roll.toNat), (1, r.grade.val), (2, opt r.core), (2, opt r.width), (2, opt r.override),
     (1, r.caliper), (2, r.dRun),
     (1, flagBits [r.valid, r.core.isSome, r.width.isSome, r.override.isSome, r.anchor.isSome])]

def runningItem1 (r : RunningContext) : Payload :=
  match r.anchor with
  | some a => pack [(2, a.diameter), (6, a.travel)]
  | none => 0

def readyItem0 (r : ReadyContext) : Payload :=
  pack
    (r.record.fields ++
      [(1, armCode r.arm), (1, flagBits [r.dNew.isSome, r.tape.isSome, r.spent])])

def readyItem1 (r : ReadyContext) : Payload := pack [(2, opt r.dNew), (2, optWord r.tape)]

/-- R77: all false when the stand is OFFLINE. -/
def armFlagsItem (st : Stand) : Payload :=
  if st.inService then
    pack
      [(1, flagBits
         [st.mountPending, st.level .a, st.level .b, st.armA.unload, st.armB.unload])]
  else 0

/-! ### Fault record, class 15 (R142) -/

def faultItem (st : Stand) : Payload :=
  match st.record with
  | some r =>
    pack
      [(1, flagBits [true, r.fireIssued, r.further, r.signal.isSome]), (1, r.kind.code),
       (4, r.cycle.toNat), (1, r.stateAt.code), (1, armCode r.arm),
       (1, match r.signal with | some g => g.code | none => 0)]
  | none => 0

/-! ### Fire plan and scheduler, classes 16 and 17 (R126) -/

def planItem0 (st : Stand) : Payload :=
  match st.sched.plan with
  | some p =>
    pack
      [(1, flagBits [true, p.clamped, p.late, p.windowEnd.isSome, p.lag.isSome]),
       (4, p.fire.cycle.toNat), (1, p.fire.offset), (2, p.dRun), (4, p.delay), (1, p.knifeState.code)]
  | none => 0

def planItem1 (st : Stand) : Payload :=
  match st.sched.plan with
  | some p =>
    pack
      [(4, p.knife.cycle.toNat), (1, p.knife.offset),
       (4, match p.windowEnd with | some e => e.cycle.toNat | none => 0),
       (1, match p.windowEnd with | some e => e.offset | none => 0), (4, opt p.lag)]
  | none => 0

def schedulerItem (c : Scheduler) : Payload :=
  pack
    [(1, flagBits [c.target.isSome, c.nRef.isSome, c.prepared.isSome]), (3, opt c.target),
     (2, opt c.nRef), (2, c.tapeTravel),
     (4, match c.prepared with | some p => p.cycle.toNat | none => 0),
     (1, match c.prepared with | some p => p.offset | none => 0)]

/-! ### Signals, class 18 (R31, R172) -/

/-- The fields of a signal, in the order of R172. -/
def signalItem (c : Capture) (held : Bool) (complete present pasteHome knifeHome : Bool) (value : Nat)
    (entries watch : Nat) : Payload :=
  pack
    [(1, c.cond.code), (2, c.since),
     (1, flagBits [held, c.ref.isSome, complete, present, pasteHome, knifeHome]),
     (1, optWord c.ref), (4, value), (1, entries), (1, watch)]

def lineItem (g : Line) (watch : Nat) : Payload :=
  signalItem g.cap g.pos.isSome (historyComplete g.hist) false false false (optWord g.pos) g.hist.length
    watch

/-- R172: the ready arm's spindle count, 0 for the other arm's. -/
def spindleItem (st : Stand) (x : Arm) : Payload :=
  let g := (st.arm x).spindle
  signalItem g.cap g.angle.isSome (historyComplete g.hist) false false false (optWord g.angle)
    g.hist.length (if x = st.readyArm then st.watch.spindle else 0)

/-- R28, R172: the held value of a GAUGE signal is its diameter, absent until a reading other than 0; its
reel-present flag stands in the flags byte. -/
def gaugeItem (st : Stand) (x : Arm) : Payload :=
  let g := (st.arm x).gauge
  signalItem g.cap g.diameter.isSome false (g.present.getD false) false false (opt g.diameter) 0 0

def statusSignalItem (st : Stand) : Payload :=
  let g := st.status
  signalItem g.cap g.home.isSome false false
    (match g.home with | some h => h.paste | none => false)
    (match g.home with | some h => h.knife | none => false) 0 0 st.watch.status

/-! ### Part status, class 19 (R39, R157, R159) -/

def partStatusItem (s : State) : Payload :=
  pack
    [(1, s.log.length), (1, s.partByte), (1, s.nodeAddr.toNat),
     (1, flagBits [s.engineCycle.isSome, s.watchArmed, s.lineMap.isSome]),
     (4, optWord s.engineCycle),
     (3, if s.lineMap.isSome then s.lineSpeed else 0),
     (3, if s.lineMap.isSome then s.lineInc else 0)]

/-! ### READ-ITEM (R173) -/

/-- One half or the other of an item in two halves. -/
def halfOf (i : Nat) (h0 h1 : Payload) : Payload := if i = 0 then h0 else h1

/-- R173: an item of a stand that can be read in service only. -/
def whenOnline (st : Stand) (p : Payload) : Option Payload := if st.inService then some p else none

/-- R173: a signal of the stand, index 0 the LINE signal. -/
def signalRead (s : State) (k : StandId) (i : Nat) : Option Payload :=
  let st := s.stand k
  match i with
  | 0 =>
    if s.lineMap.isSome then some (lineItem s.line (if st.inService then st.watch.line else 0)) else none
  | 1 => whenOnline st (spindleItem st .a)
  | 2 => whenOnline st (spindleItem st .b)
  | 3 => whenOnline st (gaugeItem st .a)
  | 4 => whenOnline st (gaugeItem st .b)
  | _ => whenOnline st (statusSignalItem st)

/-- R173: an item by class and index, as it stands; none is answered NO-SUCH. -/
def State.item (s : State) (k : StandId) (c i : Nat) : Option Payload :=
  let st := s.stand k
  match c with
  | 1 => some (parameterItem st i)
  | 2 => some (mapEntryItem st.map i)
  | 3 => some (returnEntryItem s.lineMap)
  | 4 => some (imageMapItem s.imageMap)
  | 5 => some (gradeItem s.grades[Fin.ofNat 16 i])
  | 6 => some (groupTableItem (s.group (Fin.ofNat 4 i)))
  | 7 => some (groupStateItem (s.group (Fin.ofNat 4 i)))
  | 8 => some (halfOf i (statusItem0 st) (statusItem1 st))
  | 9 => whenOnline st (halfOf i (measurementItem0 st) (measurementItem1 st))
  | 10 => some (queueLengthItem st)
  | 11 => st.queue[i]?.map recordItem
  | 12 => st.running.bind fun r => whenOnline st (halfOf i (runningItem0 r) (runningItem1 r))
  | 13 => st.ready.map fun r => halfOf i (readyItem0 r) (readyItem1 r)
  | 14 => some (armFlagsItem st)
  | 15 => some (faultItem st)
  | 16 => whenOnline st (halfOf i (planItem0 st) (planItem1 st))
  | 17 => whenOnline st (schedulerItem st.sched)
  | 18 => signalRead s k i
  | _ => some (partStatusItem s)

end Sys2Proof.Machine
end

