-- ==== Sys2Proof/Machine/Requests.lean ====
section
/-!
DEFINITION. The service decoder (chapter 10) and the requests that configure and read the part:
READ_ITEM, the six WRITE_ rows, READ_LOG, ACK_LOG, UNKNOWN_KIND_REQUEST.
-/
namespace Sys2Proof.Machine

/-- The outcome of a request at its owner: the part after it, the reply code, and the payload of a DONE. -/
structure Answer where
  state : State
  code : ReplyCode
  payload : Payload

/-- A refusal changes nothing and carries 16 bytes of 0 (R168, R175). -/
def refuse (s : State) (code : ReplyCode) : Answer := ⟨s, code, 0⟩

/-- A request carried out, with its payload. -/
def doneWith (s : State) (p : Payload) : Answer := ⟨s, .done, p⟩

/-- A request carried out, of a kind whose payload is 0. -/
def done (s : State) : Answer := ⟨s, .done, 0⟩

/-- R13, R19, R167: the part takes the request: RESET is released, an outbound frame has begun since the
release, and the target is the part's node address. -/
def State.takes (s : State) (r : Request) : Bool :=
  !s.inReset && s.engineCycle.isSome && s.hasAddress && r.target == s.nodeAddr

/-- R175, R168: the grant decisions at the end of a request, and the reply it leaves held. The request field,
the last of the outbound frame, has wholly passed (R1, log 5). -/
def State.answer (s : State) (r : Request) (kind : BitVec 4) (a : Answer) : State :=
  { State.decideChanged s a.state with
    heldReply := some ⟨s.nodeAddr, kind, r.stand, a.code, a.payload⟩
    outPassing := false }

/-- R167, R169: a request is taken whole: the stand index and the selector are checked, then its owner
carries it out. A request for another target passes, and with it the outbound frame (log 5). -/
def State.serve (s : State) (r : Request) (kind : BitVec 4) (selectorOk : Bool)
    (f : StandId → Answer) : State :=
  if s.takes r then
    if h : r.stand.toNat < 8 then
      if selectorOk then s.answer r kind (f ⟨r.stand.toNat, h⟩)
      else s.answer r kind (refuse s .badRequest)
    else s.answer r kind (refuse s .badRequest)
  else { s with outPassing := false }

/-! ### READ-ITEM (R173) -/

def readItemAnswer (sel : BitVec 16) (s : State) (k : StandId) : Answer :=
  match s.item k (itemClass sel) (itemIndex sel) with
  | some p => doneWith s p
  | none => refuse s .noSuch

def execReadItem (r : Request) (sel : BitVec 16) (s : State) : Result :=
  .next (s.serve r 1 (readable sel) (readItemAnswer sel s))

/-! ### WRITE-ITEM (R174) -/

/-- R168: a write is answered with the item as it then stands. -/
def wrote (s : State) (k : StandId) (sel : BitVec 16) : Answer :=
  doneWith s ((s.item k (itemClass sel) (itemIndex sel)).getD 0)

/-- R183. -/
def parameterAnswer (sel : BitVec 16) (p : Payload) (s : State) (k : StandId) : Answer :=
  let st := s.stand k
  let i := itemIndex sel
  let v := Payload.bytes p 0 4
  if st.state.locksParams then refuse s .busy
  else if !paramInRange i v then refuse s .badValue
  else if !st.params.linkOk i v then refuse s .badValue
  else wrote (s.setStand k { st with params := st.params.set i v }) k sel

def execWriteStandParameter (r : Request) (sel : BitVec 16) (p : Payload) (s : State) : Result :=
  .next (s.serve r 2 (writable 1 sel) (parameterAnswer sel p s))

/-- R22: a return entry for indices 0 to 4, an outbound entry for 5 to 8. -/
def writeEntry (m : SlotMap) (i : Nat) (p : Payload) : Option SlotMap :=
  if i < 5 then
    match returnValue p with
    | .refused => none
    | .unset => some (m.setReturn i none)
    | .set e => some (m.setReturn i (some e))
  else
    match outboundValue p with
    | .refused => none
    | .unset => some (m.setOutbound i none)
    | .set e => some (m.setOutbound i (some e))

def mapEntryAnswer (sel : BitVec 16) (p : Payload) (s : State) (k : StandId) : Answer :=
  let st := s.stand k
  if st.inService then refuse s .notOffline
  else
    match writeEntry st.map (itemIndex sel) p with
    | some m => wrote (s.setStand k { st with map := m }) k sel
    | none => refuse s .badValue

def execWriteSlotMapEntry (r : Request) (sel : BitVec 16) (p : Payload) (s : State) : Result :=
  .next (s.serve r 2 (writable 2 sel) (mapEntryAnswer sel p s))

/-- R23, R25, R40, R60: an accepted LINE map write puts the LINE signal in its entry condition, and S and
the line increment to 0. -/
def State.setLineMap (s : State) (v : Option RetEntry) : State :=
  { s with lineMap := v, line := ⟨.entry, none, []⟩, lineSpeed := 0, lineInc := 0 }

def lineMapAnswer (sel : BitVec 16) (p : Payload) (s : State) (k : StandId) : Answer :=
  if s.anyOnline then refuse s .notOffline
  else
    match returnValue p with
    | .refused => refuse s .badValue
    | .unset => wrote (s.setLineMap none) k sel
    | .set e => wrote (s.setLineMap (some e)) k sel

def execWriteLineMap (r : Request) (sel : BitVec 16) (p : Payload) (s : State) : Result :=
  .next (s.serve r 2 (writable 3 sel) (lineMapAnswer sel p s))

/-- R23: the IMAGE map is written as a whole, and acts from the next cycle (R12). -/
def imageMapAnswer (sel : BitVec 16) (p : Payload) (s : State) (k : StandId) : Answer :=
  if s.anyOnline then refuse s .notOffline
  else
    match imageValue p with
    | .refused => refuse s .badValue
    | .unset => wrote { s with imageMap := none } k sel
    | .set e => wrote { s with imageMap := some e } k sel

def execWriteImageMap (r : Request) (sel : BitVec 16) (p : Payload) (s : State) : Result :=
  .next (s.serve r 2 (writable 4 sel) (imageMapAnswer sel p s))

/-- R186: caliper in byte 0, band in bytes 1-2. -/
def gradeOf (p : Payload) : Option Grade :=
  let c := Payload.bytes p 0 1
  let b := Payload.bytes p 1 2
  if 40 ≤ c ∧ c ≤ 150 ∧ b ≤ 500 then some ⟨c, b⟩ else none

def gradeAnswer (sel : BitVec 16) (p : Payload) (s : State) (k : StandId) : Answer :=
  match gradeOf p with
  | some g => wrote { s with grades := s.grades.set (Fin.ofNat 16 (itemIndex sel)) g } k sel
  | none => refuse s .badValue

def execWriteGradeTableEntry (r : Request) (sel : BitVec 16) (p : Payload) (s : State) : Result :=
  .next (s.serve r 2 (writable 5 sel) (gradeAnswer sel p s))

/-- R138: every 32-bit stagger length is in range, and acts at the next release. -/
def groupAnswer (sel : BitVec 16) (p : Payload) (s : State) (k : StandId) : Answer :=
  let g : GroupId := Fin.ofNat 4 (itemIndex sel)
  wrote (s.setGroup g { s.group g with stagger := Payload.bytes p 0 4 }) k sel

def execWriteGroupTableEntry (r : Request) (sel : BitVec 16) (p : Payload) (s : State) : Result :=
  .next (s.serve r 2 (writable 6 sel) (groupAnswer sel p s))

/-! ### The splice log (R164, R165, R180) -/

/-- R180: the position of a READ-LOG selector, bits 0-7. -/
def logPosition (sel : BitVec 16) : Nat := (sel.extractLsb' 0 8).toNat

/-- R180: the half, bits 8-15. -/
def logHalf (sel : BitVec 16) : Nat := (sel.extractLsb' 8 8).toNat

/-- R169, R180: the selector of a READ-LOG. -/
def logSelectorOk (sel : BitVec 16) : Bool := decide (logPosition sel ≤ 31) && decide (logHalf sel ≤ 1)

def readLogAnswer (sel : BitVec 16) (s : State) : Answer :=
  match s.log[logPosition sel]? with
  | some e => doneWith s (e.half (logHalf sel))
  | none => refuse s .noSuch

def execReadLog (r : Request) (sel : BitVec 16) (s : State) : Result :=
  .next (s.serve r 11 (logSelectorOk sel) fun _ => readLogAnswer sel s)

/-- R165: the oldest entry goes; the overrun flag clears when the list becomes empty. -/
def ackLogAnswer (s : State) : Answer :=
  match s.log with
  | [] => refuse s .noSuch
  | _ :: rest => done { s with log := rest, overrun := s.overrun && !rest.isEmpty }

def execAckLog (r : Request) (s : State) : Result := .next (s.serve r 12 true fun _ => ackLogAnswer s)

/-! ### Unknown kinds (R169) -/

def execUnknownKindRequest (r : Request) (kind : BitVec 4) (s : State) : Result :=
  .next (s.serve r kind false fun _ => refuse s .badRequest)

end Sys2Proof.Machine
end

