-- ==== Sys2Proof/Machine/Stands.lean ====
section
/-!
DEFINITION. The requests that act on reels and stands: QUEUE_REEL, WITHDRAW_REEL, STAND_ONLINE,
STAND_OFFLINE, INHIBIT, RELEASE, SPLICE_NOW, CLEAR_FAULT.
-/
namespace Sys2Proof.Machine

/-! ### QUEUE-REEL (R62) -/

/-- R168: queue length, occupancy, and whether the record was bound. -/
def queuePayload (st : Stand) (bound : Bool) : Payload :=
  pack [(1, st.queue.length), (1, st.occupancy), (1, bit bound)]

def queueReelAnswer (p : Payload) (s : State) (k : StandId) : Answer :=
  let st := s.stand k
  match recordOf p with
  | none => refuse s .badValue
  | some rec =>
    if s.holdsRoll rec.roll then refuse s .duplicate
    else if 6 ≤ st.occupancy then refuse s .full
    else
      let st1 : Stand := { st with queue := st.queue ++ [rec] }
      let st2 := st1.tryBind s.stepPending
      doneWith (s.setStand k st2) (queuePayload st2 st1.canBind)

def execQueueReel (r : Request) (p : Payload) (s : State) : Result :=
  .next (s.serve r 3 true (queueReelAnswer p s))

/-! ### WITHDRAW-REEL (R74, R176) -/

/-- The ready context is dropped, and the head is bound in the same request where it can be. -/
def Stand.dropReady (st : Stand) (waits : Bool) : Stand :=
  let st1 : Stand :=
    { st with
      ready := none
      sNew := none
      gaugeWindow := none
      state := .running
      mountPending := st.mountPending || st.level st.readyArm }
  st1.tryBind waits

/-- The roll ID is that of the ready context. -/
def Stand.readyHas (st : Stand) (roll : Word) : Bool :=
  match st.ready with
  | some r => r.record.roll == roll
  | none => false

/-- The roll ID is that of the running context. -/
def Stand.runningHas (st : Stand) (roll : Word) : Bool :=
  match st.running with
  | some r => r.roll == roll
  | none => false

def withdrawAnswer (p : Payload) (s : State) (k : StandId) : Answer :=
  let st := s.stand k
  let roll : Word := BitVec.ofNat 32 (Payload.bytes p 0 4)
  if roll = 0 then refuse s .noSuch
  else if st.queue.any (·.roll == roll) then
    done (s.setStand k { st with queue := st.queue.eraseP (·.roll == roll) })
  else if st.readyHas roll then
    if st.state = .checking ∨ st.state = .ready then done (s.setStand k (st.dropReady s.stepPending))
    else refuse s .busy
  else if st.runningHas roll then refuse s .busy
  else refuse s .noSuch

def execWithdrawReel (r : Request) (p : Payload) (s : State) : Result :=
  .next (s.serve r 4 true (withdrawAnswer p s))

/-! ### STAND-ONLINE (R24, R66, R83, R84, R177) -/

/-- R66: the running context of a STAND-ONLINE, anonymous without a record. -/
def onlineContext (rec : Option ReelRecord) (q : Params) (grades : Vector Grade 16) : RunningContext :=
  match rec with
  | some r =>
    ⟨r.roll, r.grade, some r.core, some r.width, r.override, r.caliperFrom grades, 0, false, none⟩
  | none =>
    ⟨0, q.defaultGrade, none, none, none, grades[q.defaultGrade].caliper, 0, false, none⟩

/-- R68, R69: an arm at STAND-ONLINE, with what the request declares of a ready arm. -/
def onlineArm (isReady mounted : Bool) : ArmState :=
  { ArmState.entry with unload := isReady && mounted, declaredEmpty := isReady && !mounted }

/-- R84, R25, R60, R106, R189: the stand in RUNNING with fresh signal, measurement and scheduler state. -/
def Stand.goOnline (st : Stand) (x : Arm) (mounted : Bool) (rec : Option ReelRecord)
    (grades : Vector Grade 16) : Stand :=
  { Stand.afterReset with
    params := st.params
    map := st.map
    queue := st.queue
    pinAsserted := st.pinAsserted
    pinSettled := st.pinSettled
    state := .running
    awaitsRelease := st.pinAsserted
    runningArm := x
    armA := onlineArm (x == .b) mounted
    armB := onlineArm (x == .a) mounted
    acceptOpen := true
    running := some (onlineContext rec st.params grades) }

/-- The record of a STAND-ONLINE: refused, or present or not (R177). -/
def onlineRecord (sel : BitVec 16) (p : Payload) : Option (Option ReelRecord) :=
  if sel.getLsbD 4 then (recordOf p).map some else some none

/-- R66: the record's roll ID is not yet held. -/
def State.rollFree (s : State) (rec : Option ReelRecord) : Bool :=
  match rec with
  | some r => !s.holdsRoll r.roll
  | none => true

/-- R83: the checks in their order. -/
def standOnlineAnswer (sel : BitVec 16) (p : Payload) (s : State) (k : StandId) : Answer :=
  let st := s.stand k
  if st.inService then refuse s .busy
  else if !s.mapsValid k then refuse s .mapInvalid
  else
    match armField sel 0 0 1, conditionField sel, onlineRecord sel p with
    | some x, some mounted, some rec =>
      if s.rollFree rec then done (s.setStand k (st.goOnline x mounted rec s.grades))
      else refuse s .duplicate
    | _, _, _ => refuse s .badValue

def execStandOnline (r : Request) (sel : BitVec 16) (p : Payload) (s : State) : Result :=
  .next (s.serve r 5 true (standOnlineAnswer sel p s))

/-! ### STAND-OFFLINE (R76, R103) -/

/-- R103: the states in which STAND-OFFLINE is accepted. -/
def StandState.mayLeave : StandState → Bool
  | .running => true
  | .checking => true
  | .ready => true
  | .fault => true
  | _ => false

def standOfflineAnswer (s : State) (k : StandId) : Answer :=
  let st := s.stand k
  if st.state = .offline then refuse s .notOnline
  else if st.state.mayLeave then done (s.setStand k st.goOffline)
  else refuse s .busy

def execStandOffline (r : Request) (s : State) : Result :=
  .next (s.serve r 6 true (standOfflineAnswer s))

/-! ### INHIBIT and RELEASE (R100) -/

def inhibitAnswer (s : State) (k : StandId) : Answer :=
  let st := s.stand k
  if st.inService then
    let s1 := s.setStand k { st with requestInhibit := true }
    done (if st.inhibited then s1 else s1.becomeInhibited k)
  else refuse s .notOnline

def execInhibit (r : Request) (s : State) : Result := .next (s.serve r 7 true (inhibitAnswer s))

/-- R100: a stand in MATCHED that is due becomes a requester again (R92). -/
def releaseAnswer (s : State) (k : StandId) : Answer :=
  let st := s.stand k
  if st.inService then done ((s.setStand k { st with requestInhibit := false }).refreshRequest k)
  else refuse s .notOnline

def execRelease (r : Request) (s : State) : Result := .next (s.serve r 8 true (releaseAnswer s))

/-! ### SPLICE-NOW (R102) -/

def spliceNowAnswer (s : State) (k : StandId) : Answer :=
  let st := s.stand k
  match st.state with
  | .offline => refuse s .notOnline
  | .running => refuse s .noReady
  | .checking => refuse s .noReady
  | .ready => done (s.setStand k { st with forced := true })
  | .accel => done (s.setStand k { st with forced := true })
  | .matched => done ((s.setStand k { st with forced := true }).refreshRequest k)
  | _ => refuse s .busy

def execSpliceNow (r : Request) (s : State) : Result := .next (s.serve r 9 true (spliceNowAnswer s))

/-! ### CLEAR-FAULT (R148 to R153, R179) -/

/-- R179: the arm field: 0 none, 1 A, 2 B; 3 is refused. -/
def clearField (sel : BitVec 16) : Option (Option Arm) :=
  if (sel.extractLsb' 0 2).toNat = 0 then some none else (armField sel 0 1 2).map some

/-- R149, R150: the outcome of naming an arm. -/
def Stand.nameArm (st : Stand) (x : Arm) (grades : Vector Grade 16) : Stand :=
  if x = st.runningArm then st.keepRoles else st.completeSwap grades

/-- R131, R148: the clear of stand k, and the decision of its group at the end of the request. -/
def State.clearWith (s : State) (k : StandId) (st : Stand) : State :=
  (s.setStand k (st.clearFault s.stepPending)).decideGroup (s.groupOf k)

def clearFaultAnswer (sel : BitVec 16) (s : State) (k : StandId) : Answer :=
  let st := s.stand k
  match clearField sel with
  | none => refuse s .badValue
  | some named =>
    if st.state = .offline then refuse s .notOnline
    else if st.state = .fault then
      if st.needsArm then
        match named with
        | none => refuse s .needsArm
        | some x => done (s.clearWith k (st.nameArm x s.grades))
      else done (s.clearWith k st)
    else refuse s .noSuch

def execClearFault (r : Request) (sel : BitVec 16) (s : State) : Result :=
  .next (s.serve r 10 true (clearFaultAnswer sel s))

end Sys2Proof.Machine
end

