-- ==== Sys2Proof/Machine/Dispatch.lean ====
section
/-! DEFINITION. The effect of each command on everything but the queue: one arm per row of the table. -/
namespace Sys2Proof.Machine

def exec (i : Instr) (s : State) : Host.Outcome State Fault Refusal :=
  match i with
  | .outboundStartMarker f => Sys2Proof.Machine.execOutboundStartMarker f s
  | .returnFrame e => Sys2Proof.Machine.execReturnFrame e s
  | .signalStaleLimit g => Sys2Proof.Machine.execSignalStaleLimit g s
  | .signalStale k => Sys2Proof.Machine.execSignalStale k s
  | .runningDiameterWindowComplete k inc travel => Sys2Proof.Machine.execRunningDiameterWindowComplete k inc travel s
  | .gaugeWindowComplete k reading => Sys2Proof.Machine.execGaugeWindowComplete k reading s
  | .tapeLost k travel => Sys2Proof.Machine.execTapeLost k travel s
  | .accelTimeout k => Sys2Proof.Machine.execAccelTimeout k s
  | .confirmTimeout k => Sys2Proof.Machine.execConfirmTimeout k s
  | .spacingEnd g inc => Sys2Proof.Machine.execSpacingEnd g inc s
  | .linkLoss => Sys2Proof.Machine.execLinkLoss s
  | .resetAssertion => Sys2Proof.Machine.execResetAssertion s
  | .resetRelease addr => Sys2Proof.Machine.execResetRelease addr s
  | .inhibitFilterSettle steady high => Sys2Proof.Machine.execInhibitFilterSettle steady high s
  | .inhibitPinAssertion k => Sys2Proof.Machine.execInhibitPinAssertion k s
  | .inhibitPinRelease k => Sys2Proof.Machine.execInhibitPinRelease k s
  | .readItem r sel => Sys2Proof.Machine.execReadItem r sel s
  | .writeStandParameter r sel p => Sys2Proof.Machine.execWriteStandParameter r sel p s
  | .writeSlotMapEntry r sel p => Sys2Proof.Machine.execWriteSlotMapEntry r sel p s
  | .writeLineMap r sel p => Sys2Proof.Machine.execWriteLineMap r sel p s
  | .writeImageMap r sel p => Sys2Proof.Machine.execWriteImageMap r sel p s
  | .writeGradeTableEntry r sel p => Sys2Proof.Machine.execWriteGradeTableEntry r sel p s
  | .writeGroupTableEntry r sel p => Sys2Proof.Machine.execWriteGroupTableEntry r sel p s
  | .queueReel r p => Sys2Proof.Machine.execQueueReel r p s
  | .withdrawReel r p => Sys2Proof.Machine.execWithdrawReel r p s
  | .standOnline r sel p => Sys2Proof.Machine.execStandOnline r sel p s
  | .standOffline r => Sys2Proof.Machine.execStandOffline r s
  | .inhibit r => Sys2Proof.Machine.execInhibit r s
  | .release r => Sys2Proof.Machine.execRelease r s
  | .spliceNow r => Sys2Proof.Machine.execSpliceNow r s
  | .clearFault r sel => Sys2Proof.Machine.execClearFault r sel s
  | .readLog r sel => Sys2Proof.Machine.execReadLog r sel s
  | .ackLog r => Sys2Proof.Machine.execAckLog r s
  | .unknownKindRequest r kind => Sys2Proof.Machine.execUnknownKindRequest r kind s

end Sys2Proof.Machine
end

