-- ==== Sys2Proof/Safety.lean ====
section
/-!
DEFINITION. What holds in every state the part can reach: the standing promises the manual makes in its
rules, each a predicate of a state by itself. Every step keeps them and the state after reset has them.
-/
namespace Sys2Proof.Machine

/-! ### The log, the queues, the parameters, the histories -/

/-- R159: the log holds no more than 32 entries; between commands no entry waits to join it. -/
def LogBounded (s : State) : Prop := s.log.length ≤ 32 ∧ s.formed = []

/-- R64: no occupancy exceeds 6, so no queue holds more than 6 records. -/
def QueuesBounded (s : State) : Prop := ∀ k, (s.stand k).occupancy ≤ 6

/-- R184: each stand keeps both relations at all times. -/
def ParamsLinked (s : State) : Prop := ∀ k, (s.stand k).params.linked = true

/-- R182: every parameter lies in its range. -/
def ParamsInRange (s : State) : Prop :=
  ∀ k, ∀ i : Fin 18, paramInRange i.val ((s.stand k).params.get i.val) = true

/-- R36: no history holds more than 17 entries. -/
def HistoriesBounded (s : State) : Prop :=
  s.line.hist.length ≤ 17 ∧
    ∀ k, (s.stand k).armA.spindle.hist.length ≤ 17 ∧ (s.stand k).armB.spindle.hist.length ≤ 17

/-- R40, R41, R42: the line speed and the line increment lie below 2^23, every spindle rate below 4096. -/
def RatesBounded (s : State) : Prop :=
  s.lineSpeed < 2 ^ 23 ∧ s.lineInc < 2 ^ 23 ∧
    ∀ k, (s.stand k).armA.rate ≤ 4095 ∧ (s.stand k).armB.rate ≤ 4095

/-- Every roll ID of the part, stand by stand. -/
def State.rolls (s : State) : List Word := allStands.flatMap fun k => (s.stand k).rolls

/-- R63: a roll ID other than 0 appears at most once. -/
def RollsUnique (s : State) : Prop := s.rolls.Nodup

/-! ### Inhibit and groups -/

/-- R98, R189: a filter not yet settled holds its level asserted, and no inhibited stand is in ACCEL,
MATCHED or FIRING-pending. -/
def InhibitHolds (s : State) : Prop :=
  ∀ k,
    ((s.stand k).pinSettled = false → (s.stand k).pinAsserted = true) ∧
      ((s.stand k).state.watched = true → (s.stand k).inhibited = false)

/-- R128: the states entered under a grant and left by a release: FIRING and CONFIRM. -/
def StandState.holdsGrant : StandState → Bool
  | .firingPending => true
  | .firingIssued => true
  | .confirm => true
  | _ => false

/-- R128: a stand in FIRING or CONFIRM holds its group. -/
def GrantsHeld (s : State) : Prop :=
  ∀ k, (s.stand k).state.holdsGrant = true → (s.group (s.groupOf k)).grant = .held k

/-- R128: while an arbiter is HELD, its holder is a stand of the group in FIRING or CONFIRM. -/
def HoldersFire (s : State) : Prop :=
  ∀ g k, (s.group g).grant = .held k → (s.stand k).state.holdsGrant = true ∧ s.groupOf k = g

/-- R129: the requester set holds each stand of the group that is in MATCHED, due and not inhibited,
and no other. -/
def RequestersExact (s : State) : Prop :=
  ∀ g k, (s.group g).has k = true ↔ s.groupOf k = g ∧ (s.stand k).requests = true

/-- R98, R128, R129, together: what the arbiters and the sequences keep between them. -/
def GroupsAgree (s : State) : Prop :=
  InhibitHolds s ∧ GrantsHeld s ∧ HoldersFire s ∧ RequestersExact s

/-- R131, R132, R134: between commands no decision is due: no FREE group has a requester, and no group in
SPACING has an urgent one. -/
def DecisionsMade (s : State) : Prop := ∀ g, s.chosen g = none

/-! ### Contexts -/

/-- R67: a ready context on the ready arm, gauged or not, tape-spent or not. -/
def ReadyContext.isOn (r : ReadyContext) (x : Arm) (gauged spent : Bool) : Bool :=
  r.arm == x && r.dNew.isSome == gauged && r.spent == spent

/-- The stand's ready context is present, on the ready arm, gauged or not, tape-spent or not. -/
def Stand.readyIs (st : Stand) (gauged spent : Bool) : Bool :=
  match st.ready with
  | some r => r.isOn st.readyArm gauged spent
  | none => false

/-- R119, R121: the plan of a fire that was written, with a knife in the given state. -/
def Stand.planIs (st : Stand) (knife : KnifeState) : Bool :=
  st.kept.isSome &&
  (match st.sched.plan with
   | some p => p.knifeState == knife && (p.windowEnd.isSome == (knife == .issued))
   | none => false)

/-- R66, R67, R72, R149, R150: the contexts, record and plan a stand holds in each of its states. -/
def Stand.contextsAgree (st : Stand) : Bool :=
  match st.state with
  | .offline => st.running.isNone && st.ready.isNone && st.record.isNone
  | .running => st.running.isSome && st.ready.isNone && st.record.isNone
  | .checking => st.running.isSome && st.readyIs false false && st.record.isNone
  | .ready => st.running.isSome && st.readyIs true false && st.record.isNone
  | .accel => st.running.isSome && st.readyIs true false && st.record.isNone
  | .matched => st.running.isSome && st.readyIs true false && st.record.isNone
  | .firingPending => st.running.isSome && st.readyIs true false && st.record.isNone
  | .firingIssued =>
    st.running.isSome && st.readyIs true true && st.record.isNone && st.planIs .planned
  | .confirm => st.running.isSome && st.readyIs true true && st.record.isNone && st.planIs .issued
  | .settle => st.running.isSome && st.ready.isNone && st.record.isNone
  | .fault =>
    st.running.isSome &&
    (match st.record with
     | some r =>
       if r.stateAt.afterFire then st.readyIs true true else st.ready.isNone || st.readyIs true false
     | none => false)

/-- Every stand holds the contexts of its state. -/
def ContextsAgree (s : State) : Prop := ∀ k, (s.stand k).contextsAgree = true

/-! ### Calipers -/

/-- R186: a grade table entry in its ranges. -/
def Grade.inRange (g : Grade) : Bool :=
  decide (40 ≤ g.caliper) && decide (g.caliper ≤ 150) && decide (g.band ≤ 500)

/-- R61: the caliper of a record, when present, in its range. -/
def ReelRecord.caliperInRange (r : ReelRecord) : Bool :=
  match r.caliper with
  | some t => decide (40 ≤ t) && decide (t ≤ 150)
  | none => true

/-- R48: the caliper in use lies in 20-225, and those that may become one lie in 40-150. -/
def Stand.calipersInRange (st : Stand) : Bool :=
  st.queue.all ReelRecord.caliperInRange &&
  (match st.ready with
   | some r => r.record.caliperInRange
   | none => true) &&
  (match st.running with
   | some r => decide (20 ≤ r.caliper) && decide (r.caliper ≤ 225)
   | none => true)

/-- R48, R186: every caliper of the part in its range. -/
def CalipersInRange (s : State) : Prop :=
  (∀ i : Fin 16, s.grades[i].inRange = true) ∧ ∀ k, (s.stand k).calipersInRange = true

/-! ### The frame that is passing -/

/-- R10, R13, R14, R18, R19: while an outbound frame is passing into which the part writes (log 19), RESET is
released, the part has an address and a cycle, its watch is armed, and neither the frame's request nor the
return frame of its cycle has come. -/
def PassingAgrees (s : State) : Prop :=
  s.outPassing = true →
    s.inReset = false ∧ s.hasAddress = true ∧ s.engineCycle.isSome = true ∧ s.watchArmed = true ∧
      s.heldReply = none ∧ s.returnDecided = false

/-! ### A safe state -/

/-- The standing promises, together. A run is safe when each of its states is. -/
def SafeState (s : State) : Prop :=
  LogBounded s ∧ QueuesBounded s ∧ ParamsLinked s ∧ ParamsInRange s ∧ HistoriesBounded s ∧
    RatesBounded s ∧ CalipersInRange s ∧ RollsUnique s ∧ GroupsAgree s ∧ DecisionsMade s ∧
    ContextsAgree s ∧ PassingAgrees s

/-! ### Terms the claims use -/

/-- The request a command carries, with its kind code (section 1.11); none for an event. -/
def requestOf : Instr → Option (Request × BitVec 4)
  | .readItem r _ => some (r, 1)
  | .writeStandParameter r _ _ => some (r, 2)
  | .writeSlotMapEntry r _ _ => some (r, 2)
  | .writeLineMap r _ _ => some (r, 2)
  | .writeImageMap r _ _ => some (r, 2)
  | .writeGradeTableEntry r _ _ => some (r, 2)
  | .writeGroupTableEntry r _ _ => some (r, 2)
  | .queueReel r _ => some (r, 3)
  | .withdrawReel r _ => some (r, 4)
  | .standOnline r _ _ => some (r, 5)
  | .standOffline r => some (r, 6)
  | .inhibit r => some (r, 7)
  | .release r => some (r, 8)
  | .spliceNow r => some (r, 9)
  | .clearFault r _ => some (r, 10)
  | .readLog r _ => some (r, 11)
  | .ackLog r => some (r, 12)
  | .unknownKindRequest r kind => some (r, kind)
  | .outboundStartMarker _ => none
  | .returnFrame _ => none
  | .signalStaleLimit _ => none
  | .signalStale _ => none
  | .runningDiameterWindowComplete _ _ _ => none
  | .gaugeWindowComplete _ _ => none
  | .tapeLost _ _ => none
  | .accelTimeout _ => none
  | .confirmTimeout _ => none
  | .spacingEnd _ _ => none
  | .linkLoss => none
  | .resetAssertion => none
  | .resetRelease _ => none
  | .inhibitFilterSettle _ _ => none
  | .inhibitPinAssertion _ => none
  | .inhibitPinRelease _ => none

/-- The stand index of a request, when it names a stand (R169). -/
def namedStand (r : Request) : Option StandId :=
  if h : r.stand.toNat < 8 then some ⟨r.stand.toNat, h⟩ else none

/-- The stand of a mapped signal; none for LINE. -/
def signalStand : SignalName → Option StandId
  | .line => none
  | .spindle k _ => some k
  | .gauge k _ => some k
  | .status k => some k

/-- The one stand a command is about: that of an event or a pin, or the stand a request names when its
kind acts on a stand. None for the link's commands, RESET, the tables, the maps of the whole part, the
log, and the settling of the filters. -/
def standOf : Instr → Option StandId
  | .signalStaleLimit g => signalStand g
  | .signalStale k => some k
  | .runningDiameterWindowComplete k _ _ => some k
  | .gaugeWindowComplete k _ => some k
  | .tapeLost k _ => some k
  | .accelTimeout k => some k
  | .confirmTimeout k => some k
  | .inhibitPinAssertion k => some k
  | .inhibitPinRelease k => some k
  | .readItem r _ => namedStand r
  | .writeStandParameter r _ _ => namedStand r
  | .writeSlotMapEntry r _ _ => namedStand r
  | .queueReel r _ => namedStand r
  | .withdrawReel r _ => namedStand r
  | .standOnline r _ _ => namedStand r
  | .standOffline r => namedStand r
  | .inhibit r => namedStand r
  | .release r => namedStand r
  | .spliceNow r => namedStand r
  | .clearFault r _ => namedStand r
  | .outboundStartMarker _ => none
  | .returnFrame _ => none
  | .spacingEnd _ _ => none
  | .linkLoss => none
  | .resetAssertion => none
  | .resetRelease _ => none
  | .inhibitFilterSettle _ _ => none
  | .writeLineMap _ _ _ => none
  | .writeImageMap _ _ _ => none
  | .writeGradeTableEntry _ _ _ => none
  | .writeGroupTableEntry _ _ _ => none
  | .readLog _ _ => none
  | .ackLog _ => none
  | .unknownKindRequest _ _ => none

/-- R171: a class WRITE-ITEM may address, with an index in its range. -/
def namesWritable (sel : BitVec 16) : Bool :=
  decide (1 ≤ itemClass sel) && decide (itemClass sel ≤ 6) &&
    decide (itemIndex sel < classSize (itemClass sel))

/-- R169: the third common check, on the selector of a READ-ITEM, a WRITE-ITEM or a READ-LOG. -/
def selectorFits : Instr → Bool
  | .readItem _ sel => readable sel
  | .writeStandParameter _ sel _ => namesWritable sel
  | .writeSlotMapEntry _ sel _ => namesWritable sel
  | .writeLineMap _ sel _ => namesWritable sel
  | .writeImageMap _ sel _ => namesWritable sel
  | .writeGradeTableEntry _ sel _ => namesWritable sel
  | .writeGroupTableEntry _ sel _ => namesWritable sel
  | .readLog _ sel => decide (logPosition sel ≤ 31) && decide (logHalf sel ≤ 1)
  | _ => true

/-- R168: the part with the reply to a request held; the outbound frame of the request has wholly passed
(R1, log 5). -/
def State.replied (s : State) (r : Request) (kind : BitVec 4) (code : ReplyCode) (p : Payload) : State :=
  { s with heldReply := some ⟨s.nodeAddr, kind, r.stand, code, p⟩, outPassing := false }

/-- R13, R169: the part takes the request, and it names stand k. -/
def State.takesAt (s : State) (r : Request) (k : StandId) : Prop :=
  s.takes r = true ∧ r.stand.toNat = k.val

/-- R142: the record of a fault latched at the stand as it stands, in engine cycle c. -/
def Stand.latched (st : Stand) (kind : FaultKind) (c : Word) (sig : Option StaleSignal) : FaultRecord where
  kind := kind
  cycle := c
  stateAt := st.state
  fireIssued := decide (st.state = .firingIssued ∨ st.state = .confirm ∨ st.state = .settle)
  arm := st.runningArm
  signal := sig
  further := false

/-- R143: the same record with its further-faults flag set. -/
def FaultRecord.marked (r : FaultRecord) : FaultRecord := { r with further := true }

/-- R153: st' is what stand st becomes at a clear in which it keeps no tape-spent context, with the record
and the flags of R152 gone already: the ready context, gauged as every one that remains, returns to the
head when its arm shows no reel (item 1), or the stand enters READY with it (2); without one it enters
CHECKING with the head bound (3), or RUNNING (4). `waits` is that of the gauge window (log 16). -/
def Stand.Enters (st : Stand) (waits : Bool) (st' : Stand) : Prop :=
  let x := st.readyArm
  let shows := st.level x = true ∧ (st.arm x).unload = false
  (∀ c, st.ready = some c → ¬ shows →
    st' = { st with
      queue := c.record :: st.queue, ready := none, sNew := none, gaugeWindow := none
      state := .running }) ∧
  (∀ c, st.ready = some c → shows → st' = { st with state := .ready }) ∧
  (∀ q rest, st.ready = none → shows → st.queue = q :: rest → st.braking = false →
    st' = { st with
      queue := rest, ready := some ⟨q, x, none, none, false⟩, sNew := none, mountPending := false
      state := .checking, gaugeWindow := some ⟨x, 0, 0, waits⟩ }) ∧
  (st.ready = none → shows → st.queue = [] ∨ st.braking = true →
    st' = { st with state := .running, mountPending := true }) ∧
  (st.ready = none → ¬ shows → st' = { st with state := .running })

/-- R152: what every clear does before the stand enters its next state. -/
def Stand.unfaulted (st : Stand) : Stand :=
  { st with
    record := none, claimLost := false, linkLoss := false, acceptOpen := true, window := none
    running := st.running.map fun c => { c with anchor := none } }

/-- R161: the log entry of a sequence of stand k that ends with outcome o, from its two contexts, its plan and
what was kept with it. -/
def sequenceEntry (k : StandId) (o : LogOutcome) (old : RunningContext) (new : ReadyContext) (p : FirePlan)
    (q : KeptSequence) (lag : Option Nat) : LogEntry where
  stand := k
  outcome := o
  expiring := old.roll
  newRoll := new.record.roll
  width := new.record.width
  fire := p.fire
  delay := p.delay
  clamped := p.clamped
  late := p.late
  dRun := p.dRun
  lag := lag
  wait := q.wait
  urgent := q.urgent
  forced := q.forced

/-- R172: a field of an item payload: a number of so many bytes, or one byte of flags. -/
inductive ItemField where
  | num (bytes value : Nat)
  | flags (l : List Bool)
  deriving DecidableEq, Repr

/-- R20, R172: from byte b on, payload p carries the fields in their order, numbers least significant byte
first, flags from bit 0 on, and 0 in every bit after the last field. -/
def Carries (p : Payload) (b : Nat) : List ItemField → Prop
  | [] => ∀ i, 8 * b ≤ i → p.getLsbD i = false
  | .num n v :: rest => (p.extractLsb' (8 * b) (8 * n)).toNat = v % 256 ^ n ∧ Carries p (b + n) rest
  | .flags l :: rest =>
    (∀ i, i < 8 → p.getLsbD (8 * b + i) = l.getD i false) ∧ Carries p (b + 1) rest

/-- Conventions: q is n divided by d, rounded half up. -/
def IsRounded (n d q : Nat) : Prop := 2 * d * q ≤ 2 * n + d ∧ 2 * n + d < 2 * d * (q + 1)

end Sys2Proof.Machine
end

