-- ==== Sys2Proof/Certificates/Slice0/Obligations.lean ====
section
/-!
DEFINITION. The statements about the part, for the provers. Each follows the rules its docstring names.
A statement with hypotheses has its witness in
Sys2Proof/Tests/Slice0.lean. -/
open Sys2Proof Sys2Proof.Machine

/-! ### Steps, the queue, reset, the node address -/

/-- A step with a command at the front of the queue runs that command on the part with the queue's rest;
with an empty queue the part idles, which is the model's choice (log 3). -/
def Obligations.StepRunsFrontCommand : Prop :=
  (∀ (c : Instr) (rest : List Instr) (s : State),
    step { s with pending := c :: rest } = exec c { s with pending := rest }) ∧
  (∀ s : State, s.pending = [] → step s = .next s)

/-- R187, R19 and the tables of reset values: from the assertion on all state is lost and RESET holds the
part; the frames that leave keep what the part wrote into the fields that had passed, and go on as they
arrived, a field partly passed from bit to bit; an assertion while asserted changes nothing; the release
latches the address and gives every state its reset value; a release of a part that is not in reset is no
event. An outbound frame that has wholly passed is not cut, and in every part that can be reached
(PassingAgrees) none is still passing before the first marker after a release, once a reply is held or the
return side decided, or after a link loss. What the part holds while RESET is asserted, the records of the
frames at the ports and that queue and free index are kept are the model's choices (log 22, log 19); how
many bytes of a frame still passing have passed, and which bits of the byte after them, is free (log 5). A
frame that was cut is not cut again before the next frame begins. -/
def Obligations.ResetLosesAllState : Prop :=
  (∀ s : State, s.inReset = false →
    ∃ (t : State) (o : Fin 263) (n : Fin 503) (b d : Byte),
      exec .resetAssertion s = .next t ∧ t.inReset = true ∧
      t = { State.afterReset 0 with
        inReset := true, outFrame := t.outFrame, outArrived := s.outArrived, retFrame := t.retFrame
        retArrived := s.retArrived, freeIndex := s.freeIndex + 1, pending := s.pending } ∧
      (s.outPassing = false → o.val = 262) ∧
      (PassingAgrees s →
        s.engineCycle = none ∨ s.heldReply.isSome = true ∨ s.returnDecided = true ∨ s.watchArmed = false →
        o.val = 262) ∧
      (s.inFlight = none → n.val = 502) ∧
      (∀ f g, s.outFrame = some f → s.outArrived = some g →
        ∃ u, t.outFrame = some u ∧
          (∀ i, byteAt (outFrameBytes u) i =
            if i < o.val then byteAt (outFrameBytes f) i
            else if i = o.val then
              (byteAt (outFrameBytes f) i &&& b) ||| (byteAt (outFrameBytes g) i &&& ~~~b)
            else byteAt (outFrameBytes g) i) ∧
          (o.val = 262 → u = f) ∧ (o.val < 242 → u.request = g.request) ∧
          ∀ i : Fin 48, (7 + 5 * i.val ≤ o.val → u.slots[i] = f.slots[i]) ∧
            (o.val < 2 + 5 * i.val → u.slots[i] = g.slots[i])) ∧
      (∀ f g, s.retFrame = some f → s.retArrived = some g →
        let f' := { f with
          reply := match s.inFlight.bind (·.reply) with
            | some r => r.field
            | none => f.reply }
        ∃ u, t.retFrame = some u ∧
          (∀ i, byteAt (retFrameBytes u) i =
            if i < n.val then byteAt (retFrameBytes f') i
            else if i = n.val then
              (byteAt (retFrameBytes f') i &&& d) ||| (byteAt (retFrameBytes g) i &&& ~~~d)
            else byteAt (retFrameBytes g) i) ∧
          (n.val = 502 → u = f') ∧ (n.val < 482 → u.reply = g.reply) ∧
          ∀ i : Fin 96, (7 + 5 * i.val ≤ n.val → u.slots[i] = f.slots[i]) ∧
            (n.val < 2 + 5 * i.val → u.slots[i] = g.slots[i]))) ∧
  (∀ s : State, s.inReset = true → exec .resetAssertion s = .next s) ∧
  (∀ (s : State) (a : BitVec 5), s.inReset = true →
    ∃ t, exec (.resetRelease a) s = .next t ∧
      t = { State.afterReset a with
        outFrame := s.outFrame, outArrived := s.outArrived, retFrame := s.retFrame
        retArrived := s.retArrived, freeIndex := s.freeIndex, pending := s.pending } ∧
      t.inReset = false ∧ t.engineCycle = none ∧ t.lastCycle = none ∧ t.watchArmed = false ∧
      t.imageCount = 0 ∧ t.imageMap = none ∧ t.lineMap = none ∧ t.lineSpeed = 0 ∧ t.lineInc = 0 ∧
      t.heldReply = none ∧ t.log = [] ∧ t.overrun = false ∧
      (∀ i : Fin 16, t.grades[i] = ⟨70, 200⟩) ∧
      (∀ g, t.group g = ⟨.free, 0, 5000000⟩) ∧
      (∀ k, (t.stand k).state = .offline ∧ (t.stand k).runningArm = .a ∧
        (t.stand k).queue = [] ∧ (t.stand k).map = .unset ∧ (t.stand k).params = .default ∧
        (t.stand k).pinAsserted = true ∧ (t.stand k).counts = ⟨0, 0, 0, 0⟩ ∧
        (t.stand k).record = none ∧ (t.stand k).claimLost = false ∧ (t.stand k).linkLoss = false)) ∧
  (∀ (s : State) (a : BitVec 5), s.inReset = false → exec (.resetRelease a) s = .next s)

/-- R18: the address is latched at the release and held until the next reset; with 0 or 31 the part passes
every frame unchanged and takes no request. That a request tells that its outbound frame has wholly passed
is the model's form of it (log 5). -/
def Obligations.NodeAddressLatchedAndHeld : Prop :=
  (∀ (s : State) (a : BitVec 5), s.inReset = true →
    ∃ t, exec (.resetRelease a) s = .next t ∧ t.nodeAddr = a) ∧
  (∀ (c : Instr) (s t : State), exec c s = .next t →
    c ≠ .resetAssertion → (∀ a, c ≠ .resetRelease a) → t.nodeAddr = s.nodeAddr) ∧
  (∀ s : State, s.nodeAddr = 0 ∨ s.nodeAddr = 31 →
    (∀ f, ∃ t, exec (.outboundStartMarker f) s = .next t ∧ t.outFrame = some f) ∧
    (∀ f, ∃ t, exec (.returnFrame (.whole f)) s = .next t ∧ t.retFrame = some f) ∧
    (∀ f, ∃ t, exec (.returnFrame (.head f)) s = .next t ∧ t.retFrame = some f) ∧
    (∀ f, ∃ t, exec (.returnFrame (.early f)) s = .next t ∧ t.retFrame = some f) ∧
    (∀ c r kind, requestOf c = some (r, kind) → exec c s = .next { s with outPassing := false }))

/-! ### The link -/

/-- R3, R4, R11, R12, R13, R14, R16, R23, R26, R37, R45, R58, section 1.2: a marker adopts the first cycle
number, or advances the engine cycle by 1-65536 so that its low 16 bits equal the number received; it arms
the last-frame watch, ends the mark of a link loss, drops the held reply, and puts the IMAGE map into
force for its cycle; its frame is the one that is passing, where the part has an address (log 19). A
sequence break empties every history, discards every running-diameter window, and
restarts an open gauge window: a stand in CHECKING keeps it open, on its arm, with sum and count 0, unless
the frame's claims strike the stand; in every part whose groups agree (GroupsAgree, kept by every step). A
cycle whose step is still to be taken takes it at the marker, without samples, and at a break so does each
of the d - 1 passed-over cycles, in order, after the restart: LINE and the signals of every stand in
service age by these steps, and each stand takes its whole step, after which it may be granted. That the
map in force is latched at the marker (log 24, log 14), that a fire prepared for a frame that does not
come is dropped before these steps (log 15) and that the steps of a stand are taken together (log 23) are
the model's readings. -/
def Obligations.MarkerExtendsEngineCycle : Prop :=
  (∀ (s : State) (f : OutFrame), s.inReset = false →
    ∃ t, exec (.outboundStartMarker f) s = .next t ∧
      t.lastCycle = some f.cycle ∧ t.watchArmed = true ∧ t.linkLost = false ∧ t.heldReply = none ∧
      t.returnDecided = false ∧ t.stepPending = true ∧ t.imageActive = s.imageMap ∧
      t.outPassing = s.hasAddress ∧
      (s.engineCycle = none → t.engineCycle = some (f.cycle.setWidth 32)) ∧
      (∀ c, s.engineCycle = some c →
        (∃ d : Nat, 1 ≤ d ∧ d ≤ 65536 ∧ t.engineCycle = some (c + BitVec.ofNat 32 d) ∧
          (c + BitVec.ofNat 32 d).setWidth 16 = f.cycle ∧
          (∀ e, s.lineMap = some e →
            let g := if s.stepPending = true then s.line.step (some e) none false else s.line
            t.line = (fun g => g.step (some e) none true)^[d - 1]
              (if d ≠ 1 ∨ s.linkLost = true then { g with hist := [] } else g)) ∧
          ∀ k, (s.stand k).inService = true →
            let m := (s.stand k).map
            let g := (s.stand k).status
            let g' := if s.stepPending = true then (g.step m.status none).1 else g
            (t.stand k).status = (fun g => (g.step m.status none).1)^[d - 1] g' ∧
            ∀ x,
              let v := (s.stand k).arm x
              let p := v.spindle
              let p' := if s.stepPending = true then (p.step (m.spindle x) none false).1 else p
              let u := v.gauge
              let u' := if s.stepPending = true then (u.step (m.gauge x) none).1 else u
              ((t.stand k).arm x).spindle = (fun p => (p.step (m.spindle x) none true).1)^[d - 1]
                  (if d ≠ 1 ∨ s.linkLost = true then { p' with hist := [] } else p') ∧
                ((t.stand k).arm x).gauge = (fun u => (u.step (m.gauge x) none).1)^[d - 1] u') ∧
        (f.cycle ≠ (c + 1).setWidth 16 ∨ s.linkLost = true →
          t.line.hist = [] ∧
            ∀ k, (t.stand k).armA.spindle.hist = [] ∧ (t.stand k).armB.spindle.hist = [] ∧
              (t.stand k).window = none ∧
              (GroupsAgree s → ∀ w, (s.stand k).state = .checking → (s.stand k).gaugeWindow = some w →
                (t.stand k).state = .fault ∨
                  (t.stand k).state = .checking ∧
                    ∃ b, (t.stand k).gaugeWindow = some ⟨w.arm, 0, 0, b⟩)))) ∧
  (∀ (s : State) (f : OutFrame) (c : Word), s.inReset = false → s.engineCycle = some c →
    exec (.outboundStartMarker f) s = .next ((s.beginCycle f.cycle).passOutbound f) ∧
    ∃ d : Nat, 1 ≤ d ∧ d ≤ 65536 ∧ (c + BitVec.ofNat 32 d).setWidth 16 = f.cycle ∧
      let s0 := { s with heldReply := none, inFlight := s.inFlight.map fun g => { g with samples := none } }
      let q := if d = 1 then s0 else s0.dropFires
      let p := if s.stepPending = true then { q with stepPending := false }.cycleStep none false else q
      let r := if d ≠ 1 ∨ s.linkLost = true then p.restart else p
      let v := (fun w : State =>
        { w with engineCycle := some (w.cycle + 1) }.cycleStep none true)^[d - 1] r
      s.beginCycle f.cycle = { v with
        engineCycle := some (c + BitVec.ofNat 32 d), lastCycle := some f.cycle, watchArmed := true
        linkLost := false, stepPending := true, returnDecided := false, imageActive := s.imageMap }) ∧
  ∀ (s : State) (passedOver : Bool) (k : StandId), GroupsAgree s →
    let a := s.lineStep none passedOver
    let st := (State.standStep none passedOver a.2 (a.1.countDown a.2.increment) k).stand k
    (s.cycleStep none passedOver).stand k = st ∨
      st.requests = true ∧
        ∃ g, (s.cycleStep none passedOver).stand k = { st with state := .firingPending, grant := some g }

/-- R1, R5, R8, R13, R167, section 1.3: the cycle number, the service request field and every command slot
that is mapped to no stand in service, or only to stands whose claim-lost flag is set, leave the part as
they arrived; in every part whose groups and sequences agree (GroupsAgree, kept by every step). -/
def Obligations.MarkerLeavesForeignSlots : Prop :=
  ∀ (s : State) (f : OutFrame), GroupsAgree s →
    ∃ t f', exec (.outboundStartMarker f) s = .next t ∧ t.outFrame = some f' ∧ t.outArrived = some f ∧
      f'.cycle = f.cycle ∧ f'.request = f.request ∧
      ∀ i : Fin 48,
        (∀ k, (s.stand k).inService = true → (s.stand k).claimLost = false →
          i ∉ (s.stand k).map.commandSlots) →
        f'.slots[i] = f.slots[i]

/-- R2, R5, R16, R17, R18, R20, sections 1.1, 1.3 and 1.11: the four slots of a stand the part writes carry
the part's tag and the advanced counts; the DRIVE slots carry mode and reference; PASTE carries the fire
prepared for this frame, KNIFE the knife due in it, and no command otherwise, none in the frame that issues
a fire. A part with an address makes these writes in every frame, for each stand in service that is not
claim-lost and whose slots arrive with tag 0 or its own, where no other stand in service maps them; in every
part whose groups agree (GroupsAgree, kept by every step). By section 1.11 a DRIVE payload has the mode in
bits 0-1 and the reference in bits 16-31, a PASTE or KNIFE payload the fire flag in bit 0 and the offset in
bits 8-15; every other bit is 0. -/
def Obligations.StandSlotsAreWritten : Prop :=
  (∀ (m : DriveMode) (ref : Nat), ref ≤ 65535 →
    let w := drivePayload m ref
    w.extractLsb' 0 2 = (match m with | .idle => 0#2 | .speed => 1#2 | .tension => 2#2 | .brake => 3#2) ∧
      w.extractLsb' 2 14 = 0#14 ∧ (w.extractLsb' 16 16).toNat = ref) ∧
  (∀ off : Nat, off ≤ 255 →
    let w := firePayload (some off)
    w.extractLsb' 0 8 = 1#8 ∧ (w.extractLsb' 8 8).toNat = off ∧ w.extractLsb' 16 16 = 0#16) ∧
  firePayload none = 0#32 ∧
  (∀ (m : Word) (s : State) (slots : Vector Slot 48) (k : StandId) (a b p n : Fin 48),
    (s.stand k).written = true →
    (s.stand k).map.driveA = some a → (s.stand k).map.driveB = some b →
    (s.stand k).map.paste = some p → (s.stand k).map.knife = some n → [a, b, p, n].Nodup →
    let t := (State.writeStand m (s, slots) k).1
    let w := (State.writeStand m (s, slots) k).2
    let st := s.stand k
    w[a] = ⟨st.counts.driveA + 1, s.nodeAddr,
        drivePayload ((t.stand k).driveMode .a) ((t.stand k).speedRef .a)⟩ ∧
      w[b] = ⟨st.counts.driveB + 1, s.nodeAddr,
        drivePayload ((t.stand k).driveMode .b) ((t.stand k).speedRef .b)⟩ ∧
      w[p] = ⟨st.counts.paste + 1, s.nodeAddr,
        match st.sched.prepared with
        | some q => if st.state = .firingPending ∧ q.cycle = m then firePayload (some q.offset) else 0
        | none => 0⟩ ∧
      w[n].count = st.counts.knife + 1 ∧ w[n].tag = s.nodeAddr ∧
      (st.state ≠ .firingPending → st.state ≠ .firingIssued → w[n].payload = 0) ∧
      (st.state = .firingPending → (∀ q, st.sched.prepared = some q → q.offset ≤ 249) →
        1000 ≤ st.params.minGap → st.params.minGap ≤ st.params.maxGap → st.params.maxGap ≤ 1000000 →
        w[n].payload = 0) ∧
      (st.state = .firingIssued → ∀ q, st.sched.plan = some q → q.knifeState = .planned →
        w[n].payload =
          if q.knife.cycle = m + 1 then firePayload (some q.knife.offset)
          else if cycleAfter q.knife.cycle (m + 1) then 0
          else firePayload (some 0)) ∧
      (∀ i : Fin 48, i ∉ [a, b, p, n] → w[i] = slots[i]) ∧
      (∀ j, j ≠ k → t.stand j = s.stand j) ∧ t.groups = s.groups) ∧
  (∀ (s : State) (f : OutFrame) (k : StandId), GroupsAgree s → s.hasAddress = true →
    (∀ j i, j ≠ k → (s.stand j).inService = true → i ∈ (s.stand j).map.commandSlots →
      i ∉ (s.stand k).map.commandSlots) →
    let u := State.writeStand s.cycle (s.checkClaims f.slots, f.slots) k
    ∃ f', (s.passOutbound f).outFrame = some f' ∧ (s.passOutbound f).stand k = u.1.stand k ∧
      ∀ i ∈ (s.stand k).map.commandSlots, f'.slots[i] = u.2[i]) ∧
  ∀ (s : State) (f : OutFrame) (k : StandId) (a b p n : Fin 48), GroupsAgree s → s.inReset = false →
    1 ≤ s.nodeAddr.toNat → s.nodeAddr.toNat ≤ 30 →
    (s.stand k).state ≠ .offline → (s.stand k).claimLost = false →
    (s.stand k).map.driveA = some a → (s.stand k).map.driveB = some b →
    (s.stand k).map.paste = some p → (s.stand k).map.knife = some n → [a, b, p, n].Nodup →
    (∀ i : Fin 48, i ∈ [a, b, p, n] → f.slots[i].tag = 0 ∨ f.slots[i].tag = s.nodeAddr) →
    (∀ j i, j ≠ k → (s.stand j).inService = true → i ∈ (s.stand j).map.commandSlots →
      i ∉ [a, b, p, n]) →
    exec (.outboundStartMarker f) s = .next ((s.beginCycle f.cycle).passOutbound f) ∧
    ∃ f', ((s.beginCycle f.cycle).passOutbound f).outFrame = some f' ∧
      (∀ st c, st = ((s.beginCycle f.cycle).passOutbound f).stand k → c = (s.stand k).counts →
        st.counts = ⟨c.driveA + 1, c.driveB + 1, c.paste + 1, c.knife + 1⟩ ∧
        f'.slots[a] = ⟨c.driveA + 1, s.nodeAddr, drivePayload (st.driveMode .a) (st.speedRef .a)⟩ ∧
        f'.slots[b] = ⟨c.driveB + 1, s.nodeAddr, drivePayload (st.driveMode .b) (st.speedRef .b)⟩ ∧
        f'.slots[p].count = c.paste + 1 ∧ f'.slots[p].tag = s.nodeAddr ∧
        f'.slots[n].count = c.knife + 1 ∧ f'.slots[n].tag = s.nodeAddr)

/-- R7, R8, R1, R122, R160, R161, R163, section 1.4: the claim check of a frame strikes exactly the stands
in service with claim-lost clear, one of whose four mapped slots arrives with a tag that is neither 0 nor
the part's own. A claim conflict sets claim-lost and takes a CLAIM-CONFLICT fault: latched from any state
in service, a further fault in FAULT. A stand struck in FIRING-issued or CONFIRM joins the log as ABORTED
without a lag. In that frame none of the stand's slots is written, where no other stand in service maps
it. Another stand is changed only by the grant of a group that a struck stand released; in every part
whose groups agree (GroupsAgree, kept by every step). -/
def Obligations.ClaimConflictStrikesStand : Prop :=
  (∀ (s : State) (k : StandId), GroupsAgree s → (s.stand k).inService = true →
    let t := s.claimConflict k
    (t.stand k).claimLost = true ∧ (t.stand k).state = .fault ∧
      ((s.stand k).state ≠ .fault →
        (t.stand k).record = some ((s.stand k).latched .claimConflict s.cycle none)) ∧
      ((s.stand k).state = .fault →
        (t.stand k).record = (s.stand k).record.map FaultRecord.marked) ∧
      (t.stand k).map = (s.stand k).map ∧ (t.stand k).counts = (s.stand k).counts ∧
      (LogBounded s →
        ((s.stand k).state ∉ [.firingIssued, .confirm] → t.log = s.log ∧ t.overrun = s.overrun) ∧
        ∀ old new p q, (s.stand k).state ∈ [.firingIssued, .confirm] →
          (s.stand k).running = some old → (s.stand k).ready = some new →
          (s.stand k).sched.plan = some p → (s.stand k).kept = some q →
          t.log = (if s.log.length < 32 then s.log else s.log.drop 1) ++
            [sequenceEntry k .aborted old new p q none] ∧
          t.overrun = (s.overrun || decide (s.log.length = 32)))) ∧
  (∀ (s : State) (slots : Vector Slot 48) (k : StandId), GroupsAgree s →
    let st := s.stand k
    let t := s.checkClaims slots
    let struck := st.state ≠ .offline ∧ st.claimLost = false ∧
      ∃ i : Fin 48, some i ∈ [st.map.driveA, st.map.driveB, st.map.paste, st.map.knife] ∧
        slots[i].tag ≠ 0 ∧ slots[i].tag ≠ s.nodeAddr
    (struck →
      (t.stand k).claimLost = true ∧ (t.stand k).state = .fault ∧
      (st.state = .fault → (t.stand k).record = st.record.map FaultRecord.marked) ∧
      (st.state ≠ .fault → ∃ f, (t.stand k).record = some f ∧ f.kind = .claimConflict ∧
        f.cycle = s.cycle ∧ f.arm = st.runningArm ∧ f.signal = none ∧ f.further = false ∧
        f.fireIssued = decide (st.state = .firingIssued ∨ st.state = .confirm ∨ st.state = .settle) ∧
        (f.stateAt = st.state ∨ st.requests = true ∧ f.stateAt = .firingPending))) ∧
    (¬ struck → t.stand k = st ∨
      st.requests = true ∧ ∃ g, t.stand k = { st with state := .firingPending, grant := some g })) ∧
  ∀ (s : State) (f : OutFrame), s.inReset = false → s.hasAddress = true → GroupsAgree s →
    ∃ t f', exec (.outboundStartMarker f) s = .next t ∧ t.outFrame = some f' ∧
      ∀ k, (s.stand k).state ≠ .offline → (s.stand k).claimLost = false →
        (∃ i ∈ (s.stand k).map.commandSlots, f.slots[i].tag ≠ 0 ∧ f.slots[i].tag ≠ s.nodeAddr) →
        (t.stand k).claimLost = true ∧ (t.stand k).state = .fault ∧
        ∀ i ∈ (s.stand k).map.commandSlots,
          (∀ j, j ≠ k → (s.stand j).inService = true → i ∉ (s.stand j).map.commandSlots) →
          f'.slots[i] = f.slots[i]

/-- R10, R11, R12, R13, R23, R26, R39, R69, R70, R73, R85, sections 1.5 and 1.6: the return frame of the
current cycle leaves with the image in its two slots while the IMAGE map in force is set, with the held
reply in its last field, and with every other field as it arrived. At its end the step of its cycle is
taken: LINE and the five signals of each stand in service are captured from it, then each stand is measured,
its reel-present changes act, its braking flag is worked out and its transitions are made; after that a
stand may be granted. The reel-present changes of the ready arm set and clear mount-pending and return a
context as R69, R70 and R73 say. A frame of which the head comes first and the tail later ends as the whole
frame does; between them nothing is captured and the reply field is as it arrived. Where the next start
marker comes between, the tail still writes the reply, but captures nothing. The forms whole, head and tail
(log 5), that the IMAGE map in force is the one of the start marker (log 24, log 14) and that the steps of a
stand are taken together (log 23) are the model's readings; that a braking flag set by a transition is not
tested before the next step is its choice (log 32). -/
def Obligations.MatchedReturnFrameIsWritten : Prop :=
  (∀ (s : State) (f : RetFrame), s.inReset = false → s.hasAddress = true → s.inFlight = none →
    s.returnDecided = false → s.lastCycle = some f.cycle →
    ∃ t f', exec (.returnFrame (.whole f)) s = .next t ∧ t.retFrame = some f' ∧
      f'.cycle = f.cycle ∧
      f'.reply = (match s.heldReply with | some r => r.field | none => f.reply) ∧
      (s.imageActive = none → f'.slots = f.slots ∧ t.imageCount = s.imageCount) ∧
      (∀ i j, s.imageActive = some (i, j) → i ≠ j →
        f'.slots[i] = ⟨s.imageCount + 1, s.nodeAddr, s.image0⟩ ∧
        f'.slots[j] = ⟨s.imageCount + 1, s.nodeAddr, s.image1⟩ ∧
        (∀ n : Fin 96, n ≠ i → n ≠ j → f'.slots[n] = f.slots[n]) ∧
        t.imageCount = s.imageCount + 1) ∧
      t.heldReply = none ∧ t.inFlight = none ∧ t.returnDecided = true ∧ t.stepPending = false ∧
      t.outPassing = false ∧ t.engineCycle = s.engineCycle ∧
      (∀ e, s.lineMap = some e → t.line = s.line.step (some e) (some f.slots) false) ∧
      (s.lineMap = none → t.line = s.line) ∧
      (∀ k, (s.stand k).inService = true →
        (t.stand k).status = ((s.stand k).status.step (s.stand k).map.status (some f.slots)).1 ∧
        ∀ x, ((t.stand k).arm x).spindle = (((s.stand k).arm x).spindle.step
              ((s.stand k).map.spindle x) (some f.slots) false).1 ∧
          ((t.stand k).arm x).gauge = (((s.stand k).arm x).gauge.step
              ((s.stand k).map.gauge x) (some f.slots)).1) ∧
      (GroupsAgree s → ∀ k,
        let a := s.lineStep (some f.slots) false
        let st := (State.standStep (some f.slots) false a.2 (a.1.countDown a.2.increment) k).stand k
        t.stand k = st ∨
          st.requests = true ∧ ∃ g, t.stand k = { st with state := .firingPending, grant := some g })) ∧
  (∀ (samples : Option (Vector Slot 96)) (passedOver : Bool) (lh : LineHand) (s : State) (k : StandId),
    ((s.stand k).state = .offline → State.standStep samples passedOver lh s k = s) ∧
    ((s.stand k).state ≠ .offline →
      let c := (s.stand k).captureStep samples passedOver
      let s1 := (s.setStand k (c.1.staleWindow c.2 lh)).watchStand k lh.stale
      let m := (s1.stand k).measureStep c.2 (!lh.stale) passedOver lh.increment s.lineSpeed s.grades
      let v := (m.1.reelChanges c.2).brakingStep
      State.standStep samples passedOver lh s k =
        (s1.setStand k v).transitions k c.2 lh.stale m.2 (m.1.state != v.state))) ∧
  (∀ (s : State) (f : RetFrame), s.inReset = false →
    ∃ t, exec (.returnFrame (.head f)) s = .next t ∧
      exec (.returnFrame .tail) t = exec (.returnFrame (.whole f)) s ∧
      (s.hasAddress = true → s.inFlight = none → s.returnDecided = false → s.lastCycle = some f.cycle →
        t = { s with
          retFrame := some { f with slots := s.imageSlots f.slots }, retArrived := some f
          imageCount := if s.imageActive.isSome = true then s.imageCount + 1 else s.imageCount
          inFlight := some ⟨some f.slots, s.heldReply⟩
          heldReply := none, returnDecided := true, outPassing := false })) ∧
  (∀ (s : State) (f : OutFrame) (g : InFlight), s.inReset = false → s.inFlight = some g →
    ∃ t, exec (.outboundStartMarker f) s = .next t ∧ t.inFlight = some { g with samples := none } ∧
      t.retFrame = s.retFrame ∧ t.retArrived = s.retArrived ∧
      exec (.returnFrame .tail) t = .next { t with
        inFlight := none
        retFrame := s.retFrame.map fun u => match g.reply with
          | some r => { u with reply := r.field }
          | none => u }) ∧
  ∀ (st : Stand) (h : StandHand),
    let x := st.readyArm
    ((h.arm x).change = some false →
      (∀ c, st.ready = some c → c.spent = false → st.state ∈ [.checking, .ready, .fault] →
        st.reelChanges h = { st with
          mountPending := false, queue := c.record :: st.queue, ready := none, sNew := none
          gaugeWindow := none, state := if st.state = .fault then .fault else .running }) ∧
      (st.state ∉ [.checking, .ready, .fault] → st.reelChanges h = { st with mountPending := false }) ∧
      (st.state = .fault → (∀ c, st.ready = some c → c.spent = true) →
        st.reelChanges h = { st with mountPending := false })) ∧
    ((h.arm x).change ≠ some false → st.ready = none →
      (h.arm x).change = some true ∨ (h.arm x).firstTrue = true ∧ (st.arm x).declaredEmpty = true →
      st.reelChanges h = { st with mountPending := true }) ∧
    ((h.arm x).change ≠ some false →
      st.ready ≠ none ∨ (h.arm x).change = none ∧
        ((h.arm x).firstTrue = false ∨ (st.arm x).declaredEmpty = false) →
      st.reelChanges h = st)

/-- R10: a return frame that another has preceded, one of another cycle number, and one that reaches the
port before the request field has passed, leave unchanged; nothing is captured and the held reply stays;
so does a frame before the first outbound frame. How a frame reaches the part whole or early, and that one
which is not early finds the outbound frame wholly passed, is the model's form of the row (log 5). -/
def Obligations.UnmatchedReturnFramePasses : Prop :=
  ∀ (s : State) (f : RetFrame), s.inReset = false → s.inFlight = none →
    (s.returnDecided = true →
      exec (.returnFrame (.whole f)) s =
        .next { s with retFrame := some f, retArrived := some f, outPassing := false }) ∧
    (∀ n, s.returnDecided = false → s.lastCycle = some n → f.cycle ≠ n →
      exec (.returnFrame (.whole f)) s =
        .next { s with
          retFrame := some f, retArrived := some f, outPassing := false, returnDecided := true }) ∧
    (s.returnDecided = false → s.lastCycle = none →
      exec (.returnFrame (.whole f)) s =
        .next { s with retFrame := some f, retArrived := some f, outPassing := false }) ∧
    exec (.returnFrame (.early f)) s = .next { s with retFrame := some f, retArrived := some f }

/-- R14, R15, R104, R122, R160, R161, R162, R163, section 1.7: an expiry of an armed watch disarms it and
strikes every stand in service: a stand not in FAULT is latched LINK-LOSS, one in FAULT is marked with a
further fault; each has its link-loss flag set, no stand holds or requests a group afterwards, and OFFLINE
stands are as they were. The stands struck in FIRING-issued or CONFIRM, and no other, join the log as
ABORTED without a lag, once each, in an order left open (log 7); of more than 32 entries the oldest are
lost. A watch that is not armed does not expire. Whether the step of the cycle is still to come stands
beside a remaining length (the model's reading, log 20), and the outbound frame last begun has wholly
passed (log 5). -/
def Obligations.LinkLossStrikesStandsInService : Prop :=
  (∀ s : State, s.inReset = false → s.watchArmed = true → GroupsAgree s →
    ∃ t, exec .linkLoss s = .next t ∧ t.watchArmed = false ∧ t.linkLost = true ∧
      t.engineCycle = s.engineCycle ∧ t.outPassing = false ∧
      (∀ g k, (t.group g).grant ≠ .held k ∧ (t.group g).has k = false) ∧
      (∀ g k, (s.group g).grant = .held k →
        if (s.stand k).state = .firingPending ∨ (s.group g).stagger = 0 then (t.group g).grant = .free
        else (t.group g).grant = .spacing (s.group g).stagger s.stepPending) ∧
      (LogBounded s → ContextsAgree s → ∃ es : List LogEntry, (es.map (·.stand)).Nodup ∧
        (∀ k, k ∈ es.map (·.stand) ↔ (s.stand k).state ∈ [.firingIssued, .confirm]) ∧
        (∀ e ∈ es, ∃ old new p q, (s.stand e.stand).running = some old ∧
          (s.stand e.stand).ready = some new ∧ (s.stand e.stand).sched.plan = some p ∧
          (s.stand e.stand).kept = some q ∧
          e = sequenceEntry e.stand .aborted old new p q none) ∧
        t.log = (s.log ++ es).drop (s.log.length + es.length - 32) ∧
        t.overrun = (s.overrun || decide (32 < s.log.length + es.length))) ∧
      ∀ k,
        ((s.stand k).inService = false → t.stand k = s.stand k) ∧
        ((s.stand k).inService = true →
          (t.stand k).state = .fault ∧ (t.stand k).linkLoss = true ∧
          ((s.stand k).state ≠ .fault →
            (t.stand k).record = some ((s.stand k).latched .linkLoss s.cycle none)) ∧
          ((s.stand k).state = .fault →
            (t.stand k).record = (s.stand k).record.map FaultRecord.marked) ∧
          ((s.stand k).state = .firingIssued →
            (t.stand k).sched.plan.map (·.knifeState) =
              (s.stand k).sched.plan.map fun _ => .withheld))) ∧
  (∀ s : State, s.watchArmed = false → exec .linkLoss s = .next s)

/-! ### Capture -/

/-- R26, R27, R28, R30, R31, R36, R56, R68, sections 2.2 and 2.3: a slot refreshes a signal when its count
differs from the reference count, whatever its tag; a refresh makes the signal LIVE with count 0, any other
step ages it, and at the limit, 8 times the divisor of its entry, a LIVE signal goes to STALE. A refreshed
GAUGE signal holds the reel-present flag and a diameter other than 0; it hands over the reading that reports
a reel, a change of the flag against the held one, and whether its first refresh reports a reel; without a
refresh nothing. A refreshed SPINDLE, STATUS or LINE signal holds the angle, the home flags or the web
position of the sample, and hands over its tape mark or splice-confirm; without a refresh it keeps its value
and hands over nothing. The history of a LIVE signal takes its held value in each step but one of a
passed-over cycle, as the last of at most 17 entries; any other signal's is empty. A step captures the five
signals of a stand and changes nothing else, but that an arm's unload-required flag is cleared at its end
where the arm's reel-present level, false without a held value (log 9), is false. -/
def Obligations.CaptureOfASlot : Prop :=
  (∀ (c : Capture) (limit : Nat),
    (∀ sl : Slot,
      ((c.take limit (some sl)).2 = true ↔ ∃ r, c.ref = some r ∧ sl.count ≠ r) ∧
      (c.take limit (some sl)).1.ref = some sl.count ∧
      ((c.take limit (some sl)).2 = true →
        (c.take limit (some sl)).1.cond = .live ∧ (c.take limit (some sl)).1.since = 0)) ∧
    ∀ slot : Option Slot, (c.take limit slot).2 = false →
      (c.take limit slot).1.since = min 65535 (c.since + 1) ∧
      (slot = none → (c.take limit slot).1.ref = c.ref) ∧
      ((c.take limit slot).1.cond = .live ↔ c.cond = .live ∧ min 65535 (c.since + 1) < limit) ∧
      ((c.take limit slot).1.cond = .waiting ↔ c.cond = .waiting)) ∧
  (∀ (g : Gauge) (e : RetEntry) (slots : Vector Slot 96),
    let sl := slots[e.slot]
    let r := g.step (some e) (some slots)
    let fresh := ∃ c, g.cap.ref = some c ∧ sl.count ≠ c
    r.1.cap = (g.cap.take (8 * e.divisor.value) (some sl)).1 ∧
    (g.step (some e) none).1.cap = (g.cap.take (8 * e.divisor.value) none).1 ∧
    (¬ fresh → r.1.diameter = g.diameter ∧ r.1.present = g.present ∧ r.2 = (none, none, false)) ∧
    (fresh → r.1.present = some (sl.payload.getLsbD 14) ∧
      (sl.payload.extractLsb' 0 14 = 0#14 → r.1.diameter = g.diameter) ∧
      (∀ d, gaugeDiameter sl.payload = some d → r.1.diameter = some d) ∧
      (∀ d, r.2.1 = some d ↔ gaugeDiameter sl.payload = some d ∧ sl.payload.getLsbD 14 = true) ∧
      (∀ b, r.2.2.1 = some b ↔ sl.payload.getLsbD 14 = b ∧ g.present = some (!b)) ∧
      (r.2.2.2 = true ↔ g.present = none ∧ sl.payload.getLsbD 14 = true))) ∧
  (∀ (g : Gauge) (e : Option RetEntry), let r := g.step e none
    r.1.diameter = g.diameter ∧ r.1.present = g.present ∧ r.2 = (none, none, false)) ∧
  (∀ (g : Spindle) (e : RetEntry) (slots : Vector Slot 96) (p : Bool),
    let sl := slots[e.slot]
    let r := g.step (some e) (some slots) p
    let fresh := ∃ c, g.cap.ref = some c ∧ sl.count ≠ c
    (r.2.1 = true ↔ fresh) ∧ r.1.cap = (g.cap.take (8 * e.divisor.value) (some sl)).1 ∧
    (g.step (some e) none p).1.cap = (g.cap.take (8 * e.divisor.value) none).1 ∧
    (fresh → r.1.angle = some (sl.payload.extractLsb' 0 12) ∧ r.2.2 = spindleMark sl.payload) ∧
    (¬ fresh → r.1.angle = g.angle ∧ r.2.2 = none)) ∧
  (∀ (g : Spindle) (e : Option RetEntry) (samples : Option (Vector Slot 96)) (p : Bool),
    let r := g.step e samples p
    (samples = none → r.1.angle = g.angle ∧ r.2 = (false, none)) ∧
    (r.1.cap.cond ≠ .live → r.1.hist = []) ∧
    (r.1.cap.cond = .live → p = true → r.1.hist = g.hist) ∧
    ∀ v, r.1.cap.cond = .live → p = false → r.1.angle = some v →
      r.1.hist = (g.hist ++ [v]).drop (g.hist.length - 16)) ∧
  (∀ (v : ArmState) (es eg : Option RetEntry) (samples : Option (Vector Slot 96)) (p : Bool),
    let sp := v.spindle.step es samples p
    let ga := v.gauge.step eg samples
    let r := v.step es eg samples p
    r.1 = { v with spindle := sp.1, gauge := ga.1, unload := r.1.unload } ∧
    (r.1.unload = true ↔ v.unload = true ∧ ga.1.present = some true) ∧
    r.2 = ⟨sp.2.1, decide (v.spindle.cap.cond = .live), v.spindle.angle,
      decide (v.spindle.cap.cond = .live ∧ sp.1.cap.cond ≠ .live), sp.2.2, ga.2.1, ga.2.2.1, ga.2.2.2⟩) ∧
  (∀ (st : Stand) (samples : Option (Vector Slot 96)) (p : Bool),
    let a := st.armA.step st.map.spindleA st.map.gaugeA samples p
    let b := st.armB.step st.map.spindleB st.map.gaugeB samples p
    let g := st.status.step st.map.status samples
    st.captureStep samples p =
      ({ st with armA := a.1, armB := b.1, status := g.1 }, ⟨a.2, b.2, g.2⟩)) ∧
  (∀ (g : Status) (e : RetEntry) (slots : Vector Slot 96),
    let sl := slots[e.slot]
    let r := g.step (some e) (some slots)
    let fresh := ∃ c, g.cap.ref = some c ∧ sl.count ≠ c
    r.1.cap = (g.cap.take (8 * e.divisor.value) (some sl)).1 ∧
    (fresh → r.1.home = some ⟨sl.payload.getLsbD 1, sl.payload.getLsbD 2⟩ ∧
      r.2 = statusConfirm sl.payload) ∧
    (¬ fresh → r.1.home = g.home ∧ r.2 = none) ∧
    g.step (some e) none =
      (⟨(g.cap.take (8 * e.divisor.value) none).1, g.home⟩, none)) ∧
  (∀ (g : Line) (e : RetEntry) (slots : Vector Slot 96) (p : Bool),
    let sl := slots[e.slot]
    let r := g.step (some e) (some slots) p
    let fresh := ∃ c, g.cap.ref = some c ∧ sl.count ≠ c
    r.cap = (g.cap.take (8 * e.divisor.value) (some sl)).1 ∧
    (g.step (some e) none p).cap = (g.cap.take (8 * e.divisor.value) none).1 ∧
    (fresh → r.pos = some (sl.payload.extractLsb' 0 24)) ∧ (¬ fresh → r.pos = g.pos)) ∧
  ∀ (g : Line) (e : Option RetEntry) (samples : Option (Vector Slot 96)) (p : Bool),
    let r := g.step e samples p
    (samples = none → r.pos = g.pos) ∧
    (r.cap.cond ≠ .live → r.hist = []) ∧
    (r.cap.cond = .live → p = true → r.hist = g.hist) ∧
    ∀ v, r.cap.cond = .live → p = false → r.pos = some v →
      r.hist = (g.hist ++ [v]).drop (g.hist.length - 16)

/-- R31, R32, R33, R34, R37, R45, section 2.3: a LIVE signal that reaches its stale limit goes to STALE,
its count advanced and its held value kept, with its history emptied; LINE discards every running-diameter
window, the running arm's SPINDLE signal that of its stand; nothing else changes. A signal that is not
LIVE, or short of its limit, is left as it was. The row is taken alone, as that part of its step (the
model's reading, log 2). -/
def Obligations.StaleLimitEmptiesHistory : Prop :=
  ∀ s : State, s.inReset = false →
    (∀ k x, (s.stand k).inService = true →
      let st := s.stand k
      let c := (st.arm x).spindle.cap
      let limit := entryLimit (st.map.spindle x)
      (c.cond = .live → limit ≤ c.since + 1 →
        exec (.signalStaleLimit (.spindle k x)) s = .next (s.setStand k
          { st.setArm x { st.arm x with
              spindle := ⟨⟨.stale, min 65535 (c.since + 1), c.ref⟩, (st.arm x).spindle.angle, []⟩ } with
            window := if x = st.runningArm then none else st.window })) ∧
      (c.cond ≠ .live ∨ c.since + 1 < limit → exec (.signalStaleLimit (.spindle k x)) s = .next s)) ∧
    (∀ k x, (s.stand k).inService = true →
      let st := s.stand k
      let g := (st.arm x).gauge
      let limit := entryLimit (st.map.gauge x)
      (g.cap.cond = .live → limit ≤ g.cap.since + 1 →
        exec (.signalStaleLimit (.gauge k x)) s = .next (s.setStand k
          (st.setArm x { st.arm x with
            gauge := ⟨⟨.stale, min 65535 (g.cap.since + 1), g.cap.ref⟩, g.diameter, g.present⟩ }))) ∧
      (g.cap.cond ≠ .live ∨ g.cap.since + 1 < limit →
        exec (.signalStaleLimit (.gauge k x)) s = .next s)) ∧
    (∀ k, (s.stand k).inService = true →
      let g := (s.stand k).status
      let limit := entryLimit (s.stand k).map.status
      (g.cap.cond = .live → limit ≤ g.cap.since + 1 →
        exec (.signalStaleLimit (.status k)) s = .next (s.setStand k { s.stand k with
          status := ⟨⟨.stale, min 65535 (g.cap.since + 1), g.cap.ref⟩, g.home⟩ })) ∧
      (g.cap.cond ≠ .live ∨ g.cap.since + 1 < limit →
        exec (.signalStaleLimit (.status k)) s = .next s)) ∧
    (∀ k, (s.stand k).inService = false → ∀ g, signalStand g = some k →
      exec (.signalStaleLimit g) s = .next s) ∧
    (∀ e, s.lineMap = some e →
      (s.line.cap.cond = .live → 8 * e.divisor.value ≤ s.line.cap.since + 1 →
        exec (.signalStaleLimit .line) s = .next { s with
          line := ⟨⟨.stale, min 65535 (s.line.cap.since + 1), s.line.cap.ref⟩, s.line.pos, []⟩
          stands := s.stands.map fun st => { st with window := none } }) ∧
      (s.line.cap.cond ≠ .live ∨ s.line.cap.since + 1 < 8 * e.divisor.value →
        exec (.signalStaleLimit .line) s = .next s)) ∧
    (s.lineMap = none → exec (.signalStaleLimit .line) s = .next s)

/-- R35, section 2.3: in each capture step each of a stand's three stale-watch counts advances by 1, to 64 at
most, where its signal is stale at the end of the step and the stand is in ACCEL, MATCHED or
FIRING-pending, and returns to 0 otherwise; nothing else changes. When a count reaches 64, the stand takes
a SIGNAL-STALE fault that names the first of LINE, its ready arm's SPINDLE signal and STATUS whose count
reached 64. The row SIGNAL_STALE is taken alone, as that part of its step (the model's reading, log 2). -/
def Obligations.StaleWatchFaultsStand : Prop :=
  (∀ (st : Stand) (lineStale : Bool),
    let t := st.watchStep lineStale
    let watched := st.state ∈ [.accel, .matched, .firingPending]
    let w := st.watch
    t = { st with watch := t.watch } ∧
    (t.watch.line = if watched ∧ lineStale = true then min 64 (w.line + 1) else 0) ∧
    (t.watch.spindle =
      if watched ∧ (st.arm st.readyArm).spindle.cap.cond ≠ .live then min 64 (w.spindle + 1) else 0) ∧
    (t.watch.status = if watched ∧ st.status.cap.cond ≠ .live then min 64 (w.status + 1) else 0)) ∧
  (∀ (s : State) (k : StandId) (lineStale : Bool),
    let st := (s.stand k).watchStep lineStale
    let t := s.setStand k st
    let sig : Option StaleSignal :=
      if st.watch.line = 64 then some .line
      else if st.watch.spindle = 64 then some (if st.readyArm = .a then .spindleA else .spindleB)
      else if st.watch.status = 64 then some .status
      else none
    (sig = none → s.watchStand k lineStale = t) ∧
    ∀ g, sig = some g → s.watchStand k lineStale = t.takeFault k .signalStale (some g)) ∧
  ∀ (s : State) (k : StandId), s.inReset = false → GroupsAgree s → s.formed = [] →
    (s.stand k).state.watched = true →
    let st := s.stand k
    let lineDue := s.line.cap.cond ≠ .live ∧ 63 ≤ st.watch.line
    let spindleDue := (st.arm st.readyArm).spindle.cap.cond ≠ .live ∧ 63 ≤ st.watch.spindle
    let statusDue := st.status.cap.cond ≠ .live ∧ 63 ≤ st.watch.status
    (lineDue ∨ spindleDue ∨ statusDue →
      ∃ t sig, exec (.signalStale k) s = .next t ∧ (t.stand k).state = .fault ∧
        (t.stand k).record = some (st.latched .signalStale s.cycle (some sig)) ∧
        (lineDue → sig = .line) ∧
        (¬ lineDue → spindleDue → sig = (if st.readyArm = .a then .spindleA else .spindleB)) ∧
        (¬ lineDue → ¬ spindleDue → sig = .status) ∧
        (t.stand k).braking = true ∧ t.log = s.log) ∧
    (¬ (lineDue ∨ spindleDue ∨ statusDue) → exec (.signalStale k) s = .next s)

/-- R29: how each received sample field is bounded; the layouts are those of section 1.11. -/
def Obligations.SampleFieldsAreBounded : Prop :=
  ∀ w : BitVec 32,
    spindleAngle w = w.extractLsb' 0 12 ∧ linePosition w = w.extractLsb' 0 24 ∧
    (∀ o, spindleMark w = some o →
      o ≤ 249 ∧ ((w.extractLsb' 16 8).toNat ≤ 249 → o = (w.extractLsb' 16 8).toNat) ∧
      (250 ≤ (w.extractLsb' 16 8).toNat → o = 249)) ∧
    (spindleMark w = none ↔ w.getLsbD 12 = false) ∧
    (∀ o, statusConfirm w = some o →
      o ≤ 249 ∧ ((w.extractLsb' 8 8).toNat ≤ 249 → o = (w.extractLsb' 8 8).toNat) ∧
      (250 ≤ (w.extractLsb' 8 8).toNat → o = 249)) ∧
    (statusConfirm w = none ↔ w.getLsbD 0 = false) ∧
    (∀ d, gaugeDiameter w = some d →
      1 ≤ d ∧ d ≤ 16000 ∧ ((w.extractLsb' 0 14).toNat ≤ 16000 → d = (w.extractLsb' 0 14).toNat) ∧
      (16001 ≤ (w.extractLsb' 0 14).toNat → d = 16000)) ∧
    (gaugeDiameter w = none ↔ w.extractLsb' 0 14 = 0#14)

/-! ### Measurement -/

/-- R40, R41, R42, sections 3.2 and 3.3: the line speed and a spindle rate are the differences of the held
values 16 cycles apart, formed from a complete history of 17 entries only, and held otherwise; the line
increment is the difference of the held positions of two steps; a backward line reads as 0. -/
def Obligations.SpeedsSpanSixteenCycles : Prop :=
  (∀ (s : State) (e : RetEntry) (samples : Option (Vector Slot 96)) (passedOver : Bool),
    s.lineMap = some e →
    let t := (s.lineStep samples passedOver).1
    (t.line.hist.length ≠ 17 → t.lineSpeed = s.lineSpeed) ∧
    (∀ p q, t.line.hist.length = 17 → t.line.hist[0]? = some p → t.line.hist[16]? = some q →
      t.lineSpeed = if (q - p).toNat < 2 ^ 23 then (q - p).toNat else 0) ∧
    (∀ p q, s.line.pos = some p → t.line.pos = some q →
      t.lineInc = if (q - p).toNat < 2 ^ 23 then (q - p).toNat else 0) ∧
    (s.line.pos = none ∨ t.line.pos = none → t.lineInc = 0) ∧
    t = { s with line := t.line, lineSpeed := t.lineSpeed, lineInc := t.lineInc }) ∧
  ∀ (st : Stand) (x : Arm),
    let v := st.arm x
    ((st.measureRates.arm x).rate = v.rate ∨ v.spindle.hist.length = 17) ∧
    (∀ p q, v.spindle.hist.length = 17 → v.spindle.hist[0]? = some p → v.spindle.hist[16]? = some q →
      (st.measureRates.arm x).rate = (q - p).toNat) ∧
    (st.measureRates.arm x).spindle = v.spindle

/-- R39, R43, R44, R46, R47, R50, section 3.4: the parts of a measurement step and their order, in which the
travel of an anchor grows before the window's measurement is taken (the model's reading, log 11). In it a
closed window opens with the present angle of the running arm where LINE and its SPINDLE signal are LIVE,
but not in a passed-over cycle; an open one then adds the line increment and the change of that angle, and
while one of the signals is not LIVE it stands still. The travel that completes a window, 4096 SC or more,
forms D_meas and restarts the window; with acceptance-open set any D_meas is accepted and the flag clears,
with it clear one of at most D_run plus the rise tolerance is accepted, and any other leaves the stand as it
was. The row RUNNING_DIAMETER_WINDOW_COMPLETE is taken alone, as that part of its step, in which the travel
of an anchor grows first (the model's reading, log 2, log 11 and log 28). -/
def Obligations.WindowCompletionMeetsAcceptance : Prop :=
  (∀ (st : Stand) (h : StandHand) (lineLive p : Bool) (inc speed : Nat) (grades : Vector Grade 16),
    let st1 := (st.measureRates.advanceAnchor inc).windowStep lineLive p inc grades
    let q := (st1.measureLength speed).gaugeStep h
    st.measureStep h lineLive p inc speed grades = (q.1.measureReady, q.2)) ∧
  (∀ (st : Stand) (lineLive p : Bool) (inc : Nat) (grades : Vector Grade 16),
    let g := (st.arm st.runningArm).spindle
    let t := st.windowStep lineLive p inc grades
    (lineLive = false ∨ g.cap.cond ≠ .live → t = st) ∧
    ∀ x, lineLive = true → g.cap.cond = .live → g.angle = some x →
      (st.window = none → t = if p = true then st else { st with window := some ⟨0, 0, x⟩ }) ∧
      ∀ w, st.window = some w →
        let line := min (2 ^ 32 - 1) (w.line + inc)
        let travel := w.travel + (x - w.angle).toNat
        (travel < 4096 → t = { st with window := some ⟨line, travel, x⟩ }) ∧
        (4096 ≤ travel → ∃ d, IsRounded (line * 4096000) (travel * 31416) d ∧
          t = { st with window := some ⟨0, 0, x⟩ }.acceptTest (min 16000 d) grades)) ∧
  (∀ (st : Stand) (d : Nat) (grades : Vector Grade 16) (r : RunningContext), st.running = some r →
    st.acceptTest d grades =
      if st.acceptOpen = true ∨ d ≤ r.dRun + st.params.riseTol then
        { st with acceptOpen := false, running := some (r.accept d grades) }
      else st) ∧
  ∀ (s : State) (k : StandId) (inc : BitVec 23) (travel : BitVec 12) (w : DiameterWindow)
    (r : RunningContext),
    s.inReset = false → s.formed = [] → s.windowLive k = true → (s.stand k).window = some w →
    (s.stand k).running = some r → 4096 ≤ w.travel + travel.toNat →
    ∃ t d r', exec (.runningDiameterWindowComplete k inc travel) s = .next t ∧
      IsRounded (min (2 ^ 32 - 1) (w.line + inc.toNat) * 4096000)
        ((w.travel + travel.toNat) * 31416) d ∧
      (t.stand k).window = some ⟨0, 0, w.angle + travel⟩ ∧
      (t.stand k).running = some r' ∧ r'.roll = r.roll ∧ r'.grade = r.grade ∧ r'.core = r.core ∧
      r'.width = r.width ∧ r'.override = r.override ∧
      (let r1 : RunningContext := { r with
        anchor := r.anchor.map fun a => ⟨a.diameter, min (2 ^ 48 - 1) (a.travel + inc.toNat)⟩ }
      if (s.stand k).acceptOpen = true ∨ min 16000 d ≤ r.dRun + (s.stand k).params.riseTol then
        r' = r1.accept (min 16000 d) s.grades ∧ r'.dRun = min 16000 d ∧ r'.valid = true ∧
          r'.anchor.isSome = true ∧ (t.stand k).acceptOpen = false
      else r' = r1 ∧ (t.stand k).acceptOpen = (s.stand k).acceptOpen) ∧
      (t.stand k).queue = (s.stand k).queue ∧ (t.stand k).ready = (s.stand k).ready ∧
      (∀ j, (t.stand j).params = (s.stand j).params) ∧ t.log = s.log

/-- R49, R50, R51, section 3.5: in each measurement step, whatever the state of LINE and in a passed-over
cycle too, the travel T_a of a present anchor grows by the line increment, to 2^48 - 1 at most; nothing else
changes. That it grows before the window's measurement is taken, so that the learning check counts the
increment of its own step, is the model's reading of R50 and R51, which state no order (log 11). An accepted
measurement without an anchor sets the anchor; one at least 200 DU below the anchor forms t_learn, adopts it
when it lies within the band of the grade table, and re-sets the anchor; any other accepted measurement
leaves caliper and anchor as they are. -/
def Obligations.CaliperIsLearnedWithinBand : Prop :=
  (∀ (st : Stand) (inc : Nat),
    (st.running = none → st.advanceAnchor inc = st) ∧
    ∀ r, st.running = some r →
      (r.anchor = none → st.advanceAnchor inc = st) ∧
      ∀ a, r.anchor = some a → st.advanceAnchor inc = { st with
        running := some { r with anchor := some ⟨a.diameter, min (2 ^ 48 - 1) (a.travel + inc)⟩ } }) ∧
  (∀ (st : Stand) (h : StandHand) (lineLive p : Bool) (inc speed : Nat) (grades : Vector Grade 16),
    (st.measureStep h lineLive p inc speed grades).1.running =
      ((st.measureRates.advanceAnchor inc).windowStep lineLive p inc grades).running) ∧
  ∀ (r : RunningContext) (d : Nat) (grades : Vector Grade 16),
    let r' := r.accept d grades
    r'.dRun = d ∧ r'.valid = true ∧ r'.grade = r.grade ∧
    (r.anchor = none → r'.anchor = some ⟨d, 0⟩ ∧ r'.caliper = r.caliper) ∧
    (∀ a, r.anchor = some a → a.diameter < d + 200 → r'.anchor = some a ∧ r'.caliper = r.caliper) ∧
    (∀ a, r.anchor = some a → d + 200 ≤ a.diameter →
      r'.anchor = some ⟨d, 0⟩ ∧
      (a.travel = 0 → r'.caliper = r.caliper) ∧
      ∀ t : Nat, 0 < a.travel → IsRounded ((a.diameter ^ 2 - d ^ 2) * 7854) (10 * a.travel) t →
        r'.caliper =
          if (t - grades[r.grade].caliper + (grades[r.grade].caliper - t)) * 1000
              ≤ grades[r.grade].band * grades[r.grade].caliper
          then t else r.caliper)

/-- R53, R54: the remaining length and the time to splice of a measurement step, from D_run, D_s, the
caliper in use and S. Nothing else changes but the urgency kept for the image. -/
def Obligations.LengthAndTimeToSplice : Prop :=
  ∀ (st : Stand) (speed : Nat),
    let t := st.measureLength speed
    (∀ r, st.running = some r → r.valid = true → 0 < r.caliper →
      ∃ len, t.lRem = some len ∧
        (r.dRun ≤ st.spliceDiameter → len = 0) ∧
        (st.spliceDiameter < r.dRun →
          ∀ q : Nat, IsRounded ((r.dRun ^ 2 - st.spliceDiameter ^ 2) * 7854) (10 * r.caliper) q →
            len = min (2 ^ 32 - 1) q) ∧
        ∃ time, t.tTs = some time ∧ (len = 0 → time = 0) ∧
          (0 < len → speed = 0 → time = 2 ^ 32 - 1) ∧
          (0 < len → 0 < speed →
            ∀ q : Nat, IsRounded (len * 4) speed q → time = min (2 ^ 32 - 1) q)) ∧
    (st.diameterValid = false → t.lRem = none ∧ t.tTs = none) ∧
    t = { st with lRem := t.lRem, tTs := t.tTs, stepUrgent := t.stepUrgent }

/-- R55, R56, R57, R86, R67, R72, R104, sections 3.7 and 5.3: the 64th reading closes the window and forms
D_g. A stand in CHECKING enters READY with D_new = D_g when D_g lies within the mismatch tolerance of the
mount diameter; otherwise it takes a REEL-MISMATCH fault and its record goes back to the head. A measurement
step counts the reading of the window's arm, if there is one: it adds it to the sum and 1 to the count. A
window that still waits for the step of the cycle whose request opened it counts nothing in that step (the
model's reading of R55, log 16). In its controller step a stand in CHECKING to which the measurement step
hands over no D_g stays as it is; with one it makes the same transition as the row, and S_new becomes
present, formed in that step (R59; the model's reading, log 30). The row is taken alone, as that part of its
step (log 2). -/
def Obligations.GaugeWindowDecidesReel : Prop :=
  (∀ (s : State) (k : StandId) (reading : BitVec 14) (w : GaugeWindow) (r : ReadyContext),
    s.inReset = false → GroupsAgree s → s.formed = [] → (s.stand k).state = .checking →
    (s.stand k).gaugeWindow = some w → w.count = 63 → (s.stand k).ready = some r →
    r.spent = false → reading ≠ 0 → w.waits = false →
    ∃ t dg, exec (.gaugeWindowComplete k reading) s = .next t ∧
      IsRounded (w.sum + min reading.toNat 16000) 64 dg ∧
      (t.stand k).gaugeWindow = none ∧ (t.stand k).lastDg = some dg ∧
      (if dg ≤ r.record.mount + (s.stand k).params.mismatchTol ∧
          r.record.mount ≤ dg + (s.stand k).params.mismatchTol then
        (t.stand k).state = .ready ∧ (t.stand k).ready = some { r with dNew := some dg } ∧
          (t.stand k).sNew.isSome = true ∧ (t.stand k).queue = (s.stand k).queue ∧
          (t.stand k).record = (s.stand k).record
      else
        (t.stand k).state = .fault ∧ (t.stand k).ready = none ∧
          (t.stand k).queue = r.record :: (s.stand k).queue ∧
          (t.stand k).record = some ((s.stand k).latched .reelMismatch s.cycle none)) ∧
      (t.stand k).running = (s.stand k).running ∧ t.log = s.log) ∧
  (∀ (s : State) (k : StandId) (reading : BitVec 14) (w : GaugeWindow),
    (s.stand k).gaugeWindow = some w → w.waits = true ∨ w.count < 63 →
    exec (.gaugeWindowComplete k reading) s = .next s) ∧
  (∀ (s : State) (k : StandId) (h : StandHand) (stale : Bool) (dg : Option Nat) (b : Bool),
    (s.stand k).state = .checking →
    let st := s.stand k
    let t := s.transitions k h stale dg b
    (dg = none → t = s) ∧
    ∀ d r, dg = some d → st.ready = some r → r.spent = false →
      let fits := d ≤ r.record.mount + st.params.mismatchTol ∧ r.record.mount ≤ d + st.params.mismatchTol
      t = s.setStand k (t.stand k) ∧
      (fits → ∃ v, IsRounded ((st.arm st.readyArm).rate * d * 31416) 4096000 v ∧
        t.stand k = { st with state := .ready, ready := some { r with dNew := some d }, sNew := some v }) ∧
      (¬ fits → (t.stand k).state = .fault ∧ (t.stand k).ready = none ∧ (t.stand k).sNew = none ∧
        (t.stand k).gaugeWindow = none ∧ (t.stand k).queue = r.record :: st.queue ∧
        (t.stand k).record = some (st.latched .reelMismatch s.cycle none) ∧
        (t.stand k).forced = false ∧ (t.stand k).braking = st.braking ∧
        (t.stand k).running = st.running)) ∧
  ∀ (st : Stand) (h : StandHand),
    (st.gaugeWindow = none → st.gaugeStep h = (st, none)) ∧
    ∀ w, st.gaugeWindow = some w →
      (w.waits = true →
        st.gaugeStep h = ({ st with gaugeWindow := some { w with waits := false } }, none)) ∧
      (w.waits = false → (h.arm w.arm).reading = none → st.gaugeStep h = (st, none)) ∧
      ∀ d, w.waits = false → (h.arm w.arm).reading = some d →
        (w.count < 63 → st.gaugeStep h =
          ({ st with gaugeWindow := some ⟨w.arm, w.sum + d, w.count + 1, false⟩ }, none)) ∧
        (w.count = 63 → ∃ dg, IsRounded (w.sum + d) 64 dg ∧
          st.gaugeStep h = ({ st with gaugeWindow := none, lastDg := some dg }, some dg))

/-! ### Reel queues and contexts -/

/-- R62, R64, R71, section 4.2: an accepted record joins the tail of the queue, in every state of the
stand, and is bound in the same request when the binding conditions hold; the checks are made in the order
BAD-VALUE, DUPLICATE, FULL, and a refusal changes nothing. The gauge window of a binding opens with the
mark that the step of the cycle is still to come, which it does not count (R55; the model's reading, log
16). -/
def Obligations.QueueReelAppendsOrRefuses : Prop :=
  ∀ (s : State) (r : Request) (k : StandId) (p : Payload), s.takesAt r k →
    (recordOf p = none → exec (.queueReel r p) s = .next (s.replied r 3 .badValue 0)) ∧
    ∀ rec, recordOf p = some rec →
      ((∃ j, rec.roll ∈ (s.stand j).rolls) →
        exec (.queueReel r p) s = .next (s.replied r 3 .duplicate 0)) ∧
      ((∀ j, rec.roll ∉ (s.stand j).rolls) → (s.stand k).occupancy = 6 →
        exec (.queueReel r p) s = .next (s.replied r 3 .full 0)) ∧
      ((∀ j, rec.roll ∉ (s.stand j).rolls) → (s.stand k).occupancy < 6 →
        (s.stand k).state ≠ .running ∨ (s.stand k).braking = true ∨ (s.stand k).mountPending = false →
        exec (.queueReel r p) s = .next ((s.setStand k
          { s.stand k with queue := (s.stand k).queue ++ [rec] }).replied r 3 .done
            (pack [(1, (s.stand k).queue.length + 1), (1, (s.stand k).occupancy + 1), (1, 0)]))) ∧
      (∀ q rest, (∀ j, rec.roll ∉ (s.stand j).rolls) → (s.stand k).occupancy < 6 →
        (s.stand k).state = .running → (s.stand k).braking = false → (s.stand k).mountPending = true →
        (s.stand k).queue ++ [rec] = q :: rest →
        exec (.queueReel r p) s = .next ((s.setStand k
          { s.stand k with
            queue := rest
            ready := some ⟨q, (s.stand k).readyArm, none, none, false⟩
            sNew := none
            mountPending := false
            state := .checking
            gaugeWindow := some ⟨(s.stand k).readyArm, 0, 0, s.stepPending⟩ }).replied r 3 .done
            (pack [(1, rest.length), (1, rest.length + 1), (1, 1)])))

/-- R61, section 4.1: which payloads are reel records, and that an accepted record keeps its fields as
received, with the absent ones absent. -/
def Obligations.RecordIsAcceptedInRange : Prop :=
  ∀ p : Payload,
    ((recordOf p).isSome = true ↔
      1 ≤ Payload.bytes p 0 4 ∧ Payload.bytes p 4 1 ≤ 15 ∧
      3000 ≤ Payload.bytes p 5 2 ∧ Payload.bytes p 5 2 ≤ 16000 ∧
      700 ≤ Payload.bytes p 7 2 ∧ Payload.bytes p 7 2 ≤ 2500 ∧
      Payload.bytes p 7 2 + 501 ≤ Payload.bytes p 5 2 ∧
      200 ≤ Payload.bytes p 9 2 ∧ Payload.bytes p 9 2 ≤ 2200 ∧
      (Payload.bytes p 11 2 = 0 ∨ 1000 ≤ Payload.bytes p 11 2 ∧ Payload.bytes p 11 2 ≤ 4000 ∧
        Payload.bytes p 7 2 < Payload.bytes p 11 2) ∧
      (Payload.bytes p 13 1 = 0 ∨ 40 ≤ Payload.bytes p 13 1 ∧ Payload.bytes p 13 1 ≤ 150)) ∧
    ∀ rec, recordOf p = some rec →
      rec.roll.toNat = Payload.bytes p 0 4 ∧ rec.grade.val = Payload.bytes p 4 1 ∧
      rec.mount = Payload.bytes p 5 2 ∧ rec.core = Payload.bytes p 7 2 ∧
      rec.width = Payload.bytes p 9 2 ∧
      (∀ d, rec.override = some d ↔ d = Payload.bytes p 11 2 ∧ d ≠ 0) ∧
      (∀ d, rec.caliper = some d ↔ d = Payload.bytes p 13 1 ∧ d ≠ 0)

/-- R74, R65, R176, section 4.5: where the roll ID is found gives the outcome of a withdrawal. The gauge
window of a binding opens as at QUEUE-REEL (log 16). -/
def Obligations.WithdrawReelRemovesRecord : Prop :=
  ∀ (s : State) (r : Request) (k : StandId) (p : Payload), s.takesAt r k →
    let st := s.stand k
    let roll : Word := p.extractLsb' 0 32
    (roll = 0 → exec (.withdrawReel r p) s = .next (s.replied r 4 .noSuch 0)) ∧
    (roll ≠ 0 → (∃ q ∈ st.queue, q.roll = roll) →
      ∃ before q after, st.queue = before ++ q :: after ∧ q.roll = roll ∧
        (∀ q' ∈ before, q'.roll ≠ roll) ∧
        exec (.withdrawReel r p) s = .next ((s.setStand k { st with queue := before ++ after }).replied
          r 4 .done 0)) ∧
    (roll ≠ 0 → (∀ q ∈ st.queue, q.roll ≠ roll) →
      (∀ c, st.ready = some c → c.record.roll = roll →
        (st.state = .checking ∨ st.state = .ready →
          (st.queue = [] ∨ st.braking = true ∨ st.mountPending = false ∧ st.level st.readyArm = false →
            exec (.withdrawReel r p) s = .next ((s.setStand k
              { st with
                ready := none
                sNew := none
                gaugeWindow := none
                state := .running
                mountPending := st.mountPending || st.level st.readyArm }).replied r 4 .done 0)) ∧
          (∀ q rest, st.queue = q :: rest → st.braking = false →
            st.mountPending = true ∨ st.level st.readyArm = true →
            exec (.withdrawReel r p) s = .next ((s.setStand k
              { st with
                queue := rest
                ready := some ⟨q, st.readyArm, none, none, false⟩
                sNew := none
                mountPending := false
                state := .checking
                gaugeWindow := some ⟨st.readyArm, 0, 0, s.stepPending⟩ }).replied r 4 .done 0))) ∧
        (st.state ≠ .checking → st.state ≠ .ready →
          exec (.withdrawReel r p) s = .next (s.replied r 4 .busy 0))) ∧
      ((∀ c, st.ready = some c → c.record.roll ≠ roll) →
        (∀ c, st.running = some c → c.roll = roll →
          exec (.withdrawReel r p) s = .next (s.replied r 4 .busy 0)) ∧
        ((∀ c, st.running = some c → c.roll ≠ roll) →
          exec (.withdrawReel r p) s = .next (s.replied r 4 .noSuch 0))))

/-! ### The splice sequence -/

/-- R83, R24, R177, R84, R25, R47, R48, R60, R66, R68, R69, R106, R189, section 5.2: the checks of a
STAND-ONLINE in their order, a refusal changing nothing. The map check holds when all nine entries of the
stand's map and the LINE map are set, and no return slot is named twice among LINE, IMAGE and the stands
online with the stand, no outbound slot among these stands. An accepted request puts the stand into RUNNING
with the arm named, a running context of its record or anonymous, and fresh signals, measurement, scheduler
and flags; parameters, map, queue and inhibit pin stay. Put online with its pin asserted, it waits for a
release edge before it arms (log 13). The ready arm is declared EMPTY by the condition 0, no other arm is;
that this is kept as a bit of the arm is the model's own (log 10), and so is the field stepUrgent, false as
well (log 29). -/
def Obligations.StandOnlineChecksInOrder : Prop :=
  ∀ (s : State) (r : Request) (k : StandId) (sel : BitVec 16) (p : Payload), s.takesAt r k →
    let maps := ([0, 1, 2, 3, 4, 5, 6, 7] : List StandId).filterMap fun j =>
      if j = k ∨ (s.stand j).state ≠ .offline then some (s.stand j).map else none
    let returnSlots : List (Fin 96) :=
      s.lineMap.toList.map (·.slot) ++ s.imageMap.toList.flatMap (fun e => [e.1, e.2]) ++
        maps.flatMap fun m =>
          [m.spindleA, m.spindleB, m.gaugeA, m.gaugeB, m.status].flatMap fun e => e.toList.map (·.slot)
    let outboundSlots : List (Fin 48) :=
      maps.flatMap fun m => [m.driveA, m.driveB, m.paste, m.knife].flatMap Option.toList
    let own := (s.stand k).map
    let valid := (∀ e ∈ [own.spindleA, own.spindleB, own.gaugeA, own.gaugeB, own.status], e ≠ none) ∧
      (∀ e ∈ [own.driveA, own.driveB, own.paste, own.knife], e ≠ none) ∧ s.lineMap ≠ none ∧
      returnSlots.Nodup ∧ outboundSlots.Nodup
    ((s.stand k).state ≠ .offline →
      exec (.standOnline r sel p) s = .next (s.replied r 5 .busy 0)) ∧
    ((s.stand k).state = .offline → ¬ valid →
      exec (.standOnline r sel p) s = .next (s.replied r 5 .mapInvalid 0)) ∧
    ((s.stand k).state = .offline → valid →
      2 ≤ (sel.extractLsb' 0 2).toNat ∨ 2 ≤ (sel.extractLsb' 2 2).toNat ∨
        (sel.getLsbD 4 = true ∧ recordOf p = none) →
      exec (.standOnline r sel p) s = .next (s.replied r 5 .badValue 0)) ∧
    ((s.stand k).state = .offline → valid →
      (sel.extractLsb' 0 2).toNat ≤ 1 → (sel.extractLsb' 2 2).toNat ≤ 1 →
      (∀ rec j, sel.getLsbD 4 = true → recordOf p = some rec → rec.roll ∈ (s.stand j).rolls →
        exec (.standOnline r sel p) s = .next (s.replied r 5 .duplicate 0)) ∧
      ((sel.getLsbD 4 = true → ∃ rec, recordOf p = some rec ∧ ∀ j, rec.roll ∉ (s.stand j).rolls) →
        ∃ st', exec (.standOnline r sel p) s = .next ((s.setStand k st').replied r 5 .done 0) ∧
          st'.state = .running ∧
          st'.runningArm = (if (sel.extractLsb' 0 2).toNat = 0 then .a else .b) ∧
          (st'.arm st'.readyArm).unload = decide ((sel.extractLsb' 2 2).toNat = 1) ∧
          (st'.arm st'.runningArm).unload = false ∧
          (st'.arm st'.readyArm).declaredEmpty = decide ((sel.extractLsb' 2 2).toNat = 0) ∧
          (st'.arm st'.runningArm).declaredEmpty = false ∧
          (∀ x, (st'.arm x).spindle = ⟨⟨.waiting, 0, none⟩, none, []⟩ ∧
            (st'.arm x).gauge = ⟨⟨.waiting, 0, none⟩, none, none⟩ ∧ (st'.arm x).rate = 0) ∧
          st'.status = ⟨⟨.waiting, 0, none⟩, none⟩ ∧ st'.watch = ⟨0, 0, 0⟩ ∧
          st'.mountPending = false ∧ st'.forced = false ∧ st'.braking = false ∧
          st'.requestInhibit = false ∧ st'.awaitsRelease = (s.stand k).pinAsserted ∧
          st'.accelTimer = none ∧ st'.record = none ∧
          st'.claimLost = false ∧ st'.linkLoss = false ∧ st'.counts = ⟨0, 0, 0, 0⟩ ∧
          st'.window = none ∧ st'.acceptOpen = true ∧ st'.lRem = none ∧ st'.tTs = none ∧
          st'.stepUrgent = false ∧
          st'.gaugeWindow = none ∧ st'.lastDg = none ∧ st'.sNew = none ∧ st'.ready = none ∧
          st'.sched = ⟨none, none, 0, none, none⟩ ∧ st'.requestStart = none ∧ st'.grant = none ∧
          (sel.getLsbD 4 = true → ∀ rec, recordOf p = some rec →
            st'.running = some ⟨rec.roll, rec.grade, some rec.core, some rec.width, rec.override,
              rec.caliper.getD s.grades[rec.grade].caliper, 0, false, none⟩) ∧
          (sel.getLsbD 4 = false →
            st'.running = some ⟨0, (s.stand k).params.defaultGrade, none, none, none,
              s.grades[(s.stand k).params.defaultGrade].caliper, 0, false, none⟩) ∧
          st'.params = (s.stand k).params ∧ st'.map = (s.stand k).map ∧
          st'.queue = (s.stand k).queue ∧ st'.pinAsserted = (s.stand k).pinAsserted ∧
          st'.pinSettled = (s.stand k).pinSettled))

/-- R103, R76, R25, R35, R60, R139, section 5.7: STAND-OFFLINE is accepted in RUNNING, CHECKING, READY and
FAULT; a returnable ready context goes back to the head of the queue, the contexts and flags of the stand
end, its wait for a release edge with them (log 13), its five signals leave service, with their held values,
counts, histories and stale-watch counts, its measurement state is discarded, and its parameters, map and
pin stay. The bit of an arm declared EMPTY (log 10) and the urgency kept for the image (log 29) are the
model's own; they end as well, and a field that held discarded state holds its value after reset (the
model's form of R60's "discarded"). -/
def Obligations.StandOfflineEndsService : Prop :=
  ∀ (s : State) (r : Request) (k : StandId), s.takesAt r k →
    let st := s.stand k
    (st.state = .offline → exec (.standOffline r) s = .next (s.replied r 6 .notOnline 0)) ∧
    (st.state ∈ [.accel, .matched, .firingPending, .firingIssued, .confirm, .settle] →
      exec (.standOffline r) s = .next (s.replied r 6 .busy 0)) ∧
    (st.state ∈ [.running, .checking, .ready, .fault] →
      ∃ st', exec (.standOffline r) s = .next ((s.setStand k st').replied r 6 .done 0) ∧
        st'.state = .offline ∧ st'.running = none ∧ st'.ready = none ∧ st'.record = none ∧
        st'.queue =
          (match st.ready with
           | some c => if c.spent then st.queue else c.record :: st.queue
           | none => st.queue) ∧
        st'.forced = false ∧ st'.mountPending = false ∧ st'.requestInhibit = false ∧
        st'.awaitsRelease = false ∧
        st'.braking = false ∧ st'.accelTimer = none ∧ st'.claimLost = false ∧
        st'.linkLoss = false ∧
        (∀ x, st'.arm x =
          ⟨⟨⟨.waiting, 0, none⟩, none, []⟩, ⟨⟨.waiting, 0, none⟩, none, none⟩, 0, false, false⟩) ∧
        st'.status = ⟨⟨.waiting, 0, none⟩, none⟩ ∧ st'.watch = ⟨0, 0, 0⟩ ∧
        st'.window = none ∧ st'.acceptOpen = false ∧ st'.lRem = none ∧ st'.tTs = none ∧
        st'.stepUrgent = false ∧ st'.gaugeWindow = none ∧ st'.lastDg = none ∧ st'.sNew = none ∧
        st'.kept = none ∧
        st'.sched = ⟨none, none, 0, none, none⟩ ∧ st'.requestStart = none ∧ st'.grant = none ∧
        st'.params = st.params ∧ st'.map = st.map ∧ st'.pinAsserted = st.pinAsserted ∧
        st'.pinSettled = st.pinSettled)

/-- R97, R98, R100, R92: INHIBIT sets the request-inhibit flag and RELEASE clears it, answered DONE in
every state of a stand in service and NOT-ONLINE in OFFLINE; where the stand does not leave ACCEL, MATCHED
or FIRING-pending, and outside MATCHED for a RELEASE, nothing else changes. After a RELEASE in MATCHED the
stand requests its group exactly when it is due. -/
def Obligations.InhibitAndReleaseSetTheFlag : Prop :=
  ∀ (s : State) (r : Request) (k : StandId), s.takesAt r k →
    ((s.stand k).state = .offline →
      exec (.inhibit r) s = .next (s.replied r 7 .notOnline 0) ∧
      exec (.release r) s = .next (s.replied r 8 .notOnline 0)) ∧
    ((s.stand k).state ≠ .offline →
      (s.stand k).state ∉ [.accel, .matched, .firingPending] ∨ (s.stand k).inhibited = true →
      exec (.inhibit r) s = .next
        ((s.setStand k { s.stand k with requestInhibit := true }).replied r 7 .done 0)) ∧
    ((s.stand k).state ∈ [.accel, .matched, .firingPending] → (s.stand k).inhibited = false →
      ∃ t, exec (.inhibit r) s = .next t ∧ (t.stand k).requestInhibit = true ∧
        t.heldReply = some ⟨s.nodeAddr, 7, r.stand, .done, 0⟩) ∧
    ((s.stand k).state ≠ .offline → (s.stand k).state ≠ .matched →
      exec (.release r) s = .next
        ((s.setStand k { s.stand k with requestInhibit := false }).replied r 8 .done 0)) ∧
    ((s.stand k).state = .matched →
      ∃ t, exec (.release r) s = .next t ∧ (t.stand k).requestInhibit = false ∧
        t.heldReply = some ⟨s.nodeAddr, 8, r.stand, .done, 0⟩ ∧
        (GroupsAgree s → (t.stand k).state = .matched ∧
          ((t.group (s.groupOf k)).has k = true ↔ (s.stand k).due = true)))

/-- R98, R99, R129, R135, section 5.6: the INHIBIT, or the assertion of a settled pin, that makes a stand
in ACCEL, MATCHED or FIRING-pending inhibited takes it to READY, or to RUNNING with its record at the head
when the reel is gone, with the ready arm braking, the timer stopped and no fire prepared; its request or
grant ends. -/
def Obligations.InhibitUnwindsToReady : Prop :=
  ∀ (s t : State) (k : StandId) (c : ReadyContext), GroupsAgree s →
    (s.stand k).state ∈ [.accel, .matched, .firingPending] →
    (s.stand k).ready = some c → c.spent = false →
    (∃ r, s.takesAt r k ∧ exec (.inhibit r) s = .next t) ∨
      (s.inReset = false ∧ (s.stand k).pinSettled = true ∧
        exec (.inhibitPinAssertion k) s = .next t) →
    let st := s.stand k
    let st' := t.stand k
    st'.inhibited = true ∧ st'.braking = true ∧ st'.accelTimer = none ∧
      st'.sched = { st.sched with target := none, nRef := none, prepared := none } ∧
      st'.forced = st.forced ∧ st'.runningArm = st.runningArm ∧ st'.running = st.running ∧
      (if st.level st.readyArm = true then
        st'.state = .ready ∧ st'.ready = some c ∧ st'.queue = st.queue
      else st'.state = .running ∧ st'.ready = none ∧ st'.queue = c.record :: st.queue) ∧
      (∀ g, (t.group g).grant ≠ .held k ∧ (t.group g).has k = false)

/-- R97, R98, R189, sections 5.6 and 11.6: the assertion of a settled, released pin sets the level of
every stand, and outside ACCEL, MATCHED and FIRING-pending, or on a stand inhibited already, does nothing
else; an assertion of an unsettled or asserted pin is no edge. A filter that settles takes its steady raw
level without an edge, and a settled one is not changed. That an unsettled pin forms no edge is the
model's reading (log 21). -/
def Obligations.PinAssertionSetsLevel : Prop :=
  ∀ s : State, s.inReset = false →
    (∀ k : StandId,
      ((s.stand k).pinSettled = true → (s.stand k).pinAsserted = false →
        (s.stand k).state ∉ [.accel, .matched, .firingPending] ∨ (s.stand k).requestInhibit = true →
        exec (.inhibitPinAssertion k) s = .next
          (s.setStand k { s.stand k with pinAsserted := true })) ∧
      ((s.stand k).pinSettled = false ∨ (s.stand k).pinAsserted = true →
        exec (.inhibitPinAssertion k) s = .next s)) ∧
    ∀ steady high : BitVec 8,
      ∃ t, exec (.inhibitFilterSettle steady high) s = .next t ∧
        (∀ k : StandId, t.stand k =
          if steady.getLsbD k.val = true ∧ (s.stand k).pinSettled = false then
            { s.stand k with pinAsserted := !high.getLsbD k.val, pinSettled := true }
          else s.stand k) ∧
        t = { s with stands := t.stands }

/-- R147, R151, R152, R153, R154, R189, section 8.3: the release edge ends the pin's inhibit, and the wait
of a stand put online with its pin asserted (log 13); in FAULT it clears a fault whose state at fault is
not FIRING-issued or CONFIRM, and leaves one of these as it was; in the other states but MATCHED it does
nothing else. A stand cleared of a fault that holds the contexts of its state enters READY, CHECKING or
RUNNING as R153 says. A gauge window opened by the pin counts from the next step (the model's reading, log
16). -/
def Obligations.PinReleaseClearsEarlyFault : Prop :=
  ∀ (s : State) (k : StandId), s.inReset = false → (s.stand k).pinSettled = true →
    (s.stand k).pinAsserted = true →
    ((s.stand k).state ≠ .fault → (s.stand k).state ≠ .matched →
      exec (.inhibitPinRelease k) s = .next
        (s.setStand k { s.stand k with pinAsserted := false, awaitsRelease := false })) ∧
    (∀ f, (s.stand k).state = .fault → (s.stand k).record = some f →
      f.stateAt = .firingIssued ∨ f.stateAt = .confirm →
      exec (.inhibitPinRelease k) s = .next
        (s.setStand k { s.stand k with pinAsserted := false, awaitsRelease := false })) ∧
    (∀ f, (s.stand k).state = .fault → (s.stand k).record = some f →
      f.stateAt ≠ .firingIssued → f.stateAt ≠ .confirm →
      ∃ st', exec (.inhibitPinRelease k) s = .next (s.setStand k st') ∧
        st'.state ∈ [.ready, .checking, .running] ∧ st'.record = none ∧ st'.claimLost = false ∧
        st'.linkLoss = false ∧ st'.pinAsserted = false ∧ st'.awaitsRelease = false ∧
        st'.acceptOpen = true ∧ st'.window = none ∧ st'.braking = (s.stand k).braking ∧
        st'.runningArm = (s.stand k).runningArm ∧
        ((s.stand k).contextsAgree = true →
          Stand.Enters { (s.stand k).unfaulted with pinAsserted := false, awaitsRelease := false } false
            st'))

/-- R102, R92: the outcome of SPLICE-NOW in each state; in MATCHED a stand that is not inhibited becomes a
requester at the request. -/
def Obligations.SpliceNowForcesReadyReel : Prop :=
  ∀ (s : State) (r : Request) (k : StandId), s.takesAt r k →
    ((s.stand k).state = .offline → exec (.spliceNow r) s = .next (s.replied r 9 .notOnline 0)) ∧
    ((s.stand k).state ∈ [.running, .checking] →
      exec (.spliceNow r) s = .next (s.replied r 9 .noReady 0)) ∧
    ((s.stand k).state ∈ [.ready, .accel] →
      exec (.spliceNow r) s = .next
        ((s.setStand k { s.stand k with forced := true }).replied r 9 .done 0)) ∧
    ((s.stand k).state = .matched → GroupsAgree s →
      ∃ t, exec (.spliceNow r) s = .next t ∧
        t.heldReply = some ⟨s.nodeAddr, 9, r.stand, .done, 0⟩ ∧ (t.stand k).forced = true ∧
        ((t.group (s.groupOf k)).has k = true ∨ (t.group (s.groupOf k)).grant = .held k)) ∧
    ((s.stand k).state ∈ [.firingPending, .firingIssued, .confirm, .settle, .fault] →
      exec (.spliceNow r) s = .next (s.replied r 9 .busy 0))

/-- R80, R144: no two arms of a stand are in SPEED, and none in FAULT, OFFLINE, RUNNING, CHECKING, READY
or SETTLE; the running arm of a stand in service is in TENSION; an arm in another mode than SPEED has
reference 0 (R5). The ready arm is in SPEED from ACCEL to CONFIRM, in TENSION in FAULT after the fire, and
else in BRAKE while the braking flag is set, in IDLE otherwise. An OFFLINE stand's modes, which the part
does not hold, are IDLE in the model (log 12). -/
def Obligations.AtMostOneArmInSpeed : Prop :=
  ∀ st : Stand,
    ¬ (st.driveMode .a = .speed ∧ st.driveMode .b = .speed) ∧
    (st.state ∈ [.fault, .offline, .running, .checking, .ready, .settle] →
      ∀ x, st.driveMode x ≠ .speed) ∧
    (st.state ≠ .offline → st.driveMode st.runningArm = .tension) ∧
    (∀ x, st.driveMode x ≠ .speed → st.speedRef x = 0) ∧
    (st.state ∈ [.accel, .matched, .firingPending, .firingIssued, .confirm] →
      st.driveMode st.readyArm = .speed ∧ st.speedRef st.readyArm = st.sched.nRef.getD 0) ∧
    (st.state ∈ [.running, .checking, .ready, .settle] →
      st.driveMode st.readyArm = if st.braking = true then .brake else .idle) ∧
    (∀ f, st.state = .fault → st.record = some f →
      st.driveMode st.readyArm =
        if f.stateAt = .firingIssued ∨ f.stateAt = .confirm then .tension
        else if st.braking = true then .brake else .idle) ∧
    (st.state = .offline → ∀ x, st.driveMode x = .idle)

/-- R88, R89, R90, R108, R109, R114, R115, R130, R139, R189, sections 5.4 and 6.2: in its step a READY stand
that is not inhibited, that has seen a release edge if it was put online with its pin asserted (log 13),
whose ready arm does not brake, and whose T_ts is at most T_lead or which is due, enters ACCEL: timer and
tape-watch travel 0, no tape angle, no fire, no plan, no request start, no recorded grant, target speed and
drive reference formed. Any other READY stand is left as it was. -/
def Obligations.ReadyStandArms : Prop :=
  ∀ (s : State) (k : StandId) (h : StandHand) (stale : Bool) (dg : Option Nat) (b : Bool),
    (s.stand k).state = .ready →
    let st := s.stand k
    let t := s.transitions k h stale dg b
    let due := st.forced = true ∨
      ∃ r, st.running = some r ∧ r.valid = true ∧ r.dRun ≤ r.override.getD st.params.dS
    let armed := st.pinAsserted = false ∧ st.requestInhibit = false ∧ st.awaitsRelease = false ∧
      st.braking = false ∧
      ((∃ n, st.tTs = some n ∧ n ≤ st.params.tLead) ∨ due)
    (¬ armed → t = s) ∧
    (armed → (t.stand k).state = .accel ∧ (t.stand k).accelTimer = some 0 ∧
      (t.stand k).ready = st.ready.map (fun c => { c with tape := none }) ∧
      (t.stand k).requestStart = none ∧ (t.stand k).grant = none ∧ (t.stand k).kept = none ∧
      (t.stand k).sched.tapeTravel = 0 ∧
      (t.stand k).sched.prepared = none ∧ (t.stand k).sched.plan = none ∧
      (∃ v, (t.stand k).sched.target = some v ∧
        IsRounded (s.lineSpeed * (1000 + st.params.ovs)) 1000 v ∧
        ∃ n, (t.stand k).sched.nRef = some n ∧
          ∀ c d, st.ready = some c → c.dNew = some d → 1 ≤ d →
            ∀ q : Nat, IsRounded (v * 65536000) (d * 31416) q → n = min 65535 q) ∧
      (t.stand k).running = st.running ∧ (t.stand k).forced = st.forced ∧
      (t.stand k).queue = st.queue ∧ (t.stand k).braking = false ∧ t = s.setStand k (t.stand k))

/-! ### Timing of paste and knife -/

/-- R59, R108, R109, sections 3.8 and 6.2: the target speed, the drive reference of the ready arm, which
never exceeds 65535, and the surface speed of the ready reel, which never exceeds 502,533, each rounded
half up. -/
def Obligations.ReadyReelSpeedsAreRounded : Prop :=
  ∀ (st : Stand) (r : ReadyContext) (d speed : Nat), st.ready = some r → r.dNew = some d → 1 ≤ d →
    (∃ v n, (st.formTarget speed).sched = { st.sched with target := some v, nRef := some n } ∧
      IsRounded (speed * (1000 + st.params.ovs)) 1000 v ∧ n ≤ 65535 ∧
      ∀ q : Nat, IsRounded (v * 65536000) (d * 31416) q → n = min 65535 q) ∧
    (∃ v, st.measureReady.sNew = some v ∧
      IsRounded ((st.arm st.readyArm).rate * d * 31416) 4096000 v ∧
      ((st.arm st.readyArm).rate ≤ 4095 → d ≤ 16000 → v ≤ 502533)) ∧
    st.formTarget speed = { st with sched := (st.formTarget speed).sched } ∧
    st.measureReady = { st with sNew := st.measureReady.sNew }

/-- R113, R115, R107, R143, section 6.4: a tape mark of a signal that was LIVE latches the interpolated
angle into the ready context and sets the tape-watch travel to 0; any other step adds the change of the held
angle, at most to 12,288 SC. Travel that takes the tape watch to 12,288 SC faults a stand in ACCEL, MATCHED
or FIRING-pending with TAPE-LOST; in ACCEL, an acceleration timer that reaches its limit in the same step is
a further fault; short of the limit nothing changes. A controller step whose tape tracking reaches the limit
takes the same fault, in ACCEL after the timer of that step has advanced, and no later item of its work is
made: S_t and N_ref become absent, a request and a grant end. The fault sets the braking flag, which that
step does not clear again, whatever the rate: the model's choice (log 32). The travel of a first refresh
without a held angle before it is a free value (log 8). The row is taken alone, as that part of its step
(the model's reading, log 2). -/
def Obligations.TapeWatchFaultsStand : Prop :=
  (∀ (s : State) (k : StandId) (travel : BitVec 12), s.inReset = false → GroupsAgree s →
    (s.stand k).state ∈ [.accel, .matched, .firingPending] →
    (12288 ≤ (s.stand k).sched.tapeTravel + travel.toNat →
      ∃ t f, exec (.tapeLost k travel) s = .next t ∧ (t.stand k).state = .fault ∧
        (t.stand k).record = some f ∧ f.kind = .tapeLost ∧ f.cycle = s.cycle ∧
        f.stateAt = (s.stand k).state ∧ f.fireIssued = false ∧ f.arm = (s.stand k).runningArm ∧
        f.signal = none ∧
        (f.further = true ↔ (s.stand k).state = .accel ∧
          4 * (s.stand k).params.tMatchMax ≤ (s.stand k).accelTimer.getD 0 + 1) ∧
        (t.stand k).sched.tapeTravel = 12288 ∧ (t.stand k).sched.prepared = none ∧
        (t.stand k).braking = true ∧ (t.stand k).accelTimer = none ∧
        (t.stand k).ready = (s.stand k).ready) ∧
    ((s.stand k).sched.tapeTravel + travel.toNat < 12288 → exec (.tapeLost k travel) s = .next s)) ∧
  (∀ (s : State) (k : StandId) (h : StandHand) (stale : Bool) (dg : Option Nat) (b : Bool),
    (s.stand k).state ∈ [.accel, .matched, .firingPending] →
    let st := (s.stand k).trackTape (h.arm (s.stand k).readyArm) (Config.firstTravel s.freeIndex k)
    let t := s.transitions k h stale dg b
    let g := s.groupOf k
    12288 ≤ st.sched.tapeTravel →
    (∃ f, (t.stand k).record = some f ∧ f.kind = .tapeLost ∧ f.cycle = s.cycle ∧ f.stateAt = st.state ∧
      f.fireIssued = false ∧ f.arm = st.runningArm ∧ f.signal = none ∧
      (f.further = true ↔ st.state = .accel ∧
        4 * st.params.tMatchMax ≤ st.accelTimer.getD 0 + 1)) ∧
    (t.stand k).state = .fault ∧ (t.stand k).braking = true ∧ (t.stand k).accelTimer = none ∧
    (t.stand k).forced = false ∧ (t.stand k).ready = st.ready ∧ (t.stand k).queue = st.queue ∧
    (t.stand k).sched = { st.sched with target := none, nRef := none, prepared := none } ∧
    (t.stand k).sched.tapeTravel = 12288 ∧
    (st.state = .accel → t.group g = s.group g) ∧
    (st.state = .matched → (t.group g).has k = false ∧ (t.group g).grant = (s.group g).grant ∧
      ∀ j, j ≠ k → (t.group g).has j = (s.group g).has j) ∧
    (st.state = .firingPending → t.group g = { s.group g with grant := .free }) ∧
    (∀ g', g' ≠ g → t.group g' = s.group g') ∧ (∀ j, j ≠ k → t.stand j = s.stand j) ∧
    t = { s with groups := t.groups, stands := t.stands }) ∧
  ∀ (st : Stand) (h : ArmHand) (first : Nat),
    let now := (st.arm st.readyArm).spindle.angle
    (∀ o a0 a1, h.mark = some o → h.wasLive = true → h.before = some a0 → now = some a1 →
      ∃ q : Nat, IsRounded ((a1 - a0).toNat * o) 250 q ∧
        st.trackTape h first = { st with
          ready := st.ready.map fun r => { r with tape := some (a0 + BitVec.ofNat 12 q) }
          sched := { st.sched with tapeTravel := 0 } }) ∧
    (h.mark = none ∨ h.wasLive = false ∨ h.before = none ∨ now = none →
      ∃ n : Nat, n < 4096 ∧ (h.refreshed = false → n = 0) ∧
        (∀ a0 a1, h.refreshed = true → h.before = some a0 → now = some a1 → n = (a1 - a0).toNat) ∧
        st.trackTape h first =
          { st with sched := { st.sched with tapeTravel := min 12288 (st.sched.tapeTravel + n) } })

/-- R92, R107, R110, R111, R112, R118, R129, R130, R135, section 6.3: the step that takes the acceleration
timer of a stand in ACCEL to 4 × T_match_max faults it with ACCEL-TIMEOUT, and no step before does; a step
that does not enters MATCHED when S_new lies within the tolerance of an S_t above 0: the timer stops, and a
stand due and not inhibited becomes a requester. A stand in MATCHED or FIRING-pending leaves its band at an
S_t of 0, or when S_new lies beyond tolerance and hysteresis; it is then in ACCEL with its timer at 0, no
requester, its group FREE from FIRING-pending; inside it, a stand in FIRING-pending keeps the fire that the
evaluation of its step prepares, if it prepares one. In its step a stand in these states is tracked, then
its S_t is formed, then these tests are made. That a stand which becomes due in the step in which it leaves
its band is no requester in that step is the model's choice (log 31), and so is that a step that takes a
fault leaves the braking flag set whatever the rate (log 32). The row ACCEL-TIMEOUT is taken alone, as that
part of its step (the model's reading, log 2). -/
def Obligations.AccelerationTimerFaultsStand : Prop :=
  (∀ (s : State) (k : StandId) (n : Nat), s.inReset = false → GroupsAgree s → s.formed = [] →
    (s.stand k).state = .accel → (s.stand k).accelTimer = some n →
    (4 * (s.stand k).params.tMatchMax ≤ n + 1 →
      ∃ t, exec (.accelTimeout k) s = .next t ∧ (t.stand k).state = .fault ∧
        (t.stand k).record = some ((s.stand k).latched .accelTimeout s.cycle none) ∧
        (t.stand k).accelTimer = none ∧ (t.stand k).braking = true ∧
        (t.stand k).ready = (s.stand k).ready ∧ (t.stand k).queue = (s.stand k).queue ∧
        t.log = s.log) ∧
    (n + 1 < 4 * (s.stand k).params.tMatchMax → exec (.accelTimeout k) s = .next s)) ∧
  (∀ (st : Stand) (h : StandHand) (stale : Bool) (c : Word) (n v t : Nat),
    st.sNew = some v → st.sched.target = some t →
    let outside := t = 0 ∨ (st.params.tol + st.params.hyst) * t < (v - t + (t - v)) * 1000
    (st.state = .accel → st.accelTimer = some n →
      st.schedulerRest h stale c =
        ({ st with accelTimer := some (n + 1) },
          if 4 * st.params.tMatchMax ≤ n + 1 then .fault .accelTimeout false
          else if 0 < t ∧ (v - t + (t - v)) * 1000 ≤ st.params.tol * t then .enterMatched
          else .stay)) ∧
    (st.state = .matched →
      (outside → st.schedulerRest h stale c = (st, .leaveBand)) ∧
      (¬ outside → st.schedulerRest h stale c = (st, .stay))) ∧
    (st.state = .firingPending →
      (outside → st.schedulerRest h stale c = (st, .leaveBand)) ∧
      (¬ outside → st.schedulerRest h stale c =
        (match st.evaluatePaste (h.arm st.readyArm) stale c with
          | some p => { st with sched := { st.sched with prepared := some p } }
          | none => st, .stay)))) ∧
  (∀ (s : State) (k : StandId) (h : StandHand) (stale : Bool) (dg : Option Nat) (b : Bool),
    (s.stand k).state ∈ [.accel, .matched, .firingPending] →
    let st := (s.stand k).trackTape (h.arm (s.stand k).readyArm) (Config.firstTravel s.freeIndex k)
    let r := (st.formTarget s.lineSpeed).schedulerRest h stale s.cycle
    st.sched.tapeTravel < 12288 → s.transitions k h stale dg b = (s.setStand k r.1).applyVerdict k r.2) ∧
  ∀ (s : State) (k : StandId),
    ((s.stand k).state = .accel →
      let t := s.applyVerdict k .enterMatched
      let joins := (s.stand k).due = true ∧ (s.stand k).inhibited = false
      (joins → t.stand k = { s.stand k with
        state := .matched, accelTimer := none
        requestStart := some ((s.stand k).requestStart.getD s.cycle) }) ∧
      (¬ joins → t.stand k = { s.stand k with state := .matched, accelTimer := none }) ∧
      ((t.group (s.groupOf k)).has k = true ↔ joins) ∧
      (t.group (s.groupOf k)).grant = (s.group (s.groupOf k)).grant ∧
      (∀ j, j ≠ k → (t.group (s.groupOf k)).has j = (s.group (s.groupOf k)).has j) ∧
      (∀ g, g ≠ s.groupOf k → t.group g = s.group g) ∧ ∀ j, j ≠ k → t.stand j = s.stand j) ∧
    ((s.stand k).state ∈ [.matched, .firingPending] →
      let t := s.applyVerdict k .leaveBand
      t.stand k = { s.stand k with
        state := .accel
        accelTimer := some 0
        sched := { (s.stand k).sched with prepared := none } } ∧
      ((s.stand k).state = .matched → (t.group (s.groupOf k)).has k = false ∧
        (t.group (s.groupOf k)).grant = (s.group (s.groupOf k)).grant) ∧
      ((s.stand k).state = .firingPending → (t.group (s.groupOf k)).grant = .free) ∧
      (∀ g, g ≠ s.groupOf k → t.group g = s.group g) ∧ ∀ j, j ≠ k → t.stand j = s.stand j)

/-- R122, R124, R131, R134, R136, R160, R161, R162, R163, sections 6.7 and 9.3: when the engine cycle has
reached the end of the confirm window, the stand in CONFIRM takes a CONFIRM-TIMEOUT fault, and its group
goes into SPACING, with its requesters kept, or to FREE at a stagger length of 0; the decision that
follows grants a requester of a FREE group, or an urgent one of a group in SPACING, if there is one. Its
sequence joins the log as NO-CONFIRM without a lag, at the tail; a log of 32 loses its oldest entry and
sets its overrun flag. Before the end nothing changes. The row is taken alone, as that part of its step
(log 2), and whether the step of its cycle is still to come stands beside the remaining length (log 20):
the model's readings. -/
def Obligations.ConfirmTimeoutLogsNoConfirm : Prop :=
  ∀ (s : State) (k : StandId) (p : FirePlan) (e : Instant) (old : RunningContext) (new : ReadyContext)
    (q : KeptSequence),
    s.inReset = false → GroupsAgree s → LogBounded s → (s.stand k).state = .confirm →
    (s.stand k).sched.plan = some p → p.windowEnd = some e → (s.stand k).running = some old →
    (s.stand k).ready = some new → (s.stand k).kept = some q →
    (Instant.before ⟨s.cycle, 0⟩ e = true → exec (.confirmTimeout k) s = .next s) ∧
    (Instant.before ⟨s.cycle, 0⟩ e = false →
    ∃ t, exec (.confirmTimeout k) s = .next t ∧ (t.stand k).state = .fault ∧
      (t.stand k).record = some ((s.stand k).latched .confirmTimeout s.cycle none) ∧
      (t.stand k).ready = some new ∧ (t.stand k).sched.plan = some p ∧ (t.stand k).braking = false ∧
      t.log = (if s.log.length < 32 then s.log else s.log.drop 1) ++
        [{ stand := k, outcome := .noConfirm, expiring := old.roll, newRoll := new.record.roll
           width := new.record.width, fire := p.fire, delay := p.delay, clamped := p.clamped
           late := p.late, dRun := p.dRun, lag := none, wait := q.wait, urgent := q.urgent
           forced := q.forced }] ∧
      t.overrun = (s.overrun || decide (s.log.length = 32)) ∧
      let v := s.group (s.groupOf k)
      let v' := t.group (s.groupOf k)
      (v.stagger = 0 →
        ((∀ j, v.has j = false) → v'.grant = .free) ∧
        ∀ j, v.has j = true → ∃ j', v.has j' = true ∧ v'.grant = .held j' ∧ v'.has j' = false ∧
          (t.stand j').state = .firingPending) ∧
      (v.stagger ≠ 0 →
        ((∀ j, v.has j = true → (s.stand j).urgent = false) →
          v'.grant = .spacing v.stagger s.stepPending ∧ ∀ j, v'.has j = v.has j) ∧
        ∀ j, v.has j = true → (s.stand j).urgent = true →
          ∃ j', v.has j' = true ∧ (s.stand j').urgent = true ∧ v'.grant = .held j' ∧
            (t.stand j').state = .firingPending))

/-- R116, R117, R118, section 6.5: the fire time lies a whole number of revolutions, the smallest that
leaves at least 500 µs, after the tape's arrival, less the paste delay. A fire is prepared only from a
refreshed spindle with a rate above 0, a latched tape angle, LINE and STATUS not stale, and a fire time of
500-749 µs; it is prepared for the next outbound frame, with the fire time less 500 as its offset. -/
def Obligations.PasteOpportunityPreparesFire : Prop :=
  (∀ (contact now : Angle) (c tPaste tArr tRev : Nat), 0 < c → c ≤ 4095 →
    IsRounded ((contact - now).toNat * 4000) c tArr → IsRounded (4096 * 4000) c tRev →
    ∃ n : Nat, fireTime contact now c tPaste + tPaste = tArr + n * tRev ∧
      500 ≤ fireTime contact now c tPaste ∧
      ∀ m < n, tArr + m * tRev < tPaste + 500) ∧
  ∀ (st : Stand) (h : ArmHand) (lineStale : Bool) (c : Word) (p : PreparedFire),
    (st.arm st.readyArm).rate ≤ 4095 →
    (st.evaluatePaste h lineStale c = some p ↔
      ∃ r tape now, st.ready = some r ∧ r.tape = some tape ∧
        (st.arm st.readyArm).spindle.angle = some now ∧ h.refreshed = true ∧
        0 < (st.arm st.readyArm).rate ∧ lineStale = false ∧ st.status.cap.cond = .live ∧
        p.cycle = c + 1 ∧ p.offset ≤ 249 ∧
        p.offset + 500 =
          fireTime (tape + BitVec.ofNat 12 st.params.sensorLead) now (st.arm st.readyArm).rate
            st.params.tPaste)

/-- R16, R93, R118, R119, R120, section 6.5: the fire prepared for outbound m is written only by a stand
in FIRING-pending; the write fixes the fire instant in cycle m+1, spends the tape, forms the plan with
D_run and a planned knife, keeps wait, urgency and forced-due, and leaves the groups as they stand. A fire
prepared for another frame is dropped. -/
def Obligations.FireWriteFormsPlan : Prop :=
  ∀ (s : State) (k : StandId) (m : Word) (p : PreparedFire) (r : ReadyContext),
    (s.stand k).sched.prepared = some p → (s.stand k).ready = some r →
    let st := s.stand k
    let t := (s.fireStep k m).1
    (st.state = .firingPending → p.cycle = m →
      (s.fireStep k m).2 = some p.offset ∧ (t.stand k).state = .firingIssued ∧
      (t.stand k).ready = some { r with spent := true } ∧ (t.stand k).sched.prepared = none ∧
      (∃ q, (t.stand k).sched.plan = some q ∧
        q = firePlanAt st.params s.lineSpeed st.dRun ⟨m + 1, p.offset⟩ ∧
        q.fire = ⟨m + 1, p.offset⟩ ∧ q.dRun = st.dRun ∧
        q.delay = (knifeDelay st.params s.lineSpeed).1 ∧
        q.clamped = (knifeDelay st.params s.lineSpeed).2 ∧
        q.knife = q.fire.add q.delay ∧ q.knifeState = .planned ∧ q.late = false ∧
        q.windowEnd = none ∧ q.lag = none) ∧
      (∀ g, st.grant = some g → (t.stand k).kept = some ⟨g.wait, g.urgent, st.forced⟩) ∧
      (r.spent = false → (t.stand k).occupancy + 1 = st.occupancy)) ∧
    (st.state ≠ .firingPending ∨ p.cycle ≠ m →
      (s.fireStep k m).2 = none ∧ (t.stand k).sched.prepared = none ∧
      (t.stand k).state = st.state ∧ (t.stand k).ready = some r) ∧
    (∀ j, j ≠ k → t.stand j = s.stand j) ∧ t.groups = s.groups ∧ t.log = s.log

/-- R120, section 6.6: the knife delay for each case of the line speed, always between the knife min gap
and the knife max gap. -/
def Obligations.KnifeDelayLiesBetweenGaps : Prop :=
  ∀ (q : Params) (speed dRun : Nat) (i : Instant), q.minGap ≤ q.maxGap →
    let p := firePlanAt q speed dRun i
    q.minGap ≤ p.delay ∧ p.delay ≤ q.maxGap ∧
    (speed = 0 → p.delay = q.maxGap ∧ p.clamped = true) ∧
    (∀ u : Nat, 0 < speed → IsRounded (q.lKnife * 4000) speed u →
      (q.tPaste + u < q.tKnife + q.minGap → p.delay = q.minGap ∧ p.clamped = true) ∧
      (q.tKnife + q.maxGap < q.tPaste + u → p.delay = q.maxGap ∧ p.clamped = true) ∧
      (q.tKnife + q.minGap ≤ q.tPaste + u → q.tPaste + u ≤ q.tKnife + q.maxGap →
        p.delay + q.tKnife = q.tPaste + u ∧ p.clamped = false))

/-- R17, R94, R121, R122, sections 1.8 and 6.6: a planned knife is written in the frame of the cycle
before its instant, or late, with offset 0, in a later one; the write fixes instant and delay, opens the
confirm window for T_confirm and takes the stand to CONFIRM. Before its frame it stays planned. -/
def Obligations.KnifeWriteOpensConfirm : Prop :=
  ∀ (s : State) (k : StandId) (m : Word) (p : FirePlan),
    (s.stand k).state = .firingIssued → (s.stand k).sched.plan = some p → p.knifeState = .planned →
    (cycleAfter p.knife.cycle (m + 1) = true → s.knifeStep k m = (s, none)) ∧
    (cycleAfter p.knife.cycle (m + 1) = false →
      ∃ q, ((s.knifeStep k m).1.stand k).sched.plan = some q ∧
        ((s.knifeStep k m).1.stand k).state = .confirm ∧
        (s.knifeStep k m).2 = some q.knife.offset ∧
        (p.knife.cycle = m + 1 → q.knife = p.knife ∧ q.late = false) ∧
        (p.knife.cycle ≠ m + 1 → q.knife = ⟨m + 1, 0⟩ ∧ q.late = true) ∧
        q.delay = (q.knife.cycle - q.fire.cycle).toNat * 250 + q.knife.offset - q.fire.offset ∧
        q.fire = p.fire ∧ q.clamped = p.clamped ∧ q.dRun = p.dRun ∧ q.knifeState = .issued ∧
        q.windowEnd = some (q.knife.add ((s.stand k).params.tConfirm * 1000)) ∧
        (∀ j, j ≠ k → (s.knifeStep k m).1.stand j = s.stand j) ∧
        (s.knifeStep k m).1.groups = s.groups)

/-- R107, R108, R109, R123, R124, R95, section 6.7: in CONFIRM a splice-confirm of the previous cycle that
lies before the window end is accepted, with the lag from the knife instant, or 0 before it; otherwise the
window times out once the step's cycle begins at or after its end. In its step a stand in CONFIRM has S_t
and N_ref formed, then this test is made: an accepted splice-confirm enters SETTLE, the end of the window
takes a CONFIRM-TIMEOUT fault. In FIRING-issued S_t and N_ref are formed, and nothing else. -/
def Obligations.ConfirmIsAcceptedBeforeTimeout : Prop :=
  (∀ (st : Stand) (p : FirePlan) (e : Instant) (confirm : Option Nat) (c : Word),
    st.sched.plan = some p → p.windowEnd = some e →
    (∀ o, confirm = some o → Instant.before ⟨c - 1, o⟩ e = true →
      ∃ lag, (st.confirmWork confirm c).1.sched.plan = some { p with lag := some lag } ∧
        (st.confirmWork confirm c).2 = .confirmed ∧
        (Instant.before ⟨c - 1, o⟩ p.knife = true → lag = 0) ∧
        (Instant.before ⟨c - 1, o⟩ p.knife = false →
          lag = (c - 1 - p.knife.cycle).toNat * 250 + o - p.knife.offset)) ∧
    ((∀ o, confirm = some o → Instant.before ⟨c - 1, o⟩ e = false) →
      (st.confirmWork confirm c).1 = st ∧
      (st.confirmWork confirm c).2 =
        if Instant.before ⟨c, 0⟩ e = true then .stay else .fault .confirmTimeout false)) ∧
  ∀ (s : State) (k : StandId) (h : StandHand) (stale : Bool) (dg : Option Nat) (b : Bool),
    let st := (s.stand k).formTarget s.lineSpeed
    let r := st.confirmWork h.confirm s.cycle
    ((s.stand k).state = .confirm →
      (r.2 = .confirmed → s.transitions k h stale dg b = (s.setStand k r.1).enterSettle k) ∧
      (r.2 = .fault .confirmTimeout false →
        s.transitions k h stale dg b = (s.setStand k r.1).takeFault k .confirmTimeout none) ∧
      (r.2 = .stay → s.transitions k h stale dg b = s.setStand k r.1) ∧
      r.2 ∈ [.confirmed, .fault .confirmTimeout false, .stay]) ∧
    ((s.stand k).state = .firingIssued → s.transitions k h stale dg b = s.setStand k st)

/-- R75, R95, R136, R160, R161, R68, R70, R71, R73, R82, R85, R96, R145, sections 5.5 and 4.6: at the entry
to SETTLE the SPLICED entry is formed from both contexts first, then the ready context becomes the running
context, the arms change roles, the expiring arm brakes and is to be unloaded, and the group goes into
SPACING, or to FREE at a stagger length of 0; queue, plan and forced-due stay, and no other stand is
changed. The braking flag clears at a ready spindle rate of 0, in SETTLE only where its history is complete;
the step that enters SETTLE leaves it set (the model's choice, log 32). A stand in SETTLE whose flag is
clear and whose home flags are both held true enters RUNNING, or CHECKING with the head bound where
mount-pending is set. In its controller step a stand in RUNNING binds the head where mount-pending is set,
by a mount edge of this step too, and the ready arm does not brake, or comes to rest in this step; else it
stays in RUNNING. A stand that an unmount takes from CHECKING or READY to RUNNING is not bound in the same
step. Whether the step of the release's cycle is still to come stands beside the remaining length (the
model's reading, log 20). -/
def Obligations.SettleTransfersContexts : Prop :=
  (∀ (s : State) (k : StandId) (old : RunningContext) (new : ReadyContext) (p : FirePlan)
    (q : KeptSequence),
    (s.stand k).state = .confirm → (s.stand k).running = some old → (s.stand k).ready = some new →
    (s.stand k).sched.plan = some p → (s.stand k).kept = some q →
    let st := s.stand k
    let t := s.enterSettle k
    let st' := t.stand k
    t.formed = s.formed ++
      [{ stand := k, outcome := .spliced, expiring := old.roll, newRoll := new.record.roll
         width := new.record.width, fire := p.fire, delay := p.delay, clamped := p.clamped
         late := p.late, dRun := p.dRun, lag := p.lag, wait := q.wait, urgent := q.urgent
         forced := q.forced }] ∧
      st'.state = .settle ∧ st'.runningArm = otherArm st.runningArm ∧
      st'.running = some ⟨new.record.roll, new.record.grade, some new.record.core,
        some new.record.width, new.record.override,
        new.record.caliper.getD s.grades[new.record.grade].caliper, new.dNew.getD 0, true, none⟩ ∧
      st'.ready = none ∧ st'.sNew = none ∧ st'.braking = true ∧ st'.acceptOpen = true ∧
      st'.window = none ∧ st'.queue = st.queue ∧ st'.forced = st.forced ∧
      st'.sched = { st.sched with target := none, nRef := none, prepared := none } ∧
      (st'.arm st.runningArm).unload = ((st.arm st.runningArm).unload || st.level st.runningArm) ∧
      st'.arm (otherArm st.runningArm) = st.arm (otherArm st.runningArm) ∧
      (t.group (s.groupOf k)).grant =
        (if (s.group (s.groupOf k)).stagger = 0 then .free
         else .spacing (s.group (s.groupOf k)).stagger s.stepPending) ∧
      (∀ g, g ≠ s.groupOf k → t.group g = s.group g) ∧ ∀ j, j ≠ k → t.stand j = s.stand j) ∧
  (∀ st : Stand,
    let v := st.arm st.readyArm
    st.brakingStep = { st with braking := st.brakingStep.braking } ∧
    (st.state ≠ .settle → (st.brakingStep.braking = true ↔ st.braking = true ∧ v.rate ≠ 0)) ∧
    (st.state = .settle → (st.brakingStep.braking = true ↔
      st.braking = true ∧ (v.spindle.hist.length ≠ 17 ∨ v.rate ≠ 0)))) ∧
  (∀ (s : State) (k : StandId) (h : StandHand) (stale : Bool) (dg : Option Nat) (b : Bool),
    (s.stand k).state = .settle →
    let st := s.stand k
    let home := st.braking = false ∧ st.status.home = some ⟨true, true⟩
    (¬ home → s.transitions k h stale dg b = s) ∧
    (home → st.mountPending = false ∨ st.queue = [] →
      s.transitions k h stale dg b = s.setStand k { st with state := .running, forced := false }) ∧
    (∀ q rest, home → st.mountPending = true → st.queue = q :: rest →
      s.transitions k h stale dg b = s.setStand k { st with
        state := .checking, forced := false, queue := rest, mountPending := false, sNew := none
        ready := some ⟨q, st.readyArm, none, none, false⟩
        gaugeWindow := some ⟨st.readyArm, 0, 0, false⟩ })) ∧
  (∀ (s : State) (k : StandId) (h : StandHand) (stale : Bool) (dg : Option Nat) (b : Bool),
    (s.stand k).state = .running →
    let st := s.stand k
    let t := s.transitions k h stale dg b
    (b = true ∨ st.braking = true ∨ st.mountPending = false ∨ st.queue = [] → t = s) ∧
    ∀ q rest, b = false → st.braking = false → st.mountPending = true → st.queue = q :: rest →
      t = s.setStand k { st with
        state := .checking, queue := rest, mountPending := false, sNew := none
        ready := some ⟨q, st.readyArm, none, none, false⟩
        gaugeWindow := some ⟨st.readyArm, 0, 0, false⟩ }) ∧
  ∀ (s : State) (k : StandId) (h : StandHand) (stale : Bool) (dg : Option Nat),
    let st := s.stand k
    let x := st.readyArm
    let a := h.arm x
    let t := s.controllerStep k h stale dg
    let rest := st.braking = false ∨ (st.arm x).rate = 0
    let edge := st.ready = none ∧
      (a.change = some true ∨ a.firstTrue = true ∧ (st.arm x).declaredEmpty = true)
    let pending := a.change ≠ some false ∧ (st.mountPending = true ∨ edge)
    (∀ q qs, st.state = .running → rest → pending → st.queue = q :: qs →
      t = s.setStand k { st with
        state := .checking, braking := false, queue := qs, mountPending := false, sNew := none
        ready := some ⟨q, x, none, none, false⟩, gaugeWindow := some ⟨x, 0, 0, false⟩ }) ∧
    (st.state = .running → ¬ (rest ∧ pending) ∨ st.queue = [] →
      ∃ p br, t = s.setStand k { st with mountPending := p, braking := br } ∧
        (p = true ↔ pending) ∧ (br = true ↔ ¬ rest)) ∧
    ∀ c, st.state ∈ [.checking, .ready] → a.change = some false → st.ready = some c → c.spent = false →
      ∃ br, (br = true ↔ ¬ rest) ∧
        t = s.setStand k { st with
          state := .running, braking := br, queue := c.record :: st.queue, ready := none
          sNew := none, mountPending := false, gaugeWindow := none }

/-! ### Folder groups -/

/-- R131, R132, R133, R134, R139, section 7.4: the stand a decision grants comes before every other
requester the decision may grant: urgent before not urgent, valid before not valid, the smaller D_run, the
lower index; a FREE group grants some requester when it has one, a group in SPACING some urgent one, a
HELD group none. The grant makes the group HELD by the stand, takes it from the requester set, records its
stagger wait from its request start and its urgency, and enters FIRING-pending; no other stand and no
other group is changed. -/
def Obligations.GrantGoesToFirstRequester : Prop :=
  ∀ (s : State) (g : GroupId),
    (∀ k, s.chosen g = some k →
      (s.group g).has k = true ∧
      ∀ j, j ≠ k → (s.group g).has j = true →
        ((s.group g).grant = .free ∨ (s.stand j).urgent = true) →
        ((s.stand k).urgent = true ∧ (s.stand j).urgent = false) ∨
        ((s.stand k).urgent = (s.stand j).urgent ∧
          (((s.stand k).diameterValid = true ∧ (s.stand j).diameterValid = false) ∨
           ((s.stand k).diameterValid = true ∧ (s.stand j).diameterValid = true ∧
             (s.stand k).dRun < (s.stand j).dRun) ∨
           ((s.stand k).diameterValid = true ∧ (s.stand j).diameterValid = true ∧
             (s.stand k).dRun = (s.stand j).dRun ∧ k < j) ∨
           ((s.stand k).diameterValid = false ∧ (s.stand j).diameterValid = false ∧ k < j)))) ∧
    ((s.group g).grant = .free → (s.chosen g = none ↔ ∀ k, (s.group g).has k = false)) ∧
    (∀ rest w, (s.group g).grant = .spacing rest w →
      (∀ k, s.chosen g = some k → (s.stand k).urgent = true) ∧
      (s.chosen g = none ↔ ∀ k, (s.group g).has k = true → (s.stand k).urgent = false)) ∧
    (∀ k, (s.group g).grant = .held k → s.chosen g = none) ∧
    (s.chosen g = none → s.decideGroup g = s) ∧
    ∀ k start, s.chosen g = some k → (s.stand k).requestStart = some start →
      let t := s.decideGroup g
      (t.group g).grant = .held k ∧ (t.group g).has k = false ∧
        (∀ j, j ≠ k → (t.group g).has j = (s.group g).has j ∧ t.stand j = s.stand j) ∧
        (t.group g).stagger = (s.group g).stagger ∧ (∀ h, h ≠ g → t.group h = s.group h) ∧
        t.stand k = { s.stand k with
          state := .firingPending
          grant := some ⟨(s.cycle - start).toNat, (s.stand k).urgent⟩ } ∧
        t.log = s.log

/-- R131, R137, section 7.6: in a step that counts, an increment of at least the remaining length ends the
spacing; the decision that follows grants a requester of the group, if there is one. A smaller increment
does not end it. The step of the release's own cycle does not count: it turns the mark off and keeps the
length. All groups in SPACING take the same increment in one measurement step, other groups none. The row
is taken alone (log 2), and a step counts when the mark beside the remaining length is off (log 20): the
model's readings. -/
def Obligations.SpacingEndFreesGroup : Prop :=
  (∀ (s : State) (g : GroupId) (inc : BitVec 23) (rest : Nat), s.inReset = false → GroupsAgree s →
    (s.group g).grant = .spacing rest false →
    (rest ≤ inc.toNat →
      ∃ t, exec (.spacingEnd g inc) s = .next t ∧
        ((∀ k, (s.group g).has k = false) → (t.group g).grant = .free) ∧
        ((∃ k, (s.group g).has k = true) →
          ∃ k, (s.group g).has k = true ∧ (t.group g).grant = .held k ∧
            (t.stand k).state = .firingPending) ∧
        (t.group g).stagger = (s.group g).stagger) ∧
    (inc.toNat < rest → exec (.spacingEnd g inc) s = .next s) ∧
    ((s.group g).countDown inc.toNat).grant =
      (if rest ≤ inc.toNat then .free else .spacing (rest - inc.toNat) false)) ∧
  (∀ (s : State) (g : GroupId) (inc : BitVec 23) (rest : Nat), (s.group g).grant = .spacing rest true →
    exec (.spacingEnd g inc) s = .next s ∧
    (s.group g).countDown inc.toNat = { s.group g with grant := .spacing rest false }) ∧
  ∀ (s : State) (inc : Nat),
    (∀ g, (s.countDown inc).group g = (s.group g).countDown inc) ∧
    (∀ g, (∀ rest w, (s.group g).grant ≠ .spacing rest w) → (s.group g).countDown inc = s.group g) ∧
    s.countDown inc = { s with groups := (s.countDown inc).groups }

/-! ### Faults, clears and the image -/

/-- R148, R149, R150, R152, R153, R179: the outcome of a CLEAR-FAULT for every stand and arm field; a
clear empties the record and the claim-lost and link-loss flags, opens acceptance, drops the anchor and
the window, and enters READY, CHECKING or RUNNING: after a fault taken before the fire as R153's list
says, after a named arm RUNNING. A gauge window opened by the request carries the mark that the step of
the cycle is still to come (R55; the model's reading, log 16). -/
def Obligations.ClearFaultByStateAtFault : Prop :=
  ∀ (s : State) (r : Request) (k : StandId) (sel : BitVec 16), s.takesAt r k → GroupsAgree s →
    ContextsAgree s → DecisionsMade s →
    let v := (sel.extractLsb' 0 2).toNat
    let st := s.stand k
    (v = 3 → exec (.clearFault r sel) s = .next (s.replied r 10 .badValue 0)) ∧
    (v ≠ 3 → st.state = .offline →
      exec (.clearFault r sel) s = .next (s.replied r 10 .notOnline 0)) ∧
    (v ≠ 3 → st.state ≠ .offline → st.state ≠ .fault →
      exec (.clearFault r sel) s = .next (s.replied r 10 .noSuch 0)) ∧
    ∀ f, st.state = .fault → st.record = some f →
      let late := f.stateAt = .firingIssued ∨ f.stateAt = .confirm
      (late → v = 0 → exec (.clearFault r sel) s = .next (s.replied r 10 .needsArm 0)) ∧
      (v ≠ 3 → (late → v ≠ 0) →
        ∃ st', exec (.clearFault r sel) s = .next ((s.setStand k st').replied r 10 .done 0) ∧
          st'.state ∈ [.ready, .checking, .running] ∧ st'.record = none ∧ st'.claimLost = false ∧
          st'.linkLoss = false ∧ st'.acceptOpen = true ∧ st'.window = none ∧
          (∀ c, st'.running = some c → c.anchor = none) ∧
          st'.requestInhibit = st.requestInhibit ∧ st'.sched = st.sched ∧
          (¬ late → st'.runningArm = st.runningArm ∧ st'.braking = st.braking ∧
            st.unfaulted.Enters s.stepPending st') ∧
          (late → (v = 1 ↔ st.runningArm = .a) →
            st'.runningArm = st.runningArm ∧ st'.braking = true ∧ st'.state = .running ∧
            st'.ready = none ∧ st'.sNew = none ∧ st'.queue = st.queue ∧
            st'.running.map (·.roll) = st.running.map (·.roll) ∧
            (st'.arm st.readyArm).unload =
              ((st.arm st.readyArm).unload || st.level st.readyArm)) ∧
          (late → (v = 1 ↔ st.runningArm = .b) →
            st'.runningArm = st.readyArm ∧ st'.braking = true ∧ st'.state = .running ∧
            st'.ready = none ∧ st'.sNew = none ∧ st'.queue = st.queue ∧
            st'.running.map (·.roll) = st.ready.map (·.record.roll) ∧
            st'.running.map (·.dRun) = st.ready.map (·.dNew.getD 0) ∧
            st'.running.map (·.valid) = some true ∧
            (st'.arm st.runningArm).unload =
              ((st.arm st.runningArm).unload || st.level st.runningArm)))

/-- R155, R156, R157, section 1.11: every stand's 7-bit field, with state code, fault, inhibited and
attention bit, and the four bits of the part byte stand at their places in the two image payloads. T_ts
and urgency are those that the last measurement step left, in a field of the model's own for the urgency
(log 29): it is that of R91 at the step's end. -/
def Obligations.ImageCarriesEveryStand : Prop :=
  ∀ s : State,
    (∀ k : StandId, k.val < 4 → (s.image0.extractLsb' (7 * k.val) 7).toNat = (s.stand k).imageField) ∧
    (∀ k : StandId, 4 ≤ k.val →
      (s.image1.extractLsb' (7 * (k.val - 4)) 7).toNat = (s.stand k).imageField) ∧
    (∀ k : StandId, (s.stand k).imageField % 16 = (s.stand k).state.code ∧
      ((s.stand k).imageField.testBit 4 = true ↔
        (s.stand k).state ≠ .offline ∧ (s.stand k).record.isSome = true) ∧
      ((s.stand k).imageField.testBit 5 = true ↔
        (s.stand k).pinAsserted = true ∨
          ((s.stand k).state ≠ .offline ∧ (s.stand k).requestInhibit = true)) ∧
      ((s.stand k).imageField.testBit 6 = true ↔
        (s.stand k).state ≠ .offline ∧
          ((s.stand k).mountPending = true ∨
            ((s.stand k).queue = [] ∧
              ∃ n, (s.stand k).tTs = some n ∧ n ≤ 2 * (s.stand k).params.tLead) ∨
            ((s.stand k).state = .running ∧ (s.stand k).stepUrgent = true)))) ∧
    (s.image0.getLsbD 28 = true ↔ s.log ≠ []) ∧ s.image0.getLsbD 29 = s.overrun ∧
    (s.image0.getLsbD 30 = true ↔ ∃ k, (s.stand k).claimLost = true) ∧
    (s.image0.getLsbD 31 = true ↔ ∃ k, (s.stand k).linkLoss = true) ∧
    s.image1.extractLsb' 28 4 = 0#4 ∧
    ([.offline, .running, .checking, .ready, .accel, .matched, .firingPending, .firingIssued, .confirm,
      .settle, .fault] : List StandState).map (·.code) = List.range 11 ∧
    ∀ (st : Stand) (speed : Nat),
      (st.measureLength speed).stepUrgent = true ↔
        st.diameterValid = true ∧ st.dRun ≤ min st.params.dEmerg st.spliceDiameter

/-! ### The splice log -/

/-- R164, R165, R180, sections 1.11 and 9.4: READ-LOG answers the named half of the entry at the named
position, NO-SUCH beyond the last, and changes nothing; a position above 31 or a half above 1 is a
BAD-REQUEST. ACK-LOG removes the oldest entry, and clears the overrun flag when it removes the last one; on
an empty log it is answered NO-SUCH. The two halves of an entry carry its fields at the places of section
1.11. -/
def Obligations.ReadLogReadsNamedHalf : Prop :=
  (∀ e : LogEntry,
    let h0 := e.half0
    let h1 := e.half1
    h0.extractLsb' 0 32 = e.expiring ∧ h0.extractLsb' 32 32 = e.newRoll ∧
      h0.extractLsb' 64 32 = e.fire.cycle ∧ (h0.extractLsb' 96 8).toNat = e.fire.offset % 2 ^ 8 ∧
      (h0.extractLsb' 104 3).toNat = e.stand.val ∧
      h0.extractLsb' 107 2 =
        (match e.outcome with | .spliced => 0#2 | .noConfirm => 1#2 | .aborted => 2#2) ∧
      h0.getLsbD 109 = e.clamped ∧ h0.getLsbD 110 = e.late ∧ h0.getLsbD 111 = e.urgent ∧
      (h0.extractLsb' 112 16).toNat = e.width % 2 ^ 16 ∧
      (h1.extractLsb' 0 32).toNat = e.delay % 2 ^ 32 ∧ (h1.extractLsb' 32 16).toNat = e.dRun % 2 ^ 16 ∧
      (h1.extractLsb' 48 32).toNat = e.lag.getD 0 % 2 ^ 32 ∧
      (h1.extractLsb' 80 32).toNat = e.wait % 2 ^ 32 ∧
      h1.getLsbD 112 = e.forced ∧ h1.getLsbD 113 = e.lag.isSome ∧ h1.extractLsb' 114 14 = 0#14) ∧
  ∀ (s : State) (r : Request) (k : StandId), s.takesAt r k →
    (∀ pos half : Nat, pos < 256 → half < 256 →
      let sel := BitVec.ofNat 16 (256 * half + pos)
      (31 < pos ∨ 1 < half →
        exec (.readLog r sel) s = .next (s.replied r 11 .badRequest 0)) ∧
      (pos ≤ 31 → half ≤ 1 → s.log.length ≤ pos →
        exec (.readLog r sel) s = .next (s.replied r 11 .noSuch 0)) ∧
      (∀ e, pos ≤ 31 → s.log[pos]? = some e →
        (half = 0 → exec (.readLog r sel) s = .next (s.replied r 11 .done e.half0)) ∧
        (half = 1 → exec (.readLog r sel) s = .next (s.replied r 11 .done e.half1)))) ∧
    (s.log = [] → exec (.ackLog r) s = .next (s.replied r 12 .noSuch 0)) ∧
    (∀ e, s.log = [e] →
      exec (.ackLog r) s = .next (State.replied { s with log := [], overrun := false } r 12 .done 0)) ∧
    (∀ e e' rest, s.log = e :: e' :: rest →
      exec (.ackLog r) s = .next (State.replied { s with log := e' :: rest } r 12 .done 0))

/-! ### Service requests -/

/-- R13, R18, R19, R167, R168, R169, R171, R175, R180, R181, sections 1.11 and 10.2: a request is taken by a
part out of reset whose address is 1-30 and is the target, once a frame has begun since the release; any
other changes nothing, but that its outbound frame has wholly passed, as the frame of a taken one has (the
model's form of the row, log 5). The frame at OUT-OUT, with its request field, is the same in both cases. A
taken request leaves a reply that echoes its kind and stand index under the part's address; the three common
checks come first, and an unknown kind, a stand index above 7, or a selector that names nothing is answered
BAD-REQUEST; any reply but DONE carries 16 bytes of 0, and the part is otherwise as it was. By section 1.11
a reply field carries responder, kind, stand index, code and payload at their places, and 0 in its other
bits. -/
def Obligations.CommonChecksGiveBadRequest : Prop :=
  (∀ a : Reply,
    a.field.extractLsb' 0 5 = a.responder ∧ a.field.extractLsb' 5 4 = a.kind ∧
      a.field.extractLsb' 9 4 = a.stand ∧ a.field.extractLsb' 13 3 = 0#3 ∧
      a.field.extractLsb' 16 4 =
        (match a.code with
          | .done => 0#4 | .busy => 1#4 | .badValue => 2#4 | .badRequest => 3#4 | .noSuch => 4#4
          | .full => 5#4 | .duplicate => 6#4 | .notOnline => 7#4 | .notOffline => 8#4
          | .mapInvalid => 9#4 | .noReady => 10#4 | .needsArm => 11#4) ∧
      a.field.extractLsb' 20 12 = 0#12 ∧ a.field.extractLsb' 32 128 = a.payload) ∧
  (∀ (s : State) (r : Request) (kind : BitVec 4), s.takes r = true → unknownKind kind = true →
    exec (.unknownKindRequest r kind) s = .next (s.replied r kind .badRequest 0)) ∧
  (∀ (s : State) (r : Request), s.takes r = true ↔
    s.inReset = false ∧ (∃ c, s.engineCycle = some c) ∧ 1 ≤ s.nodeAddr.toNat ∧ s.nodeAddr.toNat ≤ 30 ∧
      r.target = s.nodeAddr) ∧
  ∀ (c : Instr) (s : State) (r : Request) (kind : BitVec 4), requestOf c = some (r, kind) →
    (s.takes r = false → exec c s = .next { s with outPassing := false }) ∧
    (s.takes r = true → WellFormed c = true →
      unknownKind kind = true ∨ 8 ≤ r.stand.toNat ∨ selectorFits c = false →
      exec c s = .next (s.replied r kind .badRequest 0)) ∧
    (s.takes r = true →
      ∃ t a, exec c s = .next t ∧ t.heldReply = some a ∧ a.responder = s.nodeAddr ∧ a.kind = kind ∧
        a.stand = r.stand ∧ t.outFrame = s.outFrame ∧
        (a.code ≠ .done → a.payload = 0 ∧ t = { s with heldReply := some a, outPassing := false }))

/-- R171, R172, R173, sections 1.11 and 10.3: READ-ITEM changes nothing but the held reply; it is answered
NO-SUCH in the cases of R173 and DONE in every other, with the fields of the item of its class and half in
the order of R172, in the codes it names; an absent field is 0. Of an OFFLINE stand the status item shows
the inhibit pin alone, with every other field 0 (the model's reading of R173 over R79, log 12), the arm
flags are 0, and LINE has a stale-watch count of 0. -/
def Obligations.ReadItemChangesNothing : Prop :=
  ([.a, .b] : List Arm).map armCode = [0, 1] ∧
  ([.idle, .speed, .tension, .brake] : List DriveMode).map (·.code) = [0, 1, 2, 3] ∧
  ([.reelMismatch, .accelTimeout, .tapeLost, .signalStale, .confirmTimeout, .linkLoss, .claimConflict] :
    List FaultKind).map (·.code) = [1, 2, 3, 4, 5, 6, 7] ∧
  ([.line, .spindleA, .spindleB, .status] : List StaleSignal).map (·.code) = [0, 1, 2, 3] ∧
  ([.planned, .issued, .withheld] : List KnifeState).map (·.code) = [0, 1, 2] ∧
  ([.waiting, .live, .stale] : List Condition).map (·.code) = [0, 1, 2] ∧
  ([.one, .two, .four] : List Divisor).map (·.value) = [1, 2, 4] ∧
  ∀ (s : State) (r : Request) (k : StandId) (c i : Nat), s.takesAt r k → ContextsAgree s → c < 256 →
    i < classSize c →
    let sel := BitVec.ofNat 16 (256 * c + i)
    let st := s.stand k
    let absent :=
      (c = 11 ∧ st.queue.length ≤ i) ∨ (c ∈ [9, 12, 16, 17] ∧ st.state = .offline) ∨
      (c = 13 ∧ st.ready = none) ∨ (c = 18 ∧ 1 ≤ i ∧ st.state = .offline) ∨
      (c = 18 ∧ i = 0 ∧ s.lineMap = none)
    (absent → exec (.readItem r sel) s = .next (s.replied r 1 .noSuch 0)) ∧
    (¬ absent → ∃ p, exec (.readItem r sel) s = .next (s.replied r 1 .done p) ∧
      (c = 8 → i = 0 → st.state = .offline →
        p = BitVec.ofNat 128 (if st.pinAsserted then 2 ^ 17 else 0)) ∧
      (c = 1 → p = BitVec.ofNat 128 (st.params.get i % 2 ^ 32)) ∧
      (c = 15 → st.record = none → p = 0) ∧
      let entry : Option RetEntry → List ItemField := fun e => match e with
        | some e => [.num 1 1, .num 1 e.slot.val, .num 1 e.divisor.value]
        | none => []
      let record : ReelRecord → List ItemField := fun q =>
        [.num 4 q.roll.toNat, .num 1 q.grade.val, .num 2 q.mount, .num 2 q.core, .num 2 q.width,
          .num 2 (q.override.getD 0), .num 1 (q.caliper.getD 0)]
      let signal : Capture → List Bool → Nat → Nat → Nat → List ItemField := fun g l v n w =>
        [.num 1 g.cond.code, .num 2 g.since, .flags l, .num 1 ((g.ref.map (·.toNat)).getD 0), .num 4 v,
          .num 1 n, .num 1 w]
      let online := st.state ≠ .offline
      (c = 1 → Carries p 0 [.num 4 (st.params.get i)]) ∧
      (c = 2 → ∀ e, st.map.returnEntries[i]? = some e → Carries p 0 (entry e)) ∧
      (c = 2 → 5 ≤ i → ∀ e, st.map.outboundEntries[i - 5]? = some e → Carries p 0
        (match e with
          | some n => [.num 1 1, .num 1 n.val, .num 1 0]
          | none => [])) ∧
      (c = 3 → Carries p 0 (entry s.lineMap)) ∧
      (c = 4 → Carries p 0
        (match s.imageMap with
          | some (m, n) => [.num 1 1, .num 1 m.val, .num 1 n.val]
          | none => [])) ∧
      (c = 5 → ∀ g : Fin 16, g.val = i →
        Carries p 0 [.num 1 s.grades[g].caliper, .num 2 s.grades[g].band]) ∧
      (c = 6 → ∀ g : GroupId, g.val = i → Carries p 0 [.num 4 (s.group g).stagger]) ∧
      (c = 7 → ∀ g : GroupId, g.val = i →
        let v := s.group g
        let held := match v.grant with | .held j => j.val | _ => 0
        let left := match v.grant with | .spacing n _ => n | _ => 0
        Carries p 0
          [.num 1 (match v.grant with | .free => 0 | .held _ => 1 | .spacing _ _ => 2), .num 1 held,
            .num 4 left, .flags ([0, 1, 2, 3, 4, 5, 6, 7].map v.has), .num 4 v.stagger]) ∧
      (c = 8 → i = 0 → online → Carries p 0
        [.num 1 st.state.code, .num 1 (armCode st.runningArm),
          .flags [st.requestInhibit, st.pinAsserted, st.inhibited, st.forced, st.braking, st.due,
            st.urgent, st.accelTimer.isSome],
          .num 1 (st.driveMode .a).code, .num 1 (st.driveMode .b).code, .num 2 (st.speedRef .a),
          .num 2 (st.speedRef .b), .num 4 (st.accelTimer.getD 0)]) ∧
      (c = 8 → i = 1 → Carries p 0
        (if online then
          [.flags [true, st.requestStart.isSome, st.grant.isSome, (st.grant.map (·.urgent)).getD false],
            .num 4 ((st.requestStart.map (·.toNat)).getD 0), .num 4 ((st.grant.map (·.wait)).getD 0)]
        else [])) ∧
      (∀ q, c = 9 → i = 0 → st.running = some q → Carries p 0
        [.num 2 st.armA.rate, .num 2 st.armB.rate, .num 2 q.dRun, .num 1 q.caliper,
          .flags [q.valid, st.acceptOpen, st.lRem.isSome, st.tTs.isSome, st.lastDg.isSome,
            st.sNew.isSome, st.window.isSome, st.gaugeWindow.isSome],
          .num 4 (st.lRem.getD 0)]) ∧
      (c = 9 → i = 1 → Carries p 0
        [.num 4 (st.tTs.getD 0), .num 2 (st.lastDg.getD 0), .num 3 (st.sNew.getD 0),
          .num 1 ((st.gaugeWindow.map (·.count)).getD 0)]) ∧
      (c = 10 → Carries p 0 [.num 1 st.queue.length, .num 1 st.occupancy]) ∧
      (∀ q, c = 11 → st.queue[i]? = some q → Carries p 0 (record q)) ∧
      (∀ q, c = 12 → i = 0 → st.running = some q → Carries p 0
        [.num 4 q.roll.toNat, .num 1 q.grade.val, .num 2 (q.core.getD 0), .num 2 (q.width.getD 0),
          .num 2 (q.override.getD 0), .num 1 q.caliper, .num 2 q.dRun,
          .flags [q.valid, q.core.isSome, q.width.isSome, q.override.isSome, q.anchor.isSome]]) ∧
      (∀ q, c = 12 → i = 1 → st.running = some q → Carries p 0
        [.num 2 ((q.anchor.map (·.diameter)).getD 0), .num 6 ((q.anchor.map (·.travel)).getD 0)]) ∧
      (∀ q, c = 13 → i = 0 → st.ready = some q → Carries p 0
        (record q.record ++ [.num 1 (armCode q.arm), .flags [q.dNew.isSome, q.tape.isSome, q.spent]])) ∧
      (∀ q, c = 13 → i = 1 → st.ready = some q → Carries p 0
        [.num 2 (q.dNew.getD 0), .num 2 ((q.tape.map (·.toNat)).getD 0)]) ∧
      (c = 14 → Carries p 0
        (if online then
          [.flags [st.mountPending, st.level .a, st.level .b, st.armA.unload, st.armB.unload]]
        else [])) ∧
      (∀ f, c = 15 → st.record = some f → Carries p 0
        [.flags [true, f.fireIssued, f.further, f.signal.isSome], .num 1 f.kind.code,
          .num 4 f.cycle.toNat, .num 1 f.stateAt.code, .num 1 (armCode f.arm),
          .num 1 ((f.signal.map (·.code)).getD 0)]) ∧
      (c = 16 → st.sched.plan = none → p = 0) ∧
      (∀ f, c = 16 → i = 0 → st.sched.plan = some f → Carries p 0
        [.flags [true, f.clamped, f.late, f.windowEnd.isSome, f.lag.isSome], .num 4 f.fire.cycle.toNat,
          .num 1 f.fire.offset, .num 2 f.dRun, .num 4 f.delay, .num 1 f.knifeState.code]) ∧
      (∀ f, c = 16 → i = 1 → st.sched.plan = some f → Carries p 0
        [.num 4 f.knife.cycle.toNat, .num 1 f.knife.offset,
          .num 4 ((f.windowEnd.map (·.cycle.toNat)).getD 0), .num 1 ((f.windowEnd.map (·.offset)).getD 0),
          .num 4 (f.lag.getD 0)]) ∧
      (c = 17 → Carries p 0
        [.flags [st.sched.target.isSome, st.sched.nRef.isSome, st.sched.prepared.isSome],
          .num 3 (st.sched.target.getD 0), .num 2 (st.sched.nRef.getD 0), .num 2 st.sched.tapeTravel,
          .num 4 ((st.sched.prepared.map (·.cycle.toNat)).getD 0),
          .num 1 ((st.sched.prepared.map (·.offset)).getD 0)]) ∧
      (c = 18 → i = 0 → Carries p 0 (signal s.line.cap
        [s.line.pos.isSome, s.line.cap.ref.isSome, decide (s.line.hist.length = 17)]
        ((s.line.pos.map (·.toNat)).getD 0) s.line.hist.length (if online then st.watch.line else 0))) ∧
      (∀ x, c = 18 → i = (if x = .a then 1 else 2) →
        let g := (st.arm x).spindle
        Carries p 0 (signal g.cap [g.angle.isSome, g.cap.ref.isSome, decide (g.hist.length = 17)]
          ((g.angle.map (·.toNat)).getD 0) g.hist.length
          (if x = st.readyArm then st.watch.spindle else 0))) ∧
      (∀ x, c = 18 → i = (if x = .a then 3 else 4) →
        let g := (st.arm x).gauge
        Carries p 0 (signal g.cap
          [g.diameter.isSome, g.cap.ref.isSome, false, g.present.getD false] (g.diameter.getD 0) 0 0)) ∧
      (c = 18 → i = 5 →
        let g := st.status
        Carries p 0 (signal g.cap
          [g.home.isSome, g.cap.ref.isSome, false, false, (g.home.map (·.paste)).getD false,
            (g.home.map (·.knife)).getD false] 0 0 st.watch.status)) ∧
      (c = 19 → Carries p 0
        [.num 1 s.log.length,
          .flags [decide (s.log ≠ []), s.overrun, decide (∃ j, (s.stand j).claimLost = true),
            decide (∃ j, (s.stand j).linkLoss = true)],
          .num 1 s.nodeAddr.toNat,
          .flags [s.engineCycle.isSome, s.watchArmed, s.lineMap.isSome],
          .num 4 ((s.engineCycle.map (·.toNat)).getD 0),
          .num 3 (if s.lineMap = none then 0 else s.lineSpeed),
          .num 3 (if s.lineMap = none then 0 else s.lineInc)]))

/-- R182, R183, R184, section 11.1: the checks of a parameter write in their order, with the range of each
parameter, and its effect. -/
def Obligations.ParameterWriteIsChecked : Prop :=
  ∀ (s : State) (r : Request) (k : StandId) (i : Fin 18) (p : Payload), s.takesAt r k →
    (s.stand k).params.linked = true →
    let ranges : Vector (Nat × Nat) 18 :=
      #v[(1000, 4000), (800, 4000), (1000, 120000), (1000, 60000), (0, 50), (1, 20), (0, 20), (0, 4095),
        (1000, 250000), (0, 1000000), (0, 50000), (1000, 100000), (1000, 1000000), (50, 5000),
        (10, 1000), (0, 500), (0, 3), (0, 15)]
    let sel := BitVec.ofNat 16 (256 + i.val)
    let st := s.stand k
    let v := (p.extractLsb' 0 32).toNat
    let kept := (st.params.set i.val v).dEmerg ≤ (st.params.set i.val v).dS ∧
      (st.params.set i.val v).minGap ≤ (st.params.set i.val v).maxGap
    let locked := st.state ∈ [.accel, .matched, .firingPending, .firingIssued, .confirm, .settle]
    (locked → exec (.writeStandParameter r sel p) s = .next (s.replied r 2 .busy 0)) ∧
    (¬ locked → v < ranges[i].1 ∨ ranges[i].2 < v ∨ ¬ kept →
      exec (.writeStandParameter r sel p) s = .next (s.replied r 2 .badValue 0)) ∧
    (¬ locked → ranges[i].1 ≤ v → v ≤ ranges[i].2 → kept →
      exec (.writeStandParameter r sel p) s = .next
        ((s.setStand k { st with params := st.params.set i.val v }).replied r 2 .done
          (BitVec.ofNat 128 v)) ∧
      (st.params.set i.val v).get i.val = v ∧
      ∀ j : Fin 18, j ≠ i → (st.params.set i.val v).get j.val = st.params.get j.val)

/-- R22, R172, R174, section 2.1: the write of a slot map entry: NOT-OFFLINE in service before the payload
is looked at; then unset, or a slot in range with a divisor of 1, 2 or 4 for a return entry, or BAD-VALUE;
no other entry is changed. -/
def Obligations.SlotMapWriteIsChecked : Prop :=
  ∀ (s : State) (r : Request) (k : StandId) (i : Fin 9) (p : Payload), s.takesAt r k →
    let sel := BitVec.ofNat 16 (512 + i.val)
    let st := s.stand k
    let set := Payload.bytes p 0 1
    let slot := Payload.bytes p 1 1
    let div := Payload.bytes p 2 1
    (st.state ≠ .offline →
      exec (.writeSlotMapEntry r sel p) s = .next (s.replied r 2 .notOffline 0)) ∧
    (st.state = .offline → i.val < 5 →
      1 < set ∨ (set = 1 ∧ (95 < slot ∨ div ∉ [1, 2, 4])) →
      exec (.writeSlotMapEntry r sel p) s = .next (s.replied r 2 .badValue 0)) ∧
    (st.state = .offline → 5 ≤ i.val → 1 < set ∨ (set = 1 ∧ 47 < slot) →
      exec (.writeSlotMapEntry r sel p) s = .next (s.replied r 2 .badValue 0)) ∧
    (st.state = .offline → i.val < 5 → set = 0 ∨ (set = 1 ∧ slot ≤ 95 ∧ div ∈ [1, 2, 4]) →
      ∃ m, exec (.writeSlotMapEntry r sel p) s = .next
          ((s.setStand k { st with map := m }).replied r 2 .done
            (if set = 0 then 0 else BitVec.ofNat 128 (1 + 256 * slot + 65536 * div))) ∧
        m.outboundEntries = st.map.outboundEntries ∧
        (∀ j : Nat, j ≠ i.val → m.returnEntries[j]? = st.map.returnEntries[j]?) ∧
        (∀ e, m.returnEntries[i.val]? = some e →
          (set = 0 → e = none) ∧
          (set = 1 → e.map (·.slot.val) = some slot ∧ e.map (·.divisor.value) = some div))) ∧
    (st.state = .offline → 5 ≤ i.val → set = 0 ∨ (set = 1 ∧ slot ≤ 47) →
      ∃ m, exec (.writeSlotMapEntry r sel p) s = .next
          ((s.setStand k { st with map := m }).replied r 2 .done
            (if set = 0 then 0 else BitVec.ofNat 128 (1 + 256 * slot))) ∧
        m.returnEntries = st.map.returnEntries ∧
        (∀ j : Nat, j ≠ i.val - 5 → m.outboundEntries[j]? = st.map.outboundEntries[j]?) ∧
        (∀ e, m.outboundEntries[i.val - 5]? = some e →
          (set = 0 → e = none) ∧ (set = 1 → e.map Fin.val = some slot)))

/-- R23, R25, R40, section 2.1: a write of the LINE map or the IMAGE map is refused NOT-OFFLINE while any
stand is in service and BAD-VALUE outside its values; an accepted LINE write puts the LINE signal in its
entry condition and S and the line increment to 0; an accepted IMAGE write changes that map alone. -/
def Obligations.GlobalMapWritesAreChecked : Prop :=
  ∀ (s : State) (r : Request) (k : StandId) (p : Payload), s.takesAt r k →
    let set := Payload.bytes p 0 1
    let b1 := Payload.bytes p 1 1
    let b2 := Payload.bytes p 2 1
    let lineOk := set = 0 ∨ (set = 1 ∧ b1 ≤ 95 ∧ b2 ∈ [1, 2, 4])
    let imageOk := set = 0 ∨ (set = 1 ∧ b1 ≤ 95 ∧ b2 ≤ 95 ∧ b1 ≠ b2)
    ((∃ j, (s.stand j).state ≠ .offline) →
      exec (.writeLineMap r 768 p) s = .next (s.replied r 2 .notOffline 0) ∧
      exec (.writeImageMap r 1024 p) s = .next (s.replied r 2 .notOffline 0)) ∧
    ((∀ j, (s.stand j).state = .offline) →
      (¬ lineOk → exec (.writeLineMap r 768 p) s = .next (s.replied r 2 .badValue 0)) ∧
      (¬ imageOk → exec (.writeImageMap r 1024 p) s = .next (s.replied r 2 .badValue 0)) ∧
      (lineOk → ∃ m, exec (.writeLineMap r 768 p) s = .next
          (State.replied { s with
            lineMap := m, line := ⟨⟨.waiting, 0, none⟩, none, []⟩, lineSpeed := 0, lineInc := 0 }
            r 2 .done (if set = 0 then 0 else BitVec.ofNat 128 (1 + 256 * b1 + 65536 * b2))) ∧
        (set = 0 → m = none) ∧
        (set = 1 → m.map (·.slot.val) = some b1 ∧ m.map (·.divisor.value) = some b2)) ∧
      (imageOk → ∃ m, exec (.writeImageMap r 1024 p) s = .next
          (State.replied { s with imageMap := m }
            r 2 .done (if set = 0 then 0 else BitVec.ofNat 128 (1 + 256 * b1 + 65536 * b2))) ∧
        (set = 0 → m = none) ∧
        (set = 1 → m.map (fun e => (e.1.val, e.2.val)) = some (b1, b2))))

/-- R138, R186, sections 7.6, 11.2 and 11.3: a grade table entry is written whole when caliper and band
lie in range, and refused BAD-VALUE otherwise; every 32-bit stagger length is taken; both in every state
of every stand, with no other entry, and no grant, changed. -/
def Obligations.TableWritesReplaceOneEntry : Prop :=
  ∀ (s : State) (r : Request) (k : StandId) (p : Payload), s.takesAt r k →
    (∀ i : Fin 16,
      let c := Payload.bytes p 0 1
      let b := Payload.bytes p 1 2
      (40 ≤ c ∧ c ≤ 150 ∧ b ≤ 500 →
        ∃ gr, exec (.writeGradeTableEntry r (BitVec.ofNat 16 (1280 + i.val)) p) s = .next
            (State.replied { s with grades := gr } r 2 .done (BitVec.ofNat 128 (c + 256 * b))) ∧
          gr[i] = ⟨c, b⟩ ∧ ∀ j : Fin 16, j ≠ i → gr[j] = s.grades[j]) ∧
      (¬ (40 ≤ c ∧ c ≤ 150 ∧ b ≤ 500) →
        exec (.writeGradeTableEntry r (BitVec.ofNat 16 (1280 + i.val)) p) s =
          .next (s.replied r 2 .badValue 0))) ∧
    (∀ g : GroupId,
      exec (.writeGroupTableEntry r (BitVec.ofNat 16 (1536 + g.val)) p) s = .next
        ((s.setGroup g { s.group g with stagger := (p.extractLsb' 0 32).toNat }).replied r 2 .done
          (BitVec.ofNat 128 (p.extractLsb' 0 32).toNat)))

/-- R13, R20, R169, section 1.11: decoding the service request field that encodes a well-formed request
gives the request back, with every operand at every value; only requests have such a field. Every field
decodes to a well-formed request, whose own field has the same target, kind and stand index and decodes to
the same; that a write of a class which has no row decodes to the row of class 1 is the model's choice
(log 17). -/
def Obligations.DecodeInvertsEncode : Prop :=
  (∀ (c : Instr) (h : BitVec 32) (p : Payload), encodeRequest c = some (h, p) → WellFormed c = true →
    decodeRequest h p = c) ∧
  (∀ c : Instr, (encodeRequest c).isSome = (requestOf c).isSome) ∧
  ∀ (h : BitVec 32) (p : Payload),
    WellFormed (decodeRequest h p) = true ∧
      ∃ h' p', encodeRequest (decodeRequest h p) = some (h', p') ∧
        h'.extractLsb' 0 13 = h.extractLsb' 0 13 ∧ decodeRequest h' p' = decodeRequest h p

/-- R1, R2, R20, section 1.11: the bytes of a return frame, and those of an outbound frame, decode to the
frame, with every slot, number, request and reply at every value. That an outbound frame is two commands,
its start marker and the request its last field carries, is the model's choice (log 6). -/
def Obligations.FrameBytesDecodeToFrame : Prop :=
  (∀ f : RetFrame, (retFrameBytes f).length = 502 ∧ decodeRetFrame (retFrameBytes f) = f) ∧
  ∀ f : OutFrame, (outFrameBytes f).length = 262 ∧ decodeOutFrame (outFrameBytes f) = f ∧
    outboundCommands (outFrameBytes f) =
      [.outboundStartMarker f,
        decodeRequest (f.request.extractLsb' 0 32) (f.request.extractLsb' 32 128)]

/-! ### What every step keeps -/

/-- R11, R85, R131, R175, R182, R189, sections 3 of the introduction and 7.4: the frame of the commands
that are about one stand. Another stand is changed only by a grant of the same group; another group is not
changed; link, tables, maps of the part, LINE signal and frames are not changed, but for a request, which
tells that its outbound frame has wholly passed (log 5); only CONFIRM_TIMEOUT writes the log. Whatever the
command, only a write of a parameter or of a map entry, or a reset, changes a stand's parameters or its map,
and only a release edge of its pin, a STAND-ONLINE, a STAND-OFFLINE or a reset changes its wait for a release
edge (log 13). The rows of events are taken alone (the model's reading, log 2). -/
def Obligations.CommandTouchesOneStand : Prop :=
  (∀ (c : Instr) (s t : State) (k : StandId), standOf c = some k → GroupsAgree s → DecisionsMade s →
    s.formed = [] → exec c s = .next t →
    t = { s with
        groups := t.groups, stands := t.stands, heldReply := t.heldReply, log := t.log
        overrun := t.overrun, freeIndex := t.freeIndex
        outPassing := s.outPassing && (requestOf c).isNone } ∧
      (∀ g, g ≠ s.groupOf k → t.group g = s.group g) ∧
      (t.group (s.groupOf k)).stagger = (s.group (s.groupOf k)).stagger ∧
      (∀ j, j ≠ k → t.stand j = s.stand j ∨
        ((s.stand j).requests = true ∧ s.groupOf j = s.groupOf k ∧
          ∃ g, t.stand j = { s.stand j with state := .firingPending, grant := some g })) ∧
      (c ≠ .confirmTimeout k → t.log = s.log ∧ t.overrun = s.overrun)) ∧
  ∀ (c : Instr) (s t : State) (k : StandId), exec c s = .next t →
    c ≠ .resetAssertion → (∀ a, c ≠ .resetRelease a) →
    ((∀ r sel p, c ≠ .writeStandParameter r sel p) → (t.stand k).params = (s.stand k).params) ∧
    ((∀ r sel p, c ≠ .writeSlotMapEntry r sel p) → (t.stand k).map = (s.stand k).map) ∧
    (c ≠ .inhibitPinRelease k → (∀ r sel p, c ≠ .standOnline r sel p) → (∀ r, c ≠ .standOffline r) →
      (t.stand k).awaitsRelease = (s.stand k).awaitsRelease)

/-- R36, R40, R41, R42, R48, R51, R64, R159, R182, R184, R186: a step takes the front command from the
queue and no other; no step takes the log above 32 entries, an occupancy above 6, a history above 17
entries, a speed, a rate or a caliper out of its range, or a parameter out of its range or its
relations. R10, R13, R14, R18, R19: no step leaves an outbound frame passing into which the part writes
(the model's own field, log 19) while RESET is asserted, without an address or a cycle, with the watch
disarmed, with a reply held, or with the return side decided. -/
def Obligations.StepKeepsBounds : Prop :=
  ∀ s t : State, step s = .next t →
    (∀ c rest, s.pending = c :: rest → t.pending = rest) ∧ (LogBounded s → LogBounded t) ∧
      (QueuesBounded s → QueuesBounded t) ∧ (HistoriesBounded s → HistoriesBounded t) ∧
      (RatesBounded s → RatesBounded t) ∧ (CalipersInRange s → CalipersInRange t) ∧
      (ParamsInRange s → ParamsInRange t) ∧ (ParamsLinked s → ParamsLinked t) ∧
      (PassingAgrees s → PassingAgrees t)

/-- R63: a roll ID other than 0 appears at most once in the part, whatever command is taken. -/
def Obligations.StepKeepsRollsUnique : Prop :=
  ∀ s t : State, RollsUnique s → step s = .next t → RollsUnique t

/-- R98, R128, R129, R131, R134: every step keeps the groups and the stands in agreement: a stand in
FIRING or CONFIRM holds its group, a holder is in FIRING or CONFIRM, and the requester set is that of
R129; within one folder group at most one stand is in FIRING or CONFIRM. No step leaves a decision due: no
FREE group keeps a requester, and no group in SPACING an urgent one. -/
def Obligations.StepKeepsGroupsAgree : Prop :=
  ∀ s t : State, GroupsAgree s → step s = .next t →
    GroupsAgree t ∧
      (∀ j k, (t.stand j).state ∈ [.firingPending, .firingIssued, .confirm] →
        (t.stand k).state ∈ [.firingPending, .firingIssued, .confirm] →
        t.groupOf j = t.groupOf k → j = k) ∧
      (DecisionsMade s → DecisionsMade t)

/-- R66, R67, R72, R73, R149, R150: while groups and stands agree, every step leaves each stand with the
contexts, record and plan of its state. -/
def Obligations.StepKeepsContextsAgree : Prop :=
  ∀ s t : State, GroupsAgree s → ContextsAgree s → step s = .next t → ContextsAgree t

/-- The part right after reset, with whatever address, is in a safe state. The address of State.reset and
the reset values of the model's own fields are the model's choices (log 1, log 19). -/
def Obligations.ResetIsSafe : Prop := SafeState .reset ∧ ∀ a : BitVec 5, SafeState (.afterReset a)
end

