-- ==== Sys2Proof/Laws/State.lean ====
section
/-!
SUPPORT. One lemma per field per update of the part's state, all true by computation, so that no later
proof unfolds a record update.
-/
namespace Sys2Proof.Machine

/-! ### A stand replaced -/

@[simp] theorem State.setStand_inReset (s : State) (k : StandId) (st : Stand) :
    (s.setStand k st).inReset = s.inReset := rfl

@[simp] theorem State.setStand_nodeAddr (s : State) (k : StandId) (st : Stand) :
    (s.setStand k st).nodeAddr = s.nodeAddr := rfl

@[simp] theorem State.setStand_lastCycle (s : State) (k : StandId) (st : Stand) :
    (s.setStand k st).lastCycle = s.lastCycle := rfl

@[simp] theorem State.setStand_engineCycle (s : State) (k : StandId) (st : Stand) :
    (s.setStand k st).engineCycle = s.engineCycle := rfl

@[simp] theorem State.setStand_watchArmed (s : State) (k : StandId) (st : Stand) :
    (s.setStand k st).watchArmed = s.watchArmed := rfl

@[simp] theorem State.setStand_linkLost (s : State) (k : StandId) (st : Stand) :
    (s.setStand k st).linkLost = s.linkLost := rfl

@[simp] theorem State.setStand_stepPending (s : State) (k : StandId) (st : Stand) :
    (s.setStand k st).stepPending = s.stepPending := rfl

@[simp] theorem State.setStand_returnDecided (s : State) (k : StandId) (st : Stand) :
    (s.setStand k st).returnDecided = s.returnDecided := rfl

@[simp] theorem State.setStand_inFlight (s : State) (k : StandId) (st : Stand) :
    (s.setStand k st).inFlight = s.inFlight := rfl

@[simp] theorem State.setStand_heldReply (s : State) (k : StandId) (st : Stand) :
    (s.setStand k st).heldReply = s.heldReply := rfl

@[simp] theorem State.setStand_imageCount (s : State) (k : StandId) (st : Stand) :
    (s.setStand k st).imageCount = s.imageCount := rfl

@[simp] theorem State.setStand_imageMap (s : State) (k : StandId) (st : Stand) :
    (s.setStand k st).imageMap = s.imageMap := rfl

@[simp] theorem State.setStand_imageActive (s : State) (k : StandId) (st : Stand) :
    (s.setStand k st).imageActive = s.imageActive := rfl

@[simp] theorem State.setStand_lineMap (s : State) (k : StandId) (st : Stand) :
    (s.setStand k st).lineMap = s.lineMap := rfl

@[simp] theorem State.setStand_line (s : State) (k : StandId) (st : Stand) :
    (s.setStand k st).line = s.line := rfl

@[simp] theorem State.setStand_lineSpeed (s : State) (k : StandId) (st : Stand) :
    (s.setStand k st).lineSpeed = s.lineSpeed := rfl

@[simp] theorem State.setStand_lineInc (s : State) (k : StandId) (st : Stand) :
    (s.setStand k st).lineInc = s.lineInc := rfl

@[simp] theorem State.setStand_grades (s : State) (k : StandId) (st : Stand) :
    (s.setStand k st).grades = s.grades := rfl

@[simp] theorem State.setStand_groups (s : State) (k : StandId) (st : Stand) :
    (s.setStand k st).groups = s.groups := rfl

@[simp] theorem State.setStand_log (s : State) (k : StandId) (st : Stand) :
    (s.setStand k st).log = s.log := rfl

@[simp] theorem State.setStand_overrun (s : State) (k : StandId) (st : Stand) :
    (s.setStand k st).overrun = s.overrun := rfl

@[simp] theorem State.setStand_formed (s : State) (k : StandId) (st : Stand) :
    (s.setStand k st).formed = s.formed := rfl

@[simp] theorem State.setStand_outFrame (s : State) (k : StandId) (st : Stand) :
    (s.setStand k st).outFrame = s.outFrame := rfl

@[simp] theorem State.setStand_outArrived (s : State) (k : StandId) (st : Stand) :
    (s.setStand k st).outArrived = s.outArrived := rfl

@[simp] theorem State.setStand_outPassing (s : State) (k : StandId) (st : Stand) :
    (s.setStand k st).outPassing = s.outPassing := rfl

@[simp] theorem State.setStand_retFrame (s : State) (k : StandId) (st : Stand) :
    (s.setStand k st).retFrame = s.retFrame := rfl

@[simp] theorem State.setStand_retArrived (s : State) (k : StandId) (st : Stand) :
    (s.setStand k st).retArrived = s.retArrived := rfl

@[simp] theorem State.setStand_freeIndex (s : State) (k : StandId) (st : Stand) :
    (s.setStand k st).freeIndex = s.freeIndex := rfl

@[simp] theorem State.setStand_pending (s : State) (k : StandId) (st : Stand) :
    (s.setStand k st).pending = s.pending := rfl

@[simp] theorem State.setStand_group (s : State) (k : StandId) (st : Stand) (g : GroupId) :
    (s.setStand k st).group g = s.group g := rfl

@[simp] theorem State.setStand_cycle (s : State) (k : StandId) (st : Stand) :
    (s.setStand k st).cycle = s.cycle := rfl

@[simp] theorem State.setStand_hasAddress (s : State) (k : StandId) (st : Stand) :
    (s.setStand k st).hasAddress = s.hasAddress := rfl

/-! ### A group replaced -/

@[simp] theorem State.setGroup_inReset (s : State) (g : GroupId) (v : Group) :
    (s.setGroup g v).inReset = s.inReset := rfl

@[simp] theorem State.setGroup_nodeAddr (s : State) (g : GroupId) (v : Group) :
    (s.setGroup g v).nodeAddr = s.nodeAddr := rfl

@[simp] theorem State.setGroup_lastCycle (s : State) (g : GroupId) (v : Group) :
    (s.setGroup g v).lastCycle = s.lastCycle := rfl

@[simp] theorem State.setGroup_engineCycle (s : State) (g : GroupId) (v : Group) :
    (s.setGroup g v).engineCycle = s.engineCycle := rfl

@[simp] theorem State.setGroup_watchArmed (s : State) (g : GroupId) (v : Group) :
    (s.setGroup g v).watchArmed = s.watchArmed := rfl

@[simp] theorem State.setGroup_linkLost (s : State) (g : GroupId) (v : Group) :
    (s.setGroup g v).linkLost = s.linkLost := rfl

@[simp] theorem State.setGroup_stepPending (s : State) (g : GroupId) (v : Group) :
    (s.setGroup g v).stepPending = s.stepPending := rfl

@[simp] theorem State.setGroup_returnDecided (s : State) (g : GroupId) (v : Group) :
    (s.setGroup g v).returnDecided = s.returnDecided := rfl

@[simp] theorem State.setGroup_inFlight (s : State) (g : GroupId) (v : Group) :
    (s.setGroup g v).inFlight = s.inFlight := rfl

@[simp] theorem State.setGroup_heldReply (s : State) (g : GroupId) (v : Group) :
    (s.setGroup g v).heldReply = s.heldReply := rfl

@[simp] theorem State.setGroup_imageCount (s : State) (g : GroupId) (v : Group) :
    (s.setGroup g v).imageCount = s.imageCount := rfl

@[simp] theorem State.setGroup_imageMap (s : State) (g : GroupId) (v : Group) :
    (s.setGroup g v).imageMap = s.imageMap := rfl

@[simp] theorem State.setGroup_imageActive (s : State) (g : GroupId) (v : Group) :
    (s.setGroup g v).imageActive = s.imageActive := rfl

@[simp] theorem State.setGroup_lineMap (s : State) (g : GroupId) (v : Group) :
    (s.setGroup g v).lineMap = s.lineMap := rfl

@[simp] theorem State.setGroup_line (s : State) (g : GroupId) (v : Group) :
    (s.setGroup g v).line = s.line := rfl

@[simp] theorem State.setGroup_lineSpeed (s : State) (g : GroupId) (v : Group) :
    (s.setGroup g v).lineSpeed = s.lineSpeed := rfl

@[simp] theorem State.setGroup_lineInc (s : State) (g : GroupId) (v : Group) :
    (s.setGroup g v).lineInc = s.lineInc := rfl

@[simp] theorem State.setGroup_grades (s : State) (g : GroupId) (v : Group) :
    (s.setGroup g v).grades = s.grades := rfl

@[simp] theorem State.setGroup_stands (s : State) (g : GroupId) (v : Group) :
    (s.setGroup g v).stands = s.stands := rfl

@[simp] theorem State.setGroup_log (s : State) (g : GroupId) (v : Group) :
    (s.setGroup g v).log = s.log := rfl

@[simp] theorem State.setGroup_overrun (s : State) (g : GroupId) (v : Group) :
    (s.setGroup g v).overrun = s.overrun := rfl

@[simp] theorem State.setGroup_formed (s : State) (g : GroupId) (v : Group) :
    (s.setGroup g v).formed = s.formed := rfl

@[simp] theorem State.setGroup_outFrame (s : State) (g : GroupId) (v : Group) :
    (s.setGroup g v).outFrame = s.outFrame := rfl

@[simp] theorem State.setGroup_outArrived (s : State) (g : GroupId) (v : Group) :
    (s.setGroup g v).outArrived = s.outArrived := rfl

@[simp] theorem State.setGroup_outPassing (s : State) (g : GroupId) (v : Group) :
    (s.setGroup g v).outPassing = s.outPassing := rfl

@[simp] theorem State.setGroup_retFrame (s : State) (g : GroupId) (v : Group) :
    (s.setGroup g v).retFrame = s.retFrame := rfl

@[simp] theorem State.setGroup_retArrived (s : State) (g : GroupId) (v : Group) :
    (s.setGroup g v).retArrived = s.retArrived := rfl

@[simp] theorem State.setGroup_freeIndex (s : State) (g : GroupId) (v : Group) :
    (s.setGroup g v).freeIndex = s.freeIndex := rfl

@[simp] theorem State.setGroup_pending (s : State) (g : GroupId) (v : Group) :
    (s.setGroup g v).pending = s.pending := rfl

@[simp] theorem State.setGroup_stand (s : State) (g : GroupId) (v : Group) (k : StandId) :
    (s.setGroup g v).stand k = s.stand k := rfl

@[simp] theorem State.setGroup_groupOf (s : State) (g : GroupId) (v : Group) (k : StandId) :
    (s.setGroup g v).groupOf k = s.groupOf k := rfl

@[simp] theorem State.setGroup_cycle (s : State) (g : GroupId) (v : Group) :
    (s.setGroup g v).cycle = s.cycle := rfl

/-! ### A reply held -/

@[simp] theorem State.replied_inReset (s : State) (r : Request) (kind : BitVec 4) (code : ReplyCode)
    (p : Payload) : (s.replied r kind code p).inReset = s.inReset := rfl

@[simp] theorem State.replied_nodeAddr (s : State) (r : Request) (kind : BitVec 4) (code : ReplyCode)
    (p : Payload) : (s.replied r kind code p).nodeAddr = s.nodeAddr := rfl

@[simp] theorem State.replied_lastCycle (s : State) (r : Request) (kind : BitVec 4) (code : ReplyCode)
    (p : Payload) : (s.replied r kind code p).lastCycle = s.lastCycle := rfl

@[simp] theorem State.replied_engineCycle (s : State) (r : Request) (kind : BitVec 4) (code : ReplyCode)
    (p : Payload) : (s.replied r kind code p).engineCycle = s.engineCycle := rfl

@[simp] theorem State.replied_watchArmed (s : State) (r : Request) (kind : BitVec 4) (code : ReplyCode)
    (p : Payload) : (s.replied r kind code p).watchArmed = s.watchArmed := rfl

@[simp] theorem State.replied_linkLost (s : State) (r : Request) (kind : BitVec 4) (code : ReplyCode)
    (p : Payload) : (s.replied r kind code p).linkLost = s.linkLost := rfl

@[simp] theorem State.replied_stepPending (s : State) (r : Request) (kind : BitVec 4) (code : ReplyCode)
    (p : Payload) : (s.replied r kind code p).stepPending = s.stepPending := rfl

@[simp] theorem State.replied_returnDecided (s : State) (r : Request) (kind : BitVec 4) (code : ReplyCode)
    (p : Payload) : (s.replied r kind code p).returnDecided = s.returnDecided := rfl

@[simp] theorem State.replied_inFlight (s : State) (r : Request) (kind : BitVec 4) (code : ReplyCode)
    (p : Payload) : (s.replied r kind code p).inFlight = s.inFlight := rfl

@[simp] theorem State.replied_imageCount (s : State) (r : Request) (kind : BitVec 4) (code : ReplyCode)
    (p : Payload) : (s.replied r kind code p).imageCount = s.imageCount := rfl

@[simp] theorem State.replied_imageMap (s : State) (r : Request) (kind : BitVec 4) (code : ReplyCode)
    (p : Payload) : (s.replied r kind code p).imageMap = s.imageMap := rfl

@[simp] theorem State.replied_imageActive (s : State) (r : Request) (kind : BitVec 4) (code : ReplyCode)
    (p : Payload) : (s.replied r kind code p).imageActive = s.imageActive := rfl

@[simp] theorem State.replied_lineMap (s : State) (r : Request) (kind : BitVec 4) (code : ReplyCode)
    (p : Payload) : (s.replied r kind code p).lineMap = s.lineMap := rfl

@[simp] theorem State.replied_line (s : State) (r : Request) (kind : BitVec 4) (code : ReplyCode)
    (p : Payload) : (s.replied r kind code p).line = s.line := rfl

@[simp] theorem State.replied_lineSpeed (s : State) (r : Request) (kind : BitVec 4) (code : ReplyCode)
    (p : Payload) : (s.replied r kind code p).lineSpeed = s.lineSpeed := rfl

@[simp] theorem State.replied_lineInc (s : State) (r : Request) (kind : BitVec 4) (code : ReplyCode)
    (p : Payload) : (s.replied r kind code p).lineInc = s.lineInc := rfl

@[simp] theorem State.replied_grades (s : State) (r : Request) (kind : BitVec 4) (code : ReplyCode)
    (p : Payload) : (s.replied r kind code p).grades = s.grades := rfl

@[simp] theorem State.replied_groups (s : State) (r : Request) (kind : BitVec 4) (code : ReplyCode)
    (p : Payload) : (s.replied r kind code p).groups = s.groups := rfl

@[simp] theorem State.replied_stands (s : State) (r : Request) (kind : BitVec 4) (code : ReplyCode)
    (p : Payload) : (s.replied r kind code p).stands = s.stands := rfl

@[simp] theorem State.replied_log (s : State) (r : Request) (kind : BitVec 4) (code : ReplyCode)
    (p : Payload) : (s.replied r kind code p).log = s.log := rfl

@[simp] theorem State.replied_overrun (s : State) (r : Request) (kind : BitVec 4) (code : ReplyCode)
    (p : Payload) : (s.replied r kind code p).overrun = s.overrun := rfl

@[simp] theorem State.replied_formed (s : State) (r : Request) (kind : BitVec 4) (code : ReplyCode)
    (p : Payload) : (s.replied r kind code p).formed = s.formed := rfl

@[simp] theorem State.replied_outFrame (s : State) (r : Request) (kind : BitVec 4) (code : ReplyCode)
    (p : Payload) : (s.replied r kind code p).outFrame = s.outFrame := rfl

@[simp] theorem State.replied_outArrived (s : State) (r : Request) (kind : BitVec 4) (code : ReplyCode)
    (p : Payload) : (s.replied r kind code p).outArrived = s.outArrived := rfl

@[simp] theorem State.replied_outPassing (s : State) (r : Request) (kind : BitVec 4) (code : ReplyCode)
    (p : Payload) : (s.replied r kind code p).outPassing = false := rfl

@[simp] theorem State.replied_retFrame (s : State) (r : Request) (kind : BitVec 4) (code : ReplyCode)
    (p : Payload) : (s.replied r kind code p).retFrame = s.retFrame := rfl

@[simp] theorem State.replied_retArrived (s : State) (r : Request) (kind : BitVec 4) (code : ReplyCode)
    (p : Payload) : (s.replied r kind code p).retArrived = s.retArrived := rfl

@[simp] theorem State.replied_freeIndex (s : State) (r : Request) (kind : BitVec 4) (code : ReplyCode)
    (p : Payload) : (s.replied r kind code p).freeIndex = s.freeIndex := rfl

@[simp] theorem State.replied_pending (s : State) (r : Request) (kind : BitVec 4) (code : ReplyCode)
    (p : Payload) : (s.replied r kind code p).pending = s.pending := rfl

@[simp] theorem State.replied_stand (s : State) (r : Request) (kind : BitVec 4) (code : ReplyCode)
    (p : Payload) (k : StandId) : (s.replied r kind code p).stand k = s.stand k := rfl

@[simp] theorem State.replied_group (s : State) (r : Request) (kind : BitVec 4) (code : ReplyCode)
    (p : Payload) (g : GroupId) : (s.replied r kind code p).group g = s.group g := rfl

/-! ### An entry formed, an entry joined -/

@[simp] theorem State.formEntry_inReset (s : State) (k : StandId) (x : LogOutcome) :
    (s.formEntry k x).inReset = s.inReset := rfl

@[simp] theorem State.formEntry_nodeAddr (s : State) (k : StandId) (x : LogOutcome) :
    (s.formEntry k x).nodeAddr = s.nodeAddr := rfl

@[simp] theorem State.formEntry_lastCycle (s : State) (k : StandId) (x : LogOutcome) :
    (s.formEntry k x).lastCycle = s.lastCycle := rfl

@[simp] theorem State.formEntry_engineCycle (s : State) (k : StandId) (x : LogOutcome) :
    (s.formEntry k x).engineCycle = s.engineCycle := rfl

@[simp] theorem State.formEntry_watchArmed (s : State) (k : StandId) (x : LogOutcome) :
    (s.formEntry k x).watchArmed = s.watchArmed := rfl

@[simp] theorem State.formEntry_linkLost (s : State) (k : StandId) (x : LogOutcome) :
    (s.formEntry k x).linkLost = s.linkLost := rfl

@[simp] theorem State.formEntry_stepPending (s : State) (k : StandId) (x : LogOutcome) :
    (s.formEntry k x).stepPending = s.stepPending := rfl

@[simp] theorem State.formEntry_returnDecided (s : State) (k : StandId) (x : LogOutcome) :
    (s.formEntry k x).returnDecided = s.returnDecided := rfl

@[simp] theorem State.formEntry_inFlight (s : State) (k : StandId) (x : LogOutcome) :
    (s.formEntry k x).inFlight = s.inFlight := rfl

@[simp] theorem State.formEntry_heldReply (s : State) (k : StandId) (x : LogOutcome) :
    (s.formEntry k x).heldReply = s.heldReply := rfl

@[simp] theorem State.formEntry_imageCount (s : State) (k : StandId) (x : LogOutcome) :
    (s.formEntry k x).imageCount = s.imageCount := rfl

@[simp] theorem State.formEntry_imageMap (s : State) (k : StandId) (x : LogOutcome) :
    (s.formEntry k x).imageMap = s.imageMap := rfl

@[simp] theorem State.formEntry_imageActive (s : State) (k : StandId) (x : LogOutcome) :
    (s.formEntry k x).imageActive = s.imageActive := rfl

@[simp] theorem State.formEntry_lineMap (s : State) (k : StandId) (x : LogOutcome) :
    (s.formEntry k x).lineMap = s.lineMap := rfl

@[simp] theorem State.formEntry_line (s : State) (k : StandId) (x : LogOutcome) :
    (s.formEntry k x).line = s.line := rfl

@[simp] theorem State.formEntry_lineSpeed (s : State) (k : StandId) (x : LogOutcome) :
    (s.formEntry k x).lineSpeed = s.lineSpeed := rfl

@[simp] theorem State.formEntry_lineInc (s : State) (k : StandId) (x : LogOutcome) :
    (s.formEntry k x).lineInc = s.lineInc := rfl

@[simp] theorem State.formEntry_grades (s : State) (k : StandId) (x : LogOutcome) :
    (s.formEntry k x).grades = s.grades := rfl

@[simp] theorem State.formEntry_groups (s : State) (k : StandId) (x : LogOutcome) :
    (s.formEntry k x).groups = s.groups := rfl

@[simp] theorem State.formEntry_stands (s : State) (k : StandId) (x : LogOutcome) :
    (s.formEntry k x).stands = s.stands := rfl

@[simp] theorem State.formEntry_log (s : State) (k : StandId) (x : LogOutcome) :
    (s.formEntry k x).log = s.log := rfl

@[simp] theorem State.formEntry_overrun (s : State) (k : StandId) (x : LogOutcome) :
    (s.formEntry k x).overrun = s.overrun := rfl

@[simp] theorem State.formEntry_outFrame (s : State) (k : StandId) (x : LogOutcome) :
    (s.formEntry k x).outFrame = s.outFrame := rfl

@[simp] theorem State.formEntry_outArrived (s : State) (k : StandId) (x : LogOutcome) :
    (s.formEntry k x).outArrived = s.outArrived := rfl

@[simp] theorem State.formEntry_outPassing (s : State) (k : StandId) (x : LogOutcome) :
    (s.formEntry k x).outPassing = s.outPassing := rfl

@[simp] theorem State.formEntry_retFrame (s : State) (k : StandId) (x : LogOutcome) :
    (s.formEntry k x).retFrame = s.retFrame := rfl

@[simp] theorem State.formEntry_retArrived (s : State) (k : StandId) (x : LogOutcome) :
    (s.formEntry k x).retArrived = s.retArrived := rfl

@[simp] theorem State.formEntry_freeIndex (s : State) (k : StandId) (x : LogOutcome) :
    (s.formEntry k x).freeIndex = s.freeIndex := rfl

@[simp] theorem State.formEntry_pending (s : State) (k : StandId) (x : LogOutcome) :
    (s.formEntry k x).pending = s.pending := rfl

@[simp] theorem State.appendEntry_inReset (s : State) (e : LogEntry) :
    (s.appendEntry e).inReset = s.inReset := rfl

@[simp] theorem State.appendEntry_nodeAddr (s : State) (e : LogEntry) :
    (s.appendEntry e).nodeAddr = s.nodeAddr := rfl

@[simp] theorem State.appendEntry_lastCycle (s : State) (e : LogEntry) :
    (s.appendEntry e).lastCycle = s.lastCycle := rfl

@[simp] theorem State.appendEntry_engineCycle (s : State) (e : LogEntry) :
    (s.appendEntry e).engineCycle = s.engineCycle := rfl

@[simp] theorem State.appendEntry_watchArmed (s : State) (e : LogEntry) :
    (s.appendEntry e).watchArmed = s.watchArmed := rfl

@[simp] theorem State.appendEntry_linkLost (s : State) (e : LogEntry) :
    (s.appendEntry e).linkLost = s.linkLost := rfl

@[simp] theorem State.appendEntry_stepPending (s : State) (e : LogEntry) :
    (s.appendEntry e).stepPending = s.stepPending := rfl

@[simp] theorem State.appendEntry_returnDecided (s : State) (e : LogEntry) :
    (s.appendEntry e).returnDecided = s.returnDecided := rfl

@[simp] theorem State.appendEntry_inFlight (s : State) (e : LogEntry) :
    (s.appendEntry e).inFlight = s.inFlight := rfl

@[simp] theorem State.appendEntry_heldReply (s : State) (e : LogEntry) :
    (s.appendEntry e).heldReply = s.heldReply := rfl

@[simp] theorem State.appendEntry_imageCount (s : State) (e : LogEntry) :
    (s.appendEntry e).imageCount = s.imageCount := rfl

@[simp] theorem State.appendEntry_imageMap (s : State) (e : LogEntry) :
    (s.appendEntry e).imageMap = s.imageMap := rfl

@[simp] theorem State.appendEntry_imageActive (s : State) (e : LogEntry) :
    (s.appendEntry e).imageActive = s.imageActive := rfl

@[simp] theorem State.appendEntry_lineMap (s : State) (e : LogEntry) :
    (s.appendEntry e).lineMap = s.lineMap := rfl

@[simp] theorem State.appendEntry_line (s : State) (e : LogEntry) :
    (s.appendEntry e).line = s.line := rfl

@[simp] theorem State.appendEntry_lineSpeed (s : State) (e : LogEntry) :
    (s.appendEntry e).lineSpeed = s.lineSpeed := rfl

@[simp] theorem State.appendEntry_lineInc (s : State) (e : LogEntry) :
    (s.appendEntry e).lineInc = s.lineInc := rfl

@[simp] theorem State.appendEntry_grades (s : State) (e : LogEntry) :
    (s.appendEntry e).grades = s.grades := rfl

@[simp] theorem State.appendEntry_groups (s : State) (e : LogEntry) :
    (s.appendEntry e).groups = s.groups := rfl

@[simp] theorem State.appendEntry_stands (s : State) (e : LogEntry) :
    (s.appendEntry e).stands = s.stands := rfl

@[simp] theorem State.appendEntry_formed (s : State) (e : LogEntry) :
    (s.appendEntry e).formed = s.formed := rfl

@[simp] theorem State.appendEntry_outFrame (s : State) (e : LogEntry) :
    (s.appendEntry e).outFrame = s.outFrame := rfl

@[simp] theorem State.appendEntry_outArrived (s : State) (e : LogEntry) :
    (s.appendEntry e).outArrived = s.outArrived := rfl

@[simp] theorem State.appendEntry_outPassing (s : State) (e : LogEntry) :
    (s.appendEntry e).outPassing = s.outPassing := rfl

@[simp] theorem State.appendEntry_retFrame (s : State) (e : LogEntry) :
    (s.appendEntry e).retFrame = s.retFrame := rfl

@[simp] theorem State.appendEntry_retArrived (s : State) (e : LogEntry) :
    (s.appendEntry e).retArrived = s.retArrived := rfl

@[simp] theorem State.appendEntry_freeIndex (s : State) (e : LogEntry) :
    (s.appendEntry e).freeIndex = s.freeIndex := rfl

@[simp] theorem State.appendEntry_pending (s : State) (e : LogEntry) :
    (s.appendEntry e).pending = s.pending := rfl

/-! ### An arm replaced -/

@[simp] theorem Stand.setArm_params (st : Stand) (x : Arm) (v : ArmState) :
    (st.setArm x v).params = st.params := by cases x <;> rfl

@[simp] theorem Stand.setArm_map (st : Stand) (x : Arm) (v : ArmState) :
    (st.setArm x v).map = st.map := by cases x <;> rfl

@[simp] theorem Stand.setArm_queue (st : Stand) (x : Arm) (v : ArmState) :
    (st.setArm x v).queue = st.queue := by cases x <;> rfl

@[simp] theorem Stand.setArm_pinAsserted (st : Stand) (x : Arm) (v : ArmState) :
    (st.setArm x v).pinAsserted = st.pinAsserted := by cases x <;> rfl

@[simp] theorem Stand.setArm_awaitsRelease (st : Stand) (x : Arm) (v : ArmState) :
    (st.setArm x v).awaitsRelease = st.awaitsRelease := by cases x <;> rfl

@[simp] theorem Stand.setArm_pinSettled (st : Stand) (x : Arm) (v : ArmState) :
    (st.setArm x v).pinSettled = st.pinSettled := by cases x <;> rfl

@[simp] theorem Stand.setArm_state (st : Stand) (x : Arm) (v : ArmState) :
    (st.setArm x v).state = st.state := by cases x <;> rfl

@[simp] theorem Stand.setArm_runningArm (st : Stand) (x : Arm) (v : ArmState) :
    (st.setArm x v).runningArm = st.runningArm := by cases x <;> rfl

@[simp] theorem Stand.setArm_requestInhibit (st : Stand) (x : Arm) (v : ArmState) :
    (st.setArm x v).requestInhibit = st.requestInhibit := by cases x <;> rfl

@[simp] theorem Stand.setArm_forced (st : Stand) (x : Arm) (v : ArmState) :
    (st.setArm x v).forced = st.forced := by cases x <;> rfl

@[simp] theorem Stand.setArm_braking (st : Stand) (x : Arm) (v : ArmState) :
    (st.setArm x v).braking = st.braking := by cases x <;> rfl

@[simp] theorem Stand.setArm_accelTimer (st : Stand) (x : Arm) (v : ArmState) :
    (st.setArm x v).accelTimer = st.accelTimer := by cases x <;> rfl

@[simp] theorem Stand.setArm_claimLost (st : Stand) (x : Arm) (v : ArmState) :
    (st.setArm x v).claimLost = st.claimLost := by cases x <;> rfl

@[simp] theorem Stand.setArm_linkLoss (st : Stand) (x : Arm) (v : ArmState) :
    (st.setArm x v).linkLoss = st.linkLoss := by cases x <;> rfl

@[simp] theorem Stand.setArm_counts (st : Stand) (x : Arm) (v : ArmState) :
    (st.setArm x v).counts = st.counts := by cases x <;> rfl

@[simp] theorem Stand.setArm_status (st : Stand) (x : Arm) (v : ArmState) :
    (st.setArm x v).status = st.status := by cases x <;> rfl

@[simp] theorem Stand.setArm_watch (st : Stand) (x : Arm) (v : ArmState) :
    (st.setArm x v).watch = st.watch := by cases x <;> rfl

@[simp] theorem Stand.setArm_window (st : Stand) (x : Arm) (v : ArmState) :
    (st.setArm x v).window = st.window := by cases x <;> rfl

@[simp] theorem Stand.setArm_acceptOpen (st : Stand) (x : Arm) (v : ArmState) :
    (st.setArm x v).acceptOpen = st.acceptOpen := by cases x <;> rfl

@[simp] theorem Stand.setArm_lRem (st : Stand) (x : Arm) (v : ArmState) :
    (st.setArm x v).lRem = st.lRem := by cases x <;> rfl

@[simp] theorem Stand.setArm_tTs (st : Stand) (x : Arm) (v : ArmState) :
    (st.setArm x v).tTs = st.tTs := by cases x <;> rfl

@[simp] theorem Stand.setArm_stepUrgent (st : Stand) (x : Arm) (v : ArmState) :
    (st.setArm x v).stepUrgent = st.stepUrgent := by cases x <;> rfl

@[simp] theorem Stand.setArm_gaugeWindow (st : Stand) (x : Arm) (v : ArmState) :
    (st.setArm x v).gaugeWindow = st.gaugeWindow := by cases x <;> rfl

@[simp] theorem Stand.setArm_lastDg (st : Stand) (x : Arm) (v : ArmState) :
    (st.setArm x v).lastDg = st.lastDg := by cases x <;> rfl

@[simp] theorem Stand.setArm_sNew (st : Stand) (x : Arm) (v : ArmState) :
    (st.setArm x v).sNew = st.sNew := by cases x <;> rfl

@[simp] theorem Stand.setArm_running (st : Stand) (x : Arm) (v : ArmState) :
    (st.setArm x v).running = st.running := by cases x <;> rfl

@[simp] theorem Stand.setArm_ready (st : Stand) (x : Arm) (v : ArmState) :
    (st.setArm x v).ready = st.ready := by cases x <;> rfl

@[simp] theorem Stand.setArm_mountPending (st : Stand) (x : Arm) (v : ArmState) :
    (st.setArm x v).mountPending = st.mountPending := by cases x <;> rfl

@[simp] theorem Stand.setArm_sched (st : Stand) (x : Arm) (v : ArmState) :
    (st.setArm x v).sched = st.sched := by cases x <;> rfl

@[simp] theorem Stand.setArm_requestStart (st : Stand) (x : Arm) (v : ArmState) :
    (st.setArm x v).requestStart = st.requestStart := by cases x <;> rfl

@[simp] theorem Stand.setArm_grant (st : Stand) (x : Arm) (v : ArmState) :
    (st.setArm x v).grant = st.grant := by cases x <;> rfl

@[simp] theorem Stand.setArm_kept (st : Stand) (x : Arm) (v : ArmState) :
    (st.setArm x v).kept = st.kept := by cases x <;> rfl

@[simp] theorem Stand.setArm_record (st : Stand) (x : Arm) (v : ArmState) :
    (st.setArm x v).record = st.record := by cases x <;> rfl

@[simp] theorem Stand.arm_setArm_same (st : Stand) (x : Arm) (v : ArmState) :
    (st.setArm x v).arm x = v := by cases x <;> rfl

@[simp] theorem Stand.arm_setArm_other (st : Stand) (x : Arm) (v : ArmState) :
    (st.setArm x v).arm (otherArm x) = st.arm (otherArm x) := by cases x <;> rfl

@[simp] theorem otherArm_otherArm (x : Arm) : otherArm (otherArm x) = x := by cases x <;> rfl

theorem otherArm_ne (x : Arm) : otherArm x ≠ x := by cases x <;> decide

@[simp] theorem Stand.setArm_readyArm (st : Stand) (x : Arm) (v : ArmState) :
    (st.setArm x v).readyArm = st.readyArm := by cases x <;> rfl

/-! ### Requesters -/

@[simp] theorem Group.add_grant (v : Group) (k : StandId) : (v.add k).grant = v.grant := rfl

@[simp] theorem Group.add_stagger (v : Group) (k : StandId) : (v.add k).stagger = v.stagger := rfl

@[simp] theorem Group.remove_grant (v : Group) (k : StandId) : (v.remove k).grant = v.grant := rfl

@[simp] theorem Group.remove_stagger (v : Group) (k : StandId) : (v.remove k).stagger = v.stagger := rfl

@[simp] theorem Group.toSpacing_requesters (v : Group) (b : Bool) :
    (v.toSpacing b).requesters = v.requesters := rfl

@[simp] theorem Group.toSpacing_stagger (v : Group) (b : Bool) : (v.toSpacing b).stagger = v.stagger :=
  rfl

end Sys2Proof.Machine
end

