-- ==== Sys2Proof/Laws/Ops.lean ====
section
/-!
SUPPORT. For each shared operation a lemma that says once everything it can do; proofs cite these and do
not unfold the operation.
-/
namespace Sys2Proof.Machine

/-! ### Stands and groups of the part -/

theorem State.stand_setStand (s : State) (k j : StandId) (st : Stand) :
    (s.setStand k st).stand j = if j = k then st else s.stand j := by
  unfold State.stand State.setStand
  by_cases h : j = k
  · subst h; simp
  · have : ¬ k.val = j.val := fun e => h (Fin.ext e.symm)
    simp [h, this]

@[simp] theorem State.stand_setStand_same (s : State) (k : StandId) (st : Stand) :
    (s.setStand k st).stand k = st := by simp [State.stand_setStand]

theorem State.stand_setStand_other (s : State) {k j : StandId} (st : Stand) (h : j ≠ k) :
    (s.setStand k st).stand j = s.stand j := by simp [State.stand_setStand, h]

theorem State.group_setGroup (s : State) (g h : GroupId) (v : Group) :
    (s.setGroup g v).group h = if h = g then v else s.group h := by
  unfold State.group State.setGroup
  by_cases e : h = g
  · subst e; simp
  · have : ¬ g.val = h.val := fun x => e (Fin.ext x.symm)
    simp [e, this]

@[simp] theorem State.group_setGroup_same (s : State) (g : GroupId) (v : Group) :
    (s.setGroup g v).group g = v := by simp [State.group_setGroup]

theorem State.group_setGroup_other (s : State) {g h : GroupId} (v : Group) (e : h ≠ g) :
    (s.setGroup g v).group h = s.group h := by simp [State.group_setGroup, e]

@[simp] theorem State.setStand_setStand (s : State) (k : StandId) (x y : Stand) :
    (s.setStand k x).setStand k y = s.setStand k y := by
  simp [State.setStand]

@[simp] theorem State.setStand_stand (s : State) (k : StandId) : s.setStand k (s.stand k) = s := by
  simp [State.setStand, State.stand]

@[simp] theorem State.setGroup_group (s : State) (g : GroupId) : s.setGroup g (s.group g) = s := by
  simp [State.setGroup, State.group]

/-- Two lists of stands that agree stand by stand are equal. -/
theorem State.stands_ext {s t : State} (h : ∀ k, s.stand k = t.stand k) : s.stands = t.stands := by
  apply Vector.ext
  intro i hi
  exact h ⟨i, hi⟩

/-- Two lists of groups that agree group by group are equal. -/
theorem State.groups_ext {s t : State} (h : ∀ g, s.group g = t.group g) : s.groups = t.groups := by
  apply Vector.ext
  intro i hi
  exact h ⟨i, hi⟩

theorem mem_allStands (k : StandId) : k ∈ allStands := by revert k; decide

theorem mem_allGroups (g : GroupId) : g ∈ allGroups := by revert g; decide

theorem allStands_nodup : allStands.Nodup := by decide

theorem State.modStand_eq (s : State) (k : StandId) (f : Stand → Stand) :
    s.modStand k f = s.setStand k (f (s.stand k)) := rfl

theorem State.stand_modStand (s : State) (k j : StandId) (f : Stand → Stand) :
    (s.modStand k f).stand j = if j = k then f (s.stand k) else s.stand j := by
  simp [State.modStand_eq, State.stand_setStand]

/-- A change of each stand of a list by its own function, each stand once. -/
theorem State.stand_foldl_modStand (f : StandId → Stand → Stand) (l : List StandId) (hl : l.Nodup)
    (s : State) (j : StandId) :
    (l.foldl (fun t k => t.modStand k (f k)) s).stand j =
      if j ∈ l then f j (s.stand j) else s.stand j := by
  induction l generalizing s with
  | nil => simp
  | cons a l ih =>
    have ha : a ∉ l := (List.nodup_cons.mp hl).1
    rw [List.foldl_cons, ih (List.nodup_cons.mp hl).2]
    by_cases hj : j = a
    · subst hj; simp [ha, State.stand_modStand]
    · simp [hj, State.stand_modStand]

/-- The same, of every stand. -/
theorem State.stand_foldl_allStands (f : StandId → Stand → Stand) (s : State) (j : StandId) :
    (allStands.foldl (fun t k => t.modStand k (f k)) s).stand j = f j (s.stand j) := by
  rw [State.stand_foldl_modStand f allStands allStands_nodup, if_pos (mem_allStands j)]

/-- A change of stands changes nothing but the stands. -/
theorem State.foldl_modStand_frame (f : StandId → Stand → Stand) (l : List StandId) (s : State) :
    l.foldl (fun t k => t.modStand k (f k)) s =
      { s with stands := (l.foldl (fun t k => t.modStand k (f k)) s).stands } := by
  induction l generalizing s with
  | nil => rfl
  | cons a l ih =>
    rw [List.foldl_cons, ih]
    rfl

/-! ### Arithmetic -/

/-- Division that rounds half up is what the conventions say. -/
theorem roundDiv_isRounded (n d : Nat) (hd : 0 < d) : IsRounded n d (roundDiv n d) := by
  unfold IsRounded roundDiv
  have h1 : d * ((n + d / 2) / d) ≤ n + d / 2 := Nat.mul_div_le _ _
  have h2 : n + d / 2 < d * ((n + d / 2) / d + 1) := Nat.lt_mul_div_succ _ hd
  constructor
  · rw [Nat.mul_assoc]; omega
  · rw [Nat.mul_assoc]; omega

/-- A quotient rounded half up is unique. -/
theorem IsRounded.unique {n d q r : Nat} (hq : IsRounded n d q) (hr : IsRounded n d r) : q = r := by
  obtain ⟨a, b⟩ := hq
  obtain ⟨c, e⟩ := hr
  have h1 : 2 * d * q < 2 * d * (r + 1) := by omega
  have h2 : 2 * d * r < 2 * d * (q + 1) := by omega
  have h3 := Nat.lt_of_mul_lt_mul_left h1
  have h4 := Nat.lt_of_mul_lt_mul_left h2
  omega

/-- The rounded quotient is the one the conventions describe. -/
theorem IsRounded.eq_roundDiv {n d q : Nat} (hd : 0 < d) (h : IsRounded n d q) : q = roundDiv n d :=
  h.unique (roundDiv_isRounded n d hd)

theorem absDiff_le_iff (a b t : Nat) : absDiff a b ≤ t ↔ a ≤ b + t ∧ b ≤ a + t := by
  unfold absDiff; omega

/-! ### Requester sets -/

theorem Group.has_add (v : Group) (k j : StandId) : (v.add k).has j = (v.has j || decide (j = k)) := by
  revert k j
  unfold Group.has Group.add
  simp only
  generalize v.requesters = r
  revert r
  decide +kernel

theorem Group.has_remove (v : Group) (k j : StandId) :
    (v.remove k).has j = (v.has j && !decide (j = k)) := by
  revert k j
  unfold Group.has Group.remove
  simp only
  generalize v.requesters = r
  revert r
  decide +kernel

/-! ### Leaving a group, refreshing a request -/

/-- Leaving a state changes nothing but the stand's own group. -/
theorem State.leaveGroup_frame (s : State) (k : StandId) :
    s.leaveGroup k = s.setGroup (s.groupOf k) ((s.leaveGroup k).group (s.groupOf k)) := by
  unfold State.leaveGroup
  split <;> simp

@[simp] theorem State.leaveGroup_stand (s : State) (k j : StandId) :
    (s.leaveGroup k).stand j = s.stand j := by
  rw [State.leaveGroup_frame]; rfl

theorem State.leaveGroup_group_other (s : State) (k : StandId) {g : GroupId} (h : g ≠ s.groupOf k) :
    (s.leaveGroup k).group g = s.group g := by
  rw [State.leaveGroup_frame]; exact State.group_setGroup_other _ _ h

/-- Outside MATCHED a stand's request is not touched. -/
theorem State.refreshRequest_of_not_matched (s : State) (k : StandId) (h : (s.stand k).state ≠ .matched) :
    s.refreshRequest k = s := by
  unfold State.refreshRequest; simp [h]

/-- In MATCHED a stand that requests joins the set, with its request start kept or taken. -/
theorem State.refreshRequest_of_requests (s : State) (k : StandId) (h : (s.stand k).state = .matched)
    (hr : (s.stand k).requests = true) :
    s.refreshRequest k =
      (s.setStand k
        { s.stand k with requestStart := some ((s.stand k).requestStart.getD s.cycle) }).setGroup
          (s.groupOf k) ((s.group (s.groupOf k)).add k) := by
  unfold State.refreshRequest; simp [h, hr]

/-- In MATCHED a stand that does not request leaves the set. -/
theorem State.refreshRequest_of_not_requests (s : State) (k : StandId)
    (h : (s.stand k).state = .matched) (hr : (s.stand k).requests = false) :
    s.refreshRequest k = s.setGroup (s.groupOf k) ((s.group (s.groupOf k)).remove k) := by
  unfold State.refreshRequest; simp [h, hr]

/-! ### Grant decisions -/

/-- A decision grants the chosen stand or does nothing. -/
theorem State.decideGroup_cases (s : State) (g : GroupId) :
    (s.chosen g = none ∧ s.decideGroup g = s) ∨
      ∃ k, s.chosen g = some k ∧ s.decideGroup g = s.grantTo g k := by
  unfold State.decideGroup
  cases h : s.chosen g with
  | none => exact .inl ⟨rfl, rfl⟩
  | some k => exact .inr ⟨k, rfl, rfl⟩

/-- The stand a decision grants is a requester the group may grant. -/
theorem State.foldl_better_mem (s : State) (l : List StandId) (b : Option StandId) (k : StandId)
    (h : l.foldl s.better b = some k) : k ∈ l ∨ b = some k := by
  induction l generalizing b with
  | nil => exact .inr h
  | cons a l ih =>
    rw [List.foldl_cons] at h
    rcases ih _ h with h1 | h1
    · exact .inl (List.mem_cons_of_mem _ h1)
    · unfold State.better at h1
      split at h1
      · cases h1; exact .inl List.mem_cons_self
      · split at h1
        · cases h1; exact .inl List.mem_cons_self
        · exact .inr h1

theorem State.chosen_mayGrant (s : State) (g : GroupId) (k : StandId) (h : s.chosen g = some k) :
    s.mayGrant g k = true := by
  rcases s.foldl_better_mem _ _ _ h with h1 | h1
  · exact (List.mem_filter.mp h1).2
  · cases h1

theorem State.grantTo_stand (s : State) (g : GroupId) (k j : StandId) :
    (s.grantTo g k).stand j =
      if j = k then
        { s.stand k with state := .firingPending, grant := some ⟨s.staggerWait k, (s.stand k).urgent⟩ }
      else s.stand j := by
  unfold State.grantTo; rw [State.stand_setStand]; rfl

theorem State.grantTo_group (s : State) (g h : GroupId) (k : StandId) :
    (s.grantTo g k).group h =
      if h = g then { (s.group g).remove k with grant := .held k } else s.group h := by
  unfold State.grantTo; rw [State.setStand_group, State.group_setGroup]

/-- Events that leave a group as it was take no decision of it. -/
theorem State.decideChangedGroup_of_same (b s : State) (g : GroupId) (h : b.group g = s.group g) :
    State.decideChangedGroup b s g = s := by
  unfold State.decideChangedGroup; simp [h]

/-- Events that leave every group as it was take no decision. -/
theorem State.decideChanged_of_same (b s : State) (h : ∀ g, b.group g = s.group g) :
    State.decideChanged b s = s := by
  simp [State.decideChanged, allGroups, State.decideChangedGroup_of_same, h]

@[simp] theorem State.decideChanged_self (s : State) : State.decideChanged s s = s :=
  State.decideChanged_of_same s s fun _ => rfl

/-! ### The splice log -/

theorem pushEntry_length (l : List LogEntry) (e : LogEntry) (h : l.length ≤ 32) :
    (pushEntry l e).length ≤ 32 := by
  unfold pushEntry; split <;> simp <;> omega

/-- With nothing formed, nothing joins. -/
theorem State.joinLog_of_formed_nil (s : State) (h : s.formed = []) : s.joinLog = s := by
  unfold State.joinLog
  rw [h]
  cases s
  simp_all [sortKeyed]

/-- Joining changes the log, its overrun flag and the entries that waited, and nothing else. -/
theorem State.foldl_appendEntry_frame (l : List LogEntry) (s : State) :
    l.foldl State.appendEntry s =
      { s with log := (l.foldl State.appendEntry s).log
               overrun := (l.foldl State.appendEntry s).overrun } := by
  induction l generalizing s with
  | nil => rfl
  | cons a l ih => rw [List.foldl_cons, ih]; rfl

theorem State.joinLog_frame (s : State) :
    s.joinLog = { s with log := s.joinLog.log, overrun := s.joinLog.overrun, formed := [] } := by
  unfold State.joinLog
  rw [State.foldl_appendEntry_frame]

/-! ### Reel contexts -/

/-- A return to the head moves the record and keeps the occupancy (R64). -/
theorem Stand.returnToHead_occupancy (st : Stand) : st.returnToHead.occupancy = st.occupancy := by
  unfold Stand.returnToHead
  split
  · rename_i r h
    split
    · rfl
    · rename_i hs
      simp [Stand.occupancy, Stand.holdsReturnable, h, hs]
  · rfl

/-- A return to the head changes queue, ready context, S_new and gauge window only. -/
theorem Stand.returnToHead_frame (st : Stand) :
    st.returnToHead =
      { st with
        queue := st.returnToHead.queue
        ready := st.returnToHead.ready
        sNew := st.returnToHead.sNew
        gaugeWindow := st.returnToHead.gaugeWindow } := by
  unfold Stand.returnToHead
  split
  · split <;> rfl
  · rfl

/-- Binding keeps the occupancy of a stand without a returnable context (R64). -/
theorem Stand.bindHead_occupancy (st : Stand) (waits : Bool) (h : st.holdsReturnable = false) :
    (st.bindHead waits).occupancy = st.occupancy := by
  unfold Stand.bindHead
  split
  · rename_i r rest hq
    simp [Stand.occupancy, Stand.holdsReturnable, hq] at *
    simp [h]
  · rfl

/-! ### Taking a fault -/

/-- An OFFLINE stand takes no fault. -/
theorem State.takeFault_of_offline (s : State) (k : StandId) (kind : FaultKind) (g : Option StaleSignal)
    (h : (s.stand k).state = .offline) : s.takeFault k kind g = s := by
  unfold State.takeFault; rw [h]

/-- A fault of a stand in FAULT is a further fault. -/
theorem State.takeFault_of_fault (s : State) (k : StandId) (kind : FaultKind) (g : Option StaleSignal)
    (h : (s.stand k).state = .fault) : s.takeFault k kind g = s.modStand k Stand.markFurther := by
  unfold State.takeFault; rw [h]

/-- Any other stand forms its entry, leaves its group and enters FAULT. -/
theorem State.takeFault_of_service (s : State) (k : StandId) (kind : FaultKind) (g : Option StaleSignal)
    (h1 : (s.stand k).state ≠ .offline) (h2 : (s.stand k).state ≠ .fault) :
    s.takeFault k kind g =
      (State.leaveGroup (if (s.stand k).state.afterFire then s.formEntry k kind.outcome else s)
        k).modStand k fun st => st.enterFault kind s.cycle g := by
  unfold State.takeFault
  split <;> first | rfl | contradiction

/-! ### Frames that are passing -/

/-- R187: each byte of a cut frame: as written, partly passed, or as it arrived. -/
theorem byteAt_cutBytes (m : Passed) (w a : List Byte) (h : w.length = a.length) (i : Nat) :
    byteAt (cutBytes m w a) i =
      if i < m.bytes then byteAt w i
      else if i = m.bytes then cutByte m.bits (byteAt w i) (byteAt a i)
      else byteAt a i := by
  obtain ⟨n, b⟩ := m
  induction n generalizing w a i with
  | zero =>
    match w, a with
    | [], [] => simp [cutBytes, byteAt, cutByte]
    | x :: w, y :: a => cases i <;> simp [cutBytes, byteAt]
  | succ n ih =>
    match w, a with
    | [], [] => simp [cutBytes, byteAt, cutByte]
    | x :: w, y :: a =>
      cases i with
      | zero => simp [cutBytes, byteAt]
      | succ i => simpa [cutBytes, byteAt] using ih w a (by simpa using h) i

/-- R187: a cut frame has its length. -/
theorem length_cutBytes (m : Passed) (w a : List Byte) (h : w.length = a.length) :
    (cutBytes m w a).length = a.length := by
  simp [cutBytes]; omega

/-- A marker makes its frame the one that is passing, where the part writes into it. -/
theorem State.startMarker_outPassing (s : State) (f : OutFrame) :
    (s.startMarker f).outPassing = (!s.inReset && (s.beginCycle f.cycle).hasAddress) := by
  unfold State.startMarker State.passOutbound State.passOut
  split <;> simp_all
  split <;> simp_all

/-! ### Requests -/

/-- A request that is not taken only passes, and with it its outbound frame. -/
theorem State.serve_of_not_taken (s : State) (r : Request) (kind : BitVec 4) (ok : Bool)
    (f : StandId → Answer) (h : s.takes r = false) : s.serve r kind ok f = { s with outPassing := false } := by
  unfold State.serve; simp [h]

/-- A refusal leaves the reply and changes nothing else (R168, R175). -/
theorem State.answer_refuse (s : State) (r : Request) (kind : BitVec 4) (code : ReplyCode) :
    s.answer r kind (refuse s code) = s.replied r kind code 0 := by
  unfold State.answer refuse
  simp [State.replied]

/-- A taken request that fails a common check is a BAD-REQUEST (R169). -/
theorem State.serve_of_bad (s : State) (r : Request) (kind : BitVec 4) (ok : Bool)
    (f : StandId → Answer) (h : s.takes r = true) (hb : 8 ≤ r.stand.toNat ∨ ok = false) :
    s.serve r kind ok f = s.replied r kind .badRequest 0 := by
  unfold State.serve
  rw [if_pos h]
  split
  · rename_i hk
    rcases hb with hb | hb
    · omega
    · simp [hb, State.answer_refuse]
  · exact s.answer_refuse r kind _

/-- A taken request that passes the common checks goes to its owner. -/
theorem State.serve_of_taken (s : State) (r : Request) (kind : BitVec 4) (f : StandId → Answer)
    (k : StandId) (h : s.takesAt r k) : s.serve r kind true f = s.answer r kind (f k) := by
  obtain ⟨ht, hk⟩ := h
  have hlt : r.stand.toNat < 8 := by rw [hk]; exact k.isLt
  have : (⟨r.stand.toNat, hlt⟩ : StandId) = k := Fin.ext hk
  unfold State.serve
  simp [ht, hlt, this]

end Sys2Proof.Machine
end

