-- ==== Sys2Proof/Laws/PerInstr.lean ====
section
/-!
SUPPORT. A statement made of every command as syntax, one lemma per constructor: the header word of the
service request field a command is encoded in names the command's kind, target and stand index, and a
command that is no request has no such field (section 1.11, R13).
-/
namespace Sys2Proof.Laws.HeaderNamesRequest

open Sys2Proof Sys2Proof.Machine

/-- The header fields of a request's encoding are those of the request. -/
def Statement (c : Instr) : Prop :=
  (requestOf c = none ∧ encodeRequest c = none) ∨
    ∃ r kind h p, requestOf c = some (r, kind) ∧ encodeRequest c = some (h, p) ∧
      requestTarget h = r.target ∧ requestKind h = kind ∧ requestStand h = r.stand

theorem target_header (r : Request) (kind : BitVec 4) (sel : BitVec 16) :
    requestTarget (requestHeader r kind sel) = r.target := by
  unfold requestTarget requestHeader
  ext i hi
  simp only [BitVec.getElem_extractLsb', BitVec.getLsbD_append]
  have h : i < 5 := by omega
  interval_cases i <;> simp

theorem kind_header (r : Request) (kind : BitVec 4) (sel : BitVec 16) :
    requestKind (requestHeader r kind sel) = kind := by
  unfold requestKind requestHeader
  ext i hi
  simp only [BitVec.getElem_extractLsb', BitVec.getLsbD_append]
  have h : i < 5 := by omega
  interval_cases i <;> simp

theorem stand_header (r : Request) (kind : BitVec 4) (sel : BitVec 16) :
    requestStand (requestHeader r kind sel) = r.stand := by
  unfold requestStand requestHeader
  ext i hi
  simp only [BitVec.getElem_extractLsb', BitVec.getLsbD_append]
  have h : i < 5 := by omega
  interval_cases i <;> simp

/-- A request encoded under its kind's header has the statement. -/
theorem of_header {c : Instr} {r : Request} {kind : BitVec 4} {sel : BitVec 16} {p : Payload}
    (hr : requestOf c = some (r, kind)) (he : encodeRequest c = some (requestHeader r kind sel, p)) :
    Statement c :=
  .inr ⟨r, kind, _, p, hr, he, target_header r kind sel, kind_header r kind sel, stand_header r kind sel⟩

theorem outboundStartMarker (f : OutFrame) : Statement (.outboundStartMarker f) := .inl ⟨rfl, rfl⟩

theorem returnFrame (e : RetEvent) : Statement (.returnFrame e) := .inl ⟨rfl, rfl⟩

theorem signalStaleLimit (g : SignalName) : Statement (.signalStaleLimit g) := .inl ⟨rfl, rfl⟩

theorem signalStale (k : StandId) : Statement (.signalStale k) := .inl ⟨rfl, rfl⟩

theorem runningDiameterWindowComplete (k : StandId) (inc : BitVec 23) (travel : BitVec 12) : Statement (.runningDiameterWindowComplete k inc travel) := .inl ⟨rfl, rfl⟩

theorem gaugeWindowComplete (k : StandId) (reading : BitVec 14) : Statement (.gaugeWindowComplete k reading) := .inl ⟨rfl, rfl⟩

theorem tapeLost (k : StandId) (travel : BitVec 12) : Statement (.tapeLost k travel) := .inl ⟨rfl, rfl⟩

theorem accelTimeout (k : StandId) : Statement (.accelTimeout k) := .inl ⟨rfl, rfl⟩

theorem confirmTimeout (k : StandId) : Statement (.confirmTimeout k) := .inl ⟨rfl, rfl⟩

theorem spacingEnd (g : GroupId) (inc : BitVec 23) : Statement (.spacingEnd g inc) := .inl ⟨rfl, rfl⟩

theorem linkLoss : Statement .linkLoss := .inl ⟨rfl, rfl⟩

theorem resetAssertion : Statement .resetAssertion := .inl ⟨rfl, rfl⟩

theorem resetRelease (addr : BitVec 5) : Statement (.resetRelease addr) := .inl ⟨rfl, rfl⟩

theorem inhibitFilterSettle (steady : BitVec 8) (high : BitVec 8) : Statement (.inhibitFilterSettle steady high) := .inl ⟨rfl, rfl⟩

theorem inhibitPinAssertion (k : StandId) : Statement (.inhibitPinAssertion k) := .inl ⟨rfl, rfl⟩

theorem inhibitPinRelease (k : StandId) : Statement (.inhibitPinRelease k) := .inl ⟨rfl, rfl⟩

theorem readItem (r : Request) (sel : BitVec 16) : Statement (.readItem r sel) :=
  of_header rfl rfl

theorem writeStandParameter (r : Request) (sel : BitVec 16) (p : Payload) : Statement (.writeStandParameter r sel p) :=
  of_header rfl rfl

theorem writeSlotMapEntry (r : Request) (sel : BitVec 16) (p : Payload) : Statement (.writeSlotMapEntry r sel p) :=
  of_header rfl rfl

theorem writeLineMap (r : Request) (sel : BitVec 16) (p : Payload) : Statement (.writeLineMap r sel p) :=
  of_header rfl rfl

theorem writeImageMap (r : Request) (sel : BitVec 16) (p : Payload) : Statement (.writeImageMap r sel p) :=
  of_header rfl rfl

theorem writeGradeTableEntry (r : Request) (sel : BitVec 16) (p : Payload) : Statement (.writeGradeTableEntry r sel p) :=
  of_header rfl rfl

theorem writeGroupTableEntry (r : Request) (sel : BitVec 16) (p : Payload) : Statement (.writeGroupTableEntry r sel p) :=
  of_header rfl rfl

theorem queueReel (r : Request) (p : Payload) : Statement (.queueReel r p) :=
  of_header rfl rfl

theorem withdrawReel (r : Request) (p : Payload) : Statement (.withdrawReel r p) :=
  of_header rfl rfl

theorem standOnline (r : Request) (sel : BitVec 16) (p : Payload) : Statement (.standOnline r sel p) :=
  of_header rfl rfl

theorem standOffline (r : Request) : Statement (.standOffline r) :=
  of_header rfl rfl

theorem inhibit (r : Request) : Statement (.inhibit r) :=
  of_header rfl rfl

theorem release (r : Request) : Statement (.release r) :=
  of_header rfl rfl

theorem spliceNow (r : Request) : Statement (.spliceNow r) :=
  of_header rfl rfl

theorem clearFault (r : Request) (sel : BitVec 16) : Statement (.clearFault r sel) :=
  of_header rfl rfl

theorem readLog (r : Request) (sel : BitVec 16) : Statement (.readLog r sel) :=
  of_header rfl rfl

theorem ackLog (r : Request) : Statement (.ackLog r) :=
  of_header rfl rfl

theorem unknownKindRequest (r : Request) (kind : BitVec 4) : Statement (.unknownKindRequest r kind) :=
  of_header rfl rfl

end Sys2Proof.Laws.HeaderNamesRequest
end

