-- ==== Sys2Proof/Laws/Stands.lean ====
section
/-!
SUPPORT. What the operations on one stand can do: capture, contexts, clears, unwinding.
-/
namespace Sys2Proof.Machine

/-! ### Capture -/

theorem pushHistory_length {α : Type} (h : List α) (v : α) (hl : h.length ≤ 17) :
    (pushHistory h v).length ≤ 17 := by
  unfold pushHistory; split <;> simp <;> omega

/-- A step leaves a history empty, as it was, or with one entry pushed. -/
theorem stepHistory_cases {α : Type} (h : List α) (c : Capture) (held : Option α) (passedOver : Bool) :
    stepHistory h c held passedOver = [] ∨ stepHistory h c held passedOver = h ∨
      ∃ v, held = some v ∧ stepHistory h c held passedOver = pushHistory h v := by
  unfold stepHistory
  split
  · exact .inl rfl
  · split
    · split
      · exact .inr (.inl rfl)
      · exact .inr (.inr ⟨_, rfl, rfl⟩)
    · exact .inr (.inl rfl)

theorem stepHistory_length {α : Type} (h : List α) (c : Capture) (held : Option α) (passedOver : Bool)
    (hl : h.length ≤ 17) : (stepHistory h c held passedOver).length ≤ 17 := by
  rcases stepHistory_cases h c held passedOver with e | e | ⟨v, -, e⟩
  · simp [e]
  · rw [e]; exact hl
  · rw [e]; exact pushHistory_length h v hl

/-- A capture refreshes the signal or ages it (R27, R31). -/
theorem Capture.take_cases (c : Capture) (limit : Nat) (slot : Option Slot) :
    (∃ sl r, slot = some sl ∧ c.ref = some r ∧ sl.count ≠ r ∧
        c.take limit slot = (⟨.live, 0, some sl.count⟩, true)) ∨
      ((c.take limit slot).2 = false ∧
        (c.take limit slot).1 =
          { c.age limit with ref := match slot with | some sl => some sl.count | none => c.ref }) := by
  unfold Capture.take
  cases slot with
  | none => exact .inr ⟨rfl, rfl⟩
  | some sl =>
    cases hr : c.ref with
    | none => exact .inr ⟨rfl, rfl⟩
    | some r =>
      by_cases e : sl.count = r
      · refine .inr ⟨by simp [e], ?_⟩
        simp [e, Capture.age, hr]
      · exact .inl ⟨sl, r, rfl, rfl, e, by simp [e]⟩

/-! ### Contexts -/

/-- The unload-required flag of one arm is all that is marked (R68). -/
theorem Stand.markUnload_frame (st : Stand) (x : Arm) :
    st.markUnload x = { st with armA := (st.markUnload x).armA, armB := (st.markUnload x).armB } := by
  unfold Stand.markUnload
  split
  · cases x <;> rfl
  · rfl

theorem Stand.markUnload_arm (st : Stand) (x : Arm) :
    ((st.markUnload x).arm x).unload = ((st.arm x).unload || st.level x) := by
  unfold Stand.markUnload
  split
  · rename_i h; simp [h]
  · rename_i h; simp [h]

theorem Stand.markUnload_arm_other (st : Stand) (x : Arm) :
    (st.markUnload x).arm (otherArm x) = st.arm (otherArm x) := by
  unfold Stand.markUnload
  split
  · simp
  · rfl

/-- Binding does nothing, or forms a ready context of the head record (R71). -/
theorem Stand.tryBind_cases (st : Stand) (waits : Bool) :
    (st.canBind = false ∧ st.tryBind waits = st) ∨
      ∃ q rest, st.state = .running ∧ st.braking = false ∧ st.mountPending = true ∧
        st.queue = q :: rest ∧ st.tryBind waits =
          { st with
            queue := rest
            ready := some ⟨q, st.readyArm, none, none, false⟩
            sNew := none
            mountPending := false
            state := .checking
            gaugeWindow := some ⟨st.readyArm, 0, 0, waits⟩ } := by
  unfold Stand.tryBind
  by_cases h : st.canBind = true
  · rw [if_pos h]
    right
    simp only [Stand.canBind, Bool.and_eq_true, beq_iff_eq, Bool.not_eq_true', List.isEmpty_eq_false_iff]
      at h
    obtain ⟨⟨⟨h1, h2⟩, h3⟩, h4⟩ := h
    cases hq : st.queue with
    | nil => exact absurd hq h4
    | cons q rest => exact ⟨q, rest, h1, h2, h3, rfl, by simp [Stand.bindHead, hq]⟩
  · exact .inl ⟨by simpa using h, if_neg h⟩

/-! ### Clears and unwinding -/

/-- A stand without a context enters CHECKING or RUNNING (R153, items 3 and 4). -/
theorem Stand.enterUnready_state (st : Stand) (waits : Bool) :
    (st.enterUnready waits).state = .checking ∨ (st.enterUnready waits).state = .running := by
  unfold Stand.enterUnready Stand.bindHead
  split
  · split
    · exact .inl rfl
    · rename_i h _; simp_all
  · exact .inr rfl

/-- A cleared stand enters READY, CHECKING or RUNNING (R153). -/
theorem Stand.enterCleared_state (st : Stand) (waits : Bool) :
    (st.enterCleared waits).state = .ready ∨ (st.enterCleared waits).state = .checking ∨
      (st.enterCleared waits).state = .running := by
  unfold Stand.enterCleared
  split
  · split
    · exact .inr (Stand.enterUnready_state _ _)
    · split
      · exact .inl rfl
      · exact .inr (Stand.enterUnready_state _ _)
  · exact .inr (Stand.enterUnready_state _ _)

/-- A return to READY by inhibit stops the scheduler, the timer and the arm (R99). -/
theorem Stand.returnReady_cases (st : Stand) :
    (st.level st.readyArm = true ∧ st.returnReady =
      { st with braking := true, accelTimer := none, sched := st.sched.stopped, state := .ready }) ∨
    (st.level st.readyArm = false ∧ st.returnReady =
      { Stand.returnToHead
          { st with braking := true, accelTimer := none, sched := st.sched.stopped, state := .ready } with
        state := .running }) := by
  unfold Stand.returnReady
  by_cases h : st.level st.readyArm = true
  · exact .inl ⟨h, by simp [h]⟩
  · exact .inr ⟨by simpa using h, by simp [h]⟩

end Sys2Proof.Machine
end

