-- ==== Sys2Proof/Tests/Slice0.lean ====
section
/-!
SUPPORT. Checks of the model on fixed values. Expected values are those of the manual's worked sequences,
or follow by hand from the rule named. The theorems named wit_ show that the hypotheses of the statement
of that name are met together, clause by clause, at boundary values where a clause has one.
-/
namespace Sys2Proof.Tests

-- One theorem at a time: the checks need little time and, run together, much stack.
set_option Elab.async false

open Sys2Proof Sys2Proof.Machine

/-! ### Small states -/

/-- The state a command leaves. -/
def after (c : Instr) (s : State) : State :=
  match exec c s with
  | .next t => t
  | .fault _ => s
  | .refused _ => s

/-- The code of the held reply. -/
def code (s : State) : Option ReplyCode := s.heldReply.map (·.code)

/-- The payload of the held reply. -/
def payload (s : State) : Option Payload := s.heldReply.map (·.payload)

def entry (n : Nat) : Option RetEntry := some ⟨Fin.ofNat 96 n, .one⟩

/-- A complete map on return slots n to n+4 and command slots m to m+3. -/
def testMap (n m : Nat) : SlotMap :=
  ⟨entry n, entry (n + 1), entry (n + 2), entry (n + 3), entry (n + 4), some (Fin.ofNat 48 m),
    some (Fin.ofNat 48 (m + 1)), some (Fin.ofNat 48 (m + 2)), some (Fin.ofNat 48 (m + 3))⟩

def running0 : RunningContext := ⟨501, 3, some 900, some 1400, none, 74, 6000, true, none⟩

def record0 : ReelRecord := ⟨502, 3, 12500, 1000, 1400, none, none⟩

def record1 : ReelRecord := ⟨503, 3, 12500, 1000, 1400, none, none⟩

def ready0 (dNew : Option Nat) (spent : Bool) : ReadyContext := ⟨record0, .b, dNew, some 1000, spent⟩

/-- A stand in RUNNING on arm A, its pin settled and released. -/
def online : Stand :=
  { Stand.afterReset with
    map := testMap 10 12
    pinAsserted := false
    pinSettled := true
    state := .running
    acceptOpen := true
    running := some running0 }

/-- A stand in a state with a gauged ready reel on arm B. -/
def withReady (x : StandState) : Stand := { online with state := x, ready := some (ready0 (some 12500) false) }

/-- A stand past its fire. -/
def pastFire (x : StandState) (p : FirePlan) : Stand :=
  { online with
    state := x
    ready := some (ready0 (some 12500) true)
    kept := some ⟨0, false, false⟩
    sched := { Scheduler.empty with plan := some p } }

/-- The plan of section 9.6, its knife not yet written. -/
def plan0 : FirePlan :=
  ⟨⟨500002, 230⟩, 1800, 79667, ⟨500321, 147⟩, false, .planned, false, none, none⟩

/-- The same with its knife written on time and a window of 500 ms. -/
def plan1 : FirePlan :=
  { plan0 with knifeState := .issued, windowEnd := some ⟨502321, 147⟩ }

/-- The part after reset, its first frame begun. -/
def started : State := { State.reset with engineCycle := some 1000, lastCycle := some 1000 }

/-- The part with one stand, in engine cycle c. -/
def part (k : StandId) (st : Stand) (c : Word) : State :=
  { State.reset.setStand k st with engineCycle := some c, lastCycle := some (c.setWidth 16) }

/-- The part with one stand that holds group 0. -/
def partHeld (k : StandId) (st : Stand) (c : Word) : State :=
  (part k st c).setGroup 0 ⟨.held k, 0, 5000000⟩

/-- The part with one stand that requests group 0. -/
def partRequesting (k : StandId) (st : Stand) (c : Word) (grant : GrantState) : State :=
  (part k st c).setGroup 0 ⟨grant, 1#8 <<< k.val, 5000000⟩

def checking : Stand :=
  { online with state := .checking, ready := some (ready0 none false), gaugeWindow := some ⟨.b, 787500, 63, false⟩ }

def faulted (at' : StandState) : Stand :=
  { (if at'.afterFire then pastFire .fault plan1 else withReady .fault) with
    record := some ⟨.confirmTimeout, 9000, at', at'.afterFire, .a, none, false⟩
    claimLost := true
    linkLoss := true }

/-- Present on both arms. -/
def showing (st : Stand) : Stand :=
  { st with
    armA := { st.armA with gauge := ⟨⟨.live, 0, some 1⟩, some 12500, some true⟩ }
    armB := { st.armB with gauge := ⟨⟨.live, 0, some 1⟩, some 12500, some true⟩ } }

def due (st : Stand) : Stand := { st with forced := true }

def emptyOut (n : BitVec 16) : OutFrame := ⟨n, Vector.replicate 48 ⟨0, 0, 0⟩, 0⟩

def emptyRet (n : BitVec 16) : RetFrame := ⟨n, Vector.replicate 96 ⟨0, 0, 0⟩, 0⟩

def at7 (k : BitVec 4) : Request := ⟨7, k⟩

/-- A payload of a reel record. -/
def recordPayload (roll : Nat) : Payload :=
  pack [(4, roll), (1, 3), (2, 12500), (2, 1000), (2, 1400), (2, 0), (1, 0)]

/-! ### Ill-formed terms are refused -/

theorem test_wf_gauge_reading_zero : WellFormed (.gaugeWindowComplete 0 0) = false := by decide

theorem test_wf_parameter_row_of_other_class : WellFormed (.writeStandParameter (at7 0) 0x0200 0) = false := by
  decide

theorem test_wf_map_row_of_other_class : WellFormed (.writeSlotMapEntry (at7 0) 0x0100 0) = false := by decide

theorem test_wf_line_row_of_other_class : WellFormed (.writeLineMap (at7 0) 0x0400 0) = false := by decide

theorem test_wf_image_row_of_other_class : WellFormed (.writeImageMap (at7 0) 0x0300 0) = false := by decide

theorem test_wf_grade_row_of_other_class : WellFormed (.writeGradeTableEntry (at7 0) 0x0600 0) = false := by
  decide

theorem test_wf_group_row_of_other_class : WellFormed (.writeGroupTableEntry (at7 0) 0x0500 0) = false := by
  decide

theorem test_wf_known_kind_is_not_unknown : WellFormed (.unknownKindRequest (at7 0) 12) = false := by decide

theorem test_wf_accepts : WellFormed (.gaugeWindowComplete 0 1) = true ∧
    WellFormed (.writeStandParameter (at7 0) 0x0110 1) = true ∧
    WellFormed (.unknownKindRequest (at7 0) 0) = true := by decide

/-! ### Words of section 1.11, written out bit by bit: selector, 000, stand, kind, target -/

/-- READ-ITEM of class 8, index 0, stand 0, target 7. -/
theorem test_decode_read_item :
    decodeRequest 0b0000100000000000_000_0000_0001_00111#32 0 = .readItem ⟨7, 0⟩ 0x0800 := by decide

/-- WRITE-ITEM of class 3, index 0, target 7, and of classes 1, 2, 4, 5, 6. -/
theorem test_decode_writes :
    decodeRequest 0b0000001100000000_000_0000_0010_00111#32 9 = .writeLineMap ⟨7, 0⟩ 0x0300 9 ∧
    decodeRequest 0b0000000100010000_000_0000_0010_00111#32 1 = .writeStandParameter ⟨7, 0⟩ 0x0110 1 ∧
    decodeRequest 0b0000001000001000_000_0101_0010_00111#32 1 = .writeSlotMapEntry ⟨7, 5⟩ 0x0208 1 ∧
    decodeRequest 0b0000010000000000_000_0000_0010_00111#32 1 = .writeImageMap ⟨7, 0⟩ 0x0400 1 ∧
    decodeRequest 0b0000010100001111_000_0000_0010_00111#32 1 = .writeGradeTableEntry ⟨7, 0⟩ 0x050F 1 ∧
    decodeRequest 0b0000011000000011_000_0000_0010_00111#32 1 = .writeGroupTableEntry ⟨7, 0⟩ 0x0603 1 := by
  decide

/-- The other kinds, and an unknown one; bits 13-15 are ignored (R20). -/
theorem test_decode_other_kinds :
    decodeRequest 0b0000000000000000_111_0010_0011_00111#32 5 = .queueReel ⟨7, 2⟩ 5 ∧
    decodeRequest 0b0000000000000000_000_0010_0100_00111#32 5 = .withdrawReel ⟨7, 2⟩ 5 ∧
    decodeRequest 0b0000000000010000_000_0000_0101_00111#32 5 = .standOnline ⟨7, 0⟩ 16 5 ∧
    decodeRequest 0b0000000000000000_000_0001_0110_00111#32 5 = .standOffline ⟨7, 1⟩ ∧
    decodeRequest 0b0000000000000000_000_0001_0111_00111#32 5 = .inhibit ⟨7, 1⟩ ∧
    decodeRequest 0b0000000000000000_000_0001_1000_00111#32 5 = .release ⟨7, 1⟩ ∧
    decodeRequest 0b0000000000000000_000_0001_1001_00111#32 5 = .spliceNow ⟨7, 1⟩ ∧
    decodeRequest 0b0000000000000010_000_0100_1010_00111#32 5 = .clearFault ⟨7, 4⟩ 2 ∧
    decodeRequest 0b0000000100000011_000_0000_1011_00111#32 5 = .readLog ⟨7, 0⟩ 0x0103 ∧
    decodeRequest 0b0000000000000000_000_0000_1100_00111#32 5 = .ackLog ⟨7, 0⟩ ∧
    decodeRequest 0b0000000000000000_000_0000_1101_00111#32 5 = .unknownKindRequest ⟨7, 0⟩ 13 := by decide

/-- A slot header: count in bits 0-2, tag in bits 3-7. -/
theorem test_decode_slot : decodeSlot 0b00111_101#8 0xA5 = ⟨5, 7, 0xA5⟩ := by decide

/-- Bytes of an outbound frame: cycle 0x0201 at 0-1, slot 0 at 2-6, slot 47 at 237-241, the request at
242-261, an ACK-LOG for part 7. -/
theorem test_decode_out_frame :
    let l : List Byte := [0x01, 0x02, 0b00111_101#8, 1, 2, 3, 4] ++ List.replicate 230 0 ++
      [0b11111_001#8, 5, 0, 0, 6] ++ [0b100_00111#8, 0b000_0000_1#8, 0, 0] ++ List.replicate 16 0
    let f := decodeOutFrame l
    l.length = 262 ∧ f.cycle = 0x0201 ∧ f.slots[0] = ⟨5, 7, 0x04030201⟩ ∧ f.slots[1] = ⟨0, 0, 0⟩ ∧
      f.slots[47] = ⟨1, 31, 0x06000005⟩ ∧ f.commands = [.outboundStartMarker f, .ackLog ⟨7, 0⟩] := by
  decide +kernel

/-- No word of the table spells a command. -/
theorem test_no_table_word : decodeTableWord 32 0 = none := rfl

/-! ### The link -/

/-- Section 1.10: 0 after 65535 is engine cycle 65536, and 2 after 65536 is 65538. -/
theorem test_marker_extends :
    (after (.outboundStartMarker (emptyOut 0)) { State.reset with engineCycle := some 65535 }).engineCycle
      = some 65536 ∧
    (after (.outboundStartMarker (emptyOut 2)) { State.reset with engineCycle := some 65536 }).engineCycle
      = some 65538 := by decide +kernel

/-- A frame with a foreign tag in slot 12, and a request field. -/
def struckFrame : OutFrame := ⟨1001, (Vector.replicate 48 ⟨0, 0, 0⟩).set 12 ⟨1, 4, 0⟩, 0x27⟩

/-- Section 1.10: a foreign tag in slot 12 strikes stand 3, whose slots 13 to 15 pass. -/
theorem test_marker_claim_conflict :
    let t := after (.outboundStartMarker
      struckFrame) (part 3 online 1000)
    (t.stand 3).state = .fault ∧ (t.stand 3).claimLost = true ∧
      (t.stand 3).record.map (·.kind) = some .claimConflict ∧
      t.outFrame.map (·.slots[13]) = some ⟨0, 0, 0⟩ ∧ t.outFrame.map (·.request) = some 0x27 := by
  decide +kernel

/-- R10: a return frame of another cycle number passes unchanged. -/
theorem test_return_of_other_cycle :
    after (.returnFrame (.whole (emptyRet 5))) (part 3 online 1000) =
      { part 3 online 1000 with
        retFrame := some (emptyRet 5), retArrived := some (emptyRet 5), returnDecided := true } := by decide +kernel

/-- R12, section 1.11: the image of a part with stand 3 in RUNNING and a pin at each other stand. -/
theorem test_return_carries_image :
    let t := after (.returnFrame (.whole (emptyRet 1000)))
      { part 3 online 1000 with imageActive := some (1, 2) }
    t.retFrame.map (·.slots[1]) =
        some ⟨1, 7, 0b0000_0000001_0100000_0100000_0100000#32⟩ ∧
      t.retFrame.map (·.slots[2]) =
        some ⟨1, 7, 0b0000_0100000_0100000_0100000_0100000#32⟩ := by decide +kernel

/-- Section 8.5: the link loss strikes a READY stand, and leaves an OFFLINE one. -/
theorem test_link_loss :
    let t := after .linkLoss { part 0 (withReady .ready) 12000 with watchArmed := true }
    (t.stand 0).record = some ⟨.linkLoss, 12000, .ready, false, .a, none, false⟩ ∧
      (t.stand 0).linkLoss = true ∧ (t.stand 3).record = none ∧
      (t.stand 0).driveMode .a = .tension ∧ (t.stand 0).driveMode .b = .idle := by decide +kernel

/-! ### Events within a step -/

/-- R31: SPINDLE-B of divisor 2 goes to STALE at its 16th step without a refresh (section 2.6). -/
theorem test_signal_stale_limit :
    let st := { online with
      map := { online.map with spindleB := some ⟨40, .two⟩ }
      armB := { online.armB with spindle := ⟨⟨.live, 15, some 5⟩, some 1558, [1558]⟩ } }
    let t := after (.signalStaleLimit (.spindle 1 .b)) (part 1 st 1000)
    (t.stand 1).armB.spindle = ⟨⟨.stale, 16, some 5⟩, some 1558, []⟩ := by decide +kernel

/-- Section 2.6: the 64th step of a stale SPINDLE-B in MATCHED is a SIGNAL-STALE that names it. -/
theorem test_signal_stale :
    let st := { withReady .matched with watch := ⟨0, 63, 0⟩ }
    let t := after (.signalStale 1) { part 1 st 282 with line := ⟨⟨.live, 0, some 1⟩, some 0, []⟩ }
    (t.stand 1).record = some ⟨.signalStale, 282, .matched, false, .a, some .spindleB, false⟩ := by
  decide +kernel

/-- Section 3.10: 188,625 WLU over 4099 SC are 6000 DU. -/
theorem test_window_complete :
    let st := { online with
      armA := { online.armA with spindle := ⟨⟨.live, 0, some 1⟩, some 3, []⟩ }
      window := some ⟨188250, 4091, 4091⟩ }
    let t := after (.runningDiameterWindowComplete 0 375 8)
      { part 0 st 1000 with line := ⟨⟨.live, 0, some 1⟩, some 0, []⟩ }
    (t.stand 0).running.map (·.dRun) = some 6000 ∧
      (t.stand 0).running.map (·.anchor) = some (some ⟨6000, 0⟩) ∧
      (t.stand 0).window = some ⟨0, 0, 3⟩ := by decide +kernel

/-- Section 3.10: at an anchor of 12500, 55,651,886 WLU and a new 12300 the caliper learned is 70. -/
theorem test_caliper_learned :
    let r : RunningContext :=
      ⟨1, 3, none, none, none, 74, 12500, true, some ⟨12500, 55651886⟩⟩
    (r.accept 12300 (Vector.replicate 16 ⟨70, 200⟩)).caliper = 70 := by decide +kernel

/-- R57, R86: 64 readings of 12500 put the stand into READY with D_new = 12500. -/
theorem test_gauge_complete :
    let t := after (.gaugeWindowComplete 2 12500) (part 2 checking 1000)
    (t.stand 2).state = .ready ∧ (t.stand 2).ready.bind (·.dNew) = some 12500 := by decide +kernel

/-- R86: an average far from the mount diameter is a REEL-MISMATCH, and the record goes back. -/
theorem test_gauge_mismatch :
    let t := after (.gaugeWindowComplete 2 1) (part 2 checking 1000)
    (t.stand 2).state = .fault ∧ (t.stand 2).queue = [record0] ∧ (t.stand 2).ready = none := by
  decide +kernel

/-- R115: 12,288 SC without a mark. -/
theorem test_tape_lost :
    let st := { withReady .matched with sched := { Scheduler.empty with tapeTravel := 12284 } }
    ((after (.tapeLost 0 4) (part 0 st 1000)).stand 0).record.map (·.kind) = some .tapeLost ∧
      ((after (.tapeLost 0 3) (part 0 st 1000)).stand 0).state = .matched := by decide +kernel

/-- R112: the 80,000th step at T_match_max = 20,000 ms. -/
theorem test_accel_timeout :
    ((after (.accelTimeout 0) (part 0 { withReady .accel with accelTimer := some 79999 } 1000)).stand
      0).record.map (·.kind) = some .accelTimeout ∧
    ((after (.accelTimeout 0) (part 0 { withReady .accel with accelTimer := some 79998 } 1000)).stand
      0).state = .accel := by decide +kernel

/-- Section 8.5: the timed-out stand is in FAULT, its sequence logged, its group in SPACING. -/
theorem test_confirm_timeout :
    let t := after (.confirmTimeout 4) (partHeld 4 (pastFire .confirm plan1) 502322)
    (t.stand 4).record = some ⟨.confirmTimeout, 502322, .confirm, true, .a, none, false⟩ ∧
      t.log.map (·.outcome) = [.noConfirm] ∧ (t.group 0).grant = .spacing 5000000 false ∧
      (t.stand 4).driveMode .b = .tension := by decide +kernel

/-- R26: the marker of the next cycle takes the step of a cycle whose return frame never ended, without
samples: a LIVE signal ages by one. A break of advance 3 takes two more steps (R4). -/
theorem test_marker_takes_pending_step :
    let st := { online with status := ⟨⟨.live, 2, some 1⟩, none⟩ }
    let s : State := { part 3 st 1000 with stepPending := true }
    ((after (.outboundStartMarker (emptyOut 1001)) s).stand 3).status.cap = ⟨.live, 3, some 1⟩ ∧
      ((after (.outboundStartMarker (emptyOut 1003)) s).stand 3).status.cap = ⟨.live, 5, some 1⟩ := by
  decide +kernel

/-- Section 7.9: an increment of 375 ends a spacing of 125, and the requester is granted. -/
theorem test_spacing_end :
    let t := after (.spacingEnd 0 375)
      (partRequesting 5 { due (withReady .matched) with requestStart := some 40100 } 53964 (.spacing 125 false))
    (t.group 0).grant = .held 5 ∧ (t.stand 5).grant = some ⟨13864, false⟩ := by decide +kernel

/-! ### Reset and pins -/

/-- R187, R18: assertion and release. -/
theorem test_reset :
    let t := after (.resetRelease 9) ((part 3 online 1000).assertReset ⟨262, 0⟩ ⟨502, 0⟩)
    t.nodeAddr = 9 ∧ t.inReset = false ∧ t.engineCycle = none ∧ (t.stand 3).state = .offline := by
  decide +kernel

/-- R187: an outbound frame cut after slot 12 keeps what the part wrote there; slot 13 on goes as it arrived. -/
theorem test_reset_cuts_frame :
    let s := after (.outboundStartMarker (emptyOut 1001)) (part 3 online 1000)
    let t := s.assertReset ⟨67, 0⟩ ⟨502, 0⟩
    t.outFrame.map (·.slots[12]) = some ⟨1, 7, 2⟩ ∧ t.outFrame.map (·.slots[13]) = some ⟨0, 0, 0⟩ ∧
      s.outFrame.map (·.slots[13]) = some ⟨1, 7, 0⟩ := by decide +kernel

/-- R187: cut inside the header of slot 13, whose count has passed and whose tag has not: new count, old tag. -/
theorem test_reset_cuts_inside_byte :
    let s := after (.outboundStartMarker (emptyOut 1001)) (part 3 online 1000)
    let t := s.assertReset ⟨67, 0b00000111⟩ ⟨502, 0⟩
    t.outFrame.map (·.slots[12]) = some ⟨1, 7, 2⟩ ∧ t.outFrame.map (·.slots[13]) = some ⟨1, 0, 0⟩ := by
  decide +kernel

/-- R187: a frame wholly passed is not cut: after a request for another target, a link loss, or the return
frame; after an early return frame it may be. -/
theorem test_reset_leaves_passed_frame :
    let s := after (.outboundStartMarker (emptyOut 1001)) (part 3 online 1000)
    let cut (c : Instr) := ((after c s).assertReset ⟨67, 0⟩ ⟨502, 0⟩).outFrame
    cut (.ackLog ⟨8, 0⟩) = s.outFrame ∧ cut .linkLoss = s.outFrame ∧
      cut (.returnFrame (.whole (emptyRet 1000))) = s.outFrame ∧
      cut (.returnFrame (.early (emptyRet 1000))) ≠ s.outFrame := by decide +kernel

/-- R55: the step of the cycle whose request bound the reel counts no reading; the next one does. -/
theorem test_gauge_window_waits :
    let st := { checking with gaugeWindow := some ⟨.b, 0, 0, true⟩ }
    let h : ArmHand := ⟨false, false, none, false, none, some 12500, none, false⟩
    let u := (st.gaugeStep ⟨h, h, none⟩).1
    u.gaugeWindow = some ⟨.b, 0, 0, false⟩ ∧
      (u.gaugeStep ⟨h, h, none⟩).1.gaugeWindow = some ⟨.b, 12500, 1, false⟩ := by decide +kernel

/-- R172, R28: a GAUGE signal that has held no diameter reads without a held value. -/
theorem test_gauge_item_without_diameter :
    let st := { online with armA := { online.armA with gauge := ⟨⟨.live, 0, some 1⟩, none, some true⟩ } }
    gaugeItem st .a = pack [(1, 1), (2, 0), (1, 0b001010), (1, 1), (4, 0), (1, 0), (1, 0)] := by
  decide +kernel

/-- R187: a frame cut once leaves as the first assertion left it; a second one before the next marker does not
cut it again. -/
theorem test_second_reset_cuts_nothing :
    let t := ((after (.outboundStartMarker (emptyOut 1001)) (part 3 online 1000)).assertReset ⟨67, 0⟩ ⟨502, 0⟩)
    ((t.releaseReset 7).assertReset ⟨2, 0⟩ ⟨502, 0⟩).outFrame = t.outFrame := by decide +kernel

/-- R189: a stand put online before its filter settles released does not arm at the settling, though it is
inhibited no longer; it arms after an assertion and a release edge. -/
theorem test_arms_after_release_edge :
    let st := { withReady .ready with
      pinAsserted := true, pinSettled := false, awaitsRelease := true, forced := true }
    let t := after (.inhibitFilterSettle 1 1) (part 0 st 1000)
    let u := after (.inhibitPinRelease 0) (after (.inhibitPinAssertion 0) t)
    (t.stand 0).inhibited = false ∧ (t.stand 0).arms = false ∧ (u.stand 0).arms = true := by
  decide +kernel

/-- R189: a steady high pin settles released. -/
theorem test_filter_settle :
    let t := after (.inhibitFilterSettle 0b00000011 0b00000001) State.reset
    (t.stand 0).pinAsserted = false ∧ (t.stand 1).pinAsserted = true ∧ (t.stand 1).pinSettled = true ∧
      (t.stand 2).pinSettled = false := by decide +kernel

/-- Section 5.10: the pin against a stand in FIRING-pending. -/
theorem test_pin_assertion :
    let t := after (.inhibitPinAssertion 0) (partHeld 0 (showing (withReady .firingPending)) 1000)
    (t.stand 0).state = .ready ∧ (t.stand 0).braking = true ∧ (t.group 0).grant = .free := by
  decide +kernel

/-- R151, R153: the release edge clears an early fault into READY. -/
theorem test_pin_release :
    let t := after (.inhibitPinRelease 0)
      (part 0 { showing (faulted .checking) with pinAsserted := true } 1000)
    (t.stand 0).state = .ready ∧ (t.stand 0).record = none := by decide +kernel

/-! ### Requests -/

/-- Section 10.6: the status of a stand just put online: code 1, arm A, TENSION and IDLE. -/
theorem test_read_status :
    payload (after (.readItem (at7 0) 0x0800) (part 0 online 1000)) =
      some (pack [(1, 1), (1, 0), (1, 0), (1, 2), (1, 0)]) := by decide +kernel

/-- Section 11.8: the four writes of the knife gaps. -/
theorem test_write_parameter :
    let w (i v : Nat) (s : State) := after (.writeStandParameter (at7 2) (BitVec.ofNat 16 (256 + i))
      (BitVec.ofNat 128 v)) s
    let s0 := part 2 (withReady .ready) 1000
    let s2 := w 11 100000 s0
    code (w 11 120000 s0) = some .badValue ∧ code s2 = some .done ∧
      code (w 12 80000 s2) = some .badValue ∧ code (w 12 400000 s2) = some .done ∧
      ((w 12 400000 s2).stand 2).params.maxGap = 400000 := by decide +kernel

/-- R22: an entry of an OFFLINE stand. -/
theorem test_write_map_entry :
    let t := after (.writeSlotMapEntry (at7 5) 0x0203 (pack [(1, 1), (1, 95), (1, 4)])) started
    (t.stand 5).map.gaugeB = some ⟨95, .four⟩ ∧ code t = some .done := by decide +kernel

/-- Section 10.6: the LINE map, DONE with payload 1, 0, 1, and NOT-OFFLINE once a stand is online. -/
theorem test_write_line_map :
    let c : Instr := .writeLineMap (at7 0) 0x0300 (pack [(1, 1), (1, 0), (1, 1)])
    payload (after c started) = some (pack [(1, 1), (1, 0), (1, 1)]) ∧
      (after c started).lineMap = some ⟨0, .one⟩ ∧
      code (after c (part 0 online 1000)) = some .notOffline := by decide +kernel

/-- R23: two slots that differ. -/
theorem test_write_image_map :
    (after (.writeImageMap (at7 0) 0x0400 (pack [(1, 1), (1, 1), (1, 2)])) started).imageMap =
        some (1, 2) ∧
      code (after (.writeImageMap (at7 0) 0x0400 (pack [(1, 1), (1, 2), (1, 2)])) started) =
        some .badValue := by decide +kernel

/-- R186: the caliper's range. -/
theorem test_write_grade :
    (after (.writeGradeTableEntry (at7 0) 0x0503 (pack [(1, 150), (2, 500)])) started).grades[3] =
        ⟨150, 500⟩ ∧
      code (after (.writeGradeTableEntry (at7 0) 0x0503 (pack [(1, 151), (2, 0)])) started) =
        some .badValue := by decide +kernel

/-- R138: every 32-bit stagger length. -/
theorem test_write_group :
    ((after (.writeGroupTableEntry (at7 0) 0x0603 (pack [(4, 4294967295)])) started).group 3).stagger =
      4294967295 := by decide +kernel

/-- Section 4.9: DUPLICATE, and an append; section 10.6: a record bound at once. -/
theorem test_queue_reel :
    let s := part 2 { online with queue := [record0] } 1000
    code (after (.queueReel (at7 2) (recordPayload 502)) s) = some .duplicate ∧
      ((after (.queueReel (at7 2) (recordPayload 503)) s).stand 2).queue = [record0, record1] ∧
      payload (after (.queueReel (at7 2) (recordPayload 2201)) (part 2 { online with mountPending := true }
        1000)) = some (pack [(1, 0), (1, 1), (1, 1)]) := by decide +kernel

/-- Section 4.9: a record withdrawn from the middle of a queue. -/
theorem test_withdraw_reel :
    let s := part 2 { online with queue := [record0, record1] } 1000
    ((after (.withdrawReel (at7 2) 502) s).stand 2).queue = [record1] ∧
      code (after (.withdrawReel (at7 2) 501) s) = some .busy ∧
      code (after (.withdrawReel (at7 2) 0) s) = some .noSuch := by decide +kernel

/-- Section 10.6: the record present, arm A, EMPTY. -/
theorem test_stand_online :
    let s := { (started.setStand 0 { Stand.afterReset with map := testMap 10 12 }) with
      lineMap := some ⟨0, .one⟩ }
    let t := after (.standOnline (at7 0) 0x0010 (recordPayload 1000)) s
    code t = some .done ∧ (t.stand 0).state = .running ∧ (t.stand 0).running.map (·.roll) = some 1000 ∧
      code (after (.standOnline (at7 1) 0 0) s) = some .mapInvalid := by decide +kernel

/-- R103, R76. -/
theorem test_stand_offline :
    let t := after (.standOffline (at7 2)) (part 2 (withReady .ready) 1000)
    (t.stand 2).state = .offline ∧ (t.stand 2).queue = [record0] ∧
      code (after (.standOffline (at7 2)) (part 2 (withReady .accel) 1000)) = some .busy := by
  decide +kernel

/-- Section 5.10: an INHIBIT in MATCHED. -/
theorem test_inhibit :
    let t := after (.inhibit (at7 5)) (partRequesting 5 (showing (due (withReady .matched))) 1000
      (.spacing 5 false))
    (t.stand 5).state = .ready ∧ (t.stand 5).braking = true ∧ (t.group 0).requesters = 0 := by
  decide +kernel

/-- R100, R178. -/
theorem test_release :
    ((after (.release (at7 5)) (part 5 { withReady .ready with requestInhibit := true } 1000)).stand
        5).requestInhibit = false ∧
      code (after (.release (at7 4)) (part 5 online 1000)) = some .notOnline := by decide +kernel

/-- R102, R133: in MATCHED the forced stand requests, and a FREE group grants it at the request. -/
theorem test_splice_now :
    let t := after (.spliceNow (at7 5)) (part 5 (withReady .matched) 1000)
    (t.stand 5).state = .firingPending ∧ (t.group 0).grant = .held 5 ∧ (t.stand 5).grant = some ⟨0, false⟩
      := by decide +kernel

/-- Section 8.5: NEEDS-ARM without an arm; naming B completes the swap. -/
theorem test_clear_fault :
    let s := part 4 (faulted .confirm) 1000
    let t := after (.clearFault (at7 4) 2) s
    code (after (.clearFault (at7 4) 0) s) = some .needsArm ∧ (t.stand 4).state = .running ∧
      (t.stand 4).runningArm = .b ∧ (t.stand 4).running.map (·.roll) = some 502 := by decide +kernel

def entry0 : LogEntry :=
  ⟨3, .spliced, 301, 302, 1400, ⟨500002, 230⟩, 79667, false, false, 1800, some 1893, 0, false, false⟩

/-- Section 9.6, section 1.11: the two halves of the entry. -/
theorem test_read_log :
    let s := { started with log := [entry0] }
    payload (after (.readLog (at7 0) 0x0000) s) =
        some (pack [(4, 301), (4, 302), (4, 500002), (1, 230), (1, 3), (2, 1400)]) ∧
      payload (after (.readLog (at7 0) 0x0100) s) =
        some (pack [(4, 79667), (2, 1800), (4, 1893), (4, 0), (1, 2)]) := by decide +kernel

/-- Section 9.6: the last ACK-LOG clears the overrun flag; the next is NO-SUCH. -/
theorem test_ack_log :
    let t := after (.ackLog (at7 0)) { started with log := [entry0], overrun := true }
    t.log = [] ∧ t.overrun = false ∧ code (after (.ackLog (at7 0)) t) = some .noSuch := by decide +kernel

/-- R169. -/
theorem test_unknown_kind :
    code (after (.unknownKindRequest (at7 0) 13) started) = some .badRequest := by decide +kernel

/-! ### Figures of chapters 6 and 7 -/

/-- Section 6.9: latching the tape, also across the wrap. -/
theorem test_tape_angle : tapeAngle 998 1002 125 = 1000 ∧ tapeAngle 4094 2 200 = 1 := by decide +kernel

/-- Section 6.9: the fire times of three steps. -/
theorem test_fire_time :
    fireTime 2024 1725 63 18000 = 984 ∧ fireTime 2024 1729 63 18000 = 730 ∧
      fireTime 2024 1733 63 18000 = 260539 := by decide +kernel

/-- Section 6.9: targets and references. -/
theorem test_speed_references :
    targetSpeed 6000 5 = 6030 ∧ driveReference 6030 12500 = 1006 ∧ targetSpeed 5990 5 = 6020 ∧
      driveReference 6020 12500 = 1005 ∧ driveReference 6030 100 = 65535 ∧ surfaceSpeed 40 12500 = 3835 ∧
      surfaceSpeed 62 12500 = 5944 ∧ surfaceSpeed 63 12500 = 6040 ∧ surfaceSpeed 4095 16000 = 502533 := by
  decide +kernel

/-- Sections 1.10 and 9.6: the knife plan, and a knife written a frame late. -/
theorem test_knife_plan :
    let p := firePlanAt { Params.default with tPaste := 18000 } 6000 1800 ⟨500002, 230⟩
    p.delay = 79667 ∧ p.knife = ⟨500321, 147⟩ ∧ (p.issueKnife 500321 500).delay = 79770 ∧
      (p.issueKnife 500321 500).knife = ⟨500322, 0⟩ := by decide +kernel

/-- Section 9.6: the confirm lag. -/
theorem test_confirm_lag : confirmLag ⟨500321, 147⟩ ⟨500329, 40⟩ = 1893 := by decide +kernel

/-- Section 7.9: the grant order of stands 1, 4, 6 and 7. -/
theorem test_grant_order :
    let m (d : Nat) (v : Bool) : Stand :=
      { due (withReady .matched) with running := some { running0 with dRun := d, valid := v } }
    let s := ((((part 1 (m 1790 true) 1000).setStand 4 (m 1760 true)).setStand 6 (m 5000 true)).setStand 7
      (m 0 false)).setGroup 0 ⟨.free, 0b11010010, 5000000⟩
    s.chosen 0 = some 4 ∧ (s.setGroup 0 ⟨.free, 0b11000010, 0⟩).chosen 0 = some 1 ∧
      (s.setGroup 0 ⟨.free, 0b11000000, 0⟩).chosen 0 = some 6 := by decide +kernel

/-! ### Witnesses: the hypotheses of each statement, met together -/

/-- A stand whose five signals are LIVE one step before their limit, at divisor 1. -/
def aged (st : Stand) : Stand :=
  { st with
    armA := { st.armA with spindle := ⟨⟨.live, 7, some 1⟩, some 9, [9]⟩
                           gauge := ⟨⟨.live, 7, some 1⟩, some 12500, some true⟩ }
    armB := { st.armB with spindle := ⟨⟨.live, 7, some 1⟩, some 9, [9]⟩
                           gauge := ⟨⟨.live, 7, some 1⟩, some 12500, some true⟩ }
    status := ⟨⟨.live, 7, some 1⟩, some ⟨true, true⟩⟩ }

def lineLive (n : Nat) (s : State) : State :=
  { s with lineMap := some ⟨0, .one⟩, line := ⟨⟨.live, n, some 1⟩, some 0, [0]⟩ }

def firing : Stand :=
  { withReady .firingPending with
    sched := { Scheduler.empty with prepared := some ⟨1001, 230⟩ }, grant := some ⟨0, false⟩ }

def windowed : Stand :=
  { aged online with window := some ⟨188250, 4091, 4091⟩ }

theorem wit_StepRunsFrontCommand : State.reset.pending = [] := rfl

theorem wit_ResetLosesAllState :
    let s : State := { part 3 online 1000 with
      outFrame := some struckFrame, outArrived := some (emptyOut 1001), retFrame := some (emptyRet 1000)
      retArrived := some (emptyRet 1000), inFlight := some ⟨none, some ⟨7, 1, 0, .done, 0⟩⟩
      outPassing := true }
    let h : State := { State.reset with heldReply := some ⟨7, 1, 0, .done, 0⟩ }
    s.inReset = false ∧ State.reset.inFlight = none ∧ State.reset.outPassing = false ∧
      PassingAgrees h ∧ h.heldReply.isSome = true ∧
      s.outFrame = some struckFrame ∧ s.outArrived = some (emptyOut 1001) ∧
      s.retFrame = some (emptyRet 1000) ∧ s.retArrived = some (emptyRet 1000) ∧
      (s.inFlight.bind (·.reply)).isSome = true ∧
      7 + 5 * (47 : Fin 48).val ≤ (242 : Fin 263).val ∧ (241 : Fin 263).val < 242 ∧
      (236 : Fin 263).val < 2 + 5 * (47 : Fin 48).val ∧ 7 + 5 * (95 : Fin 96).val ≤ (482 : Fin 503).val ∧
      (476 : Fin 503).val < 2 + 5 * (95 : Fin 96).val ∧ (481 : Fin 503).val < 482 ∧
      ({ State.reset with inReset := true } : State).inReset = true := by
  unfold PassingAgrees
  decide +kernel

theorem wit_NodeAddressLatchedAndHeld :
    ({ State.reset with inReset := true } : State).inReset = true ∧
      ({ State.reset with nodeAddr := 0 } : State).nodeAddr = 0 ∧
      ({ State.reset with nodeAddr := 31 } : State).nodeAddr = 31 ∧
      requestOf (.ackLog (at7 0)) = some (at7 0, 12) ∧
      ∃ t, exec .linkLoss State.reset = .next t ∧ Instr.linkLoss ≠ .resetAssertion ∧
        ∀ a, Instr.linkLoss ≠ .resetRelease a :=
  ⟨rfl, rfl, rfl, rfl, _, rfl, nofun, nofun⟩

/-- First frame; in sequence; d = 65536; a break by number and by link loss. -/
theorem wit_MarkerExtendsEngineCycle :
    State.reset.inReset = false ∧ State.reset.engineCycle = none ∧
      (part 0 online 65535).engineCycle = some 65535 ∧
      (emptyOut 2).cycle ≠ ((65535 : Word) + 1).setWidth 16 ∧
      ({ part 0 online 65535 with linkLost := true } : State).linkLost = true ∧
      GroupsAgree (part 2 checking 1000) ∧ ((part 2 checking 1000).stand 2).state = .checking ∧
      ((part 2 checking 1000).stand 2).gaugeWindow = some ⟨.b, 787500, 63, false⟩ ∧
      (part 2 checking 1000).engineCycle = some 1000 ∧ (part 2 checking 1000).inReset = false ∧
      (emptyOut 1002).cycle ≠ ((1000 : Word) + 1).setWidth 16 ∧
      ((lineLive 0 (part 0 online 1000)).lineMap.isSome = true ∧
        ((lineLive 0 (part 0 online 1000)).stand 0).inService = true) := by
  unfold GroupsAgree InhibitHolds GrantsHeld HoldersFire RequestersExact
  decide +kernel

theorem wit_MarkerLeavesForeignSlots :
    (GroupsAgree (part 3 online 1000) ∧
      GroupsAgree (part 3 { online with claimLost := true } 1000)) ∧
      (∀ k, ((part 3 online 1000).stand k).inService = true →
        ((part 3 online 1000).stand k).claimLost = false →
        (11 : Fin 48) ∉ ((part 3 online 1000).stand k).map.commandSlots) ∧
      (∀ k, ((part 3 { online with claimLost := true } 1000).stand k).inService = true →
        ((part 3 { online with claimLost := true } 1000).stand k).claimLost = false →
        (12 : Fin 48) ∉ ((part 3 { online with claimLost := true } 1000).stand k).map.commandSlots) := by
  refine ⟨?_, ?_⟩
  · unfold GroupsAgree InhibitHolds GrantsHeld HoldersFire RequestersExact
    decide +kernel
  · decide +kernel

theorem wit_StandSlotsAreWritten :
    ((part 3 online 1000).stand 3).written = true ∧
      ((part 3 online 1000).stand 3).map.driveA = some 12 ∧
      ((part 3 online 1000).stand 3).map.driveB = some 13 ∧
      ((part 3 online 1000).stand 3).map.paste = some 14 ∧
      ((part 3 online 1000).stand 3).map.knife = some 15 ∧
      [(12 : Fin 48), 13, 14, 15].Nodup ∧ ((part 3 online 1000).stand 3).state ≠ .firingPending ∧
      ((part 3 online 1000).stand 3).state ≠ .firingIssued ∧
      ((partHeld 3 (pastFire .firingIssued plan0) 500319).stand 3).written = true ∧
      ((partHeld 3 (pastFire .firingIssued plan0) 500319).stand 3).state = .firingIssued ∧
      ((partHeld 3 (pastFire .firingIssued plan0) 500319).stand 3).sched.plan = some plan0 ∧
      plan0.knifeState = .planned ∧
      (let s := partHeld 3 firing 1000
      (s.stand 3).written = true ∧ (s.stand 3).state = .firingPending ∧
        (s.stand 3).sched.prepared = some ⟨1001, 230⟩ ∧ 1000 ≤ (s.stand 3).params.minGap ∧
        (s.stand 3).params.minGap ≤ (s.stand 3).params.maxGap ∧ (s.stand 3).params.maxGap ≤ 1000000) ∧
      (let s := part 3 online 1000
      GroupsAgree s ∧ s.hasAddress = true ∧ s.inReset = false ∧ 1 ≤ s.nodeAddr.toNat ∧ s.nodeAddr.toNat ≤ 30 ∧
        (s.stand 3).state ≠ .offline ∧ (s.stand 3).claimLost = false ∧
        (∀ i : Fin 48, (emptyOut 1001).slots[i].tag = 0) ∧
        ∀ j, j ≠ 3 → (s.stand j).inService = false) := by
  unfold GroupsAgree InhibitHolds GrantsHeld HoldersFire RequestersExact
  decide +kernel

/-- References 0 and 65535, offsets 0 and 255, and the words section 1.11 makes of them. -/
theorem wit_StandSlotsAreWritten_layout :
    0 ≤ 65535 ∧ 65535 ≤ 65535 ∧ drivePayload .speed 65535 = 0xFFFF0001 ∧ drivePayload .brake 0 = 3 ∧
      0 ≤ 255 ∧ 255 ≤ 255 ∧ firePayload (some 255) = 0xFF01 ∧ firePayload (some 0) = 1 := by decide +kernel

/-- Two stands in service on slots 12-15 and 16-19, in a frame that arrives with tag 0. -/
theorem wit_StandSlotsAreWritten_frame :
    let s := (part 3 online 1000).setStand 4 { online with map := testMap 20 16 }
    s.inReset = false ∧ s.hasAddress = true ∧ 1 ≤ s.nodeAddr.toNat ∧ s.nodeAddr.toNat ≤ 30 ∧
      (s.stand 3).state ≠ .offline ∧ (s.stand 3).claimLost = false ∧ (s.stand 4).inService = true ∧
      (∀ i : Fin 48, (emptyOut 1001).slots[i].tag = 0) ∧
      (∀ j, j ≠ 3 → (s.stand j).inService = true → ∀ i ∈ (s.stand j).map.commandSlots,
        i ∉ [(12 : Fin 48), 13, 14, 15]) ∧
      (s.stand 3).map.commandSlots = [12, 13, 14, 15] := by decide +kernel

theorem wit_ClaimConflictStrikesStand :
    GroupsAgree (partHeld 3 (pastFire .confirm plan1) 1000) ∧
      ((partHeld 3 (pastFire .confirm plan1) 1000).stand 3).inService = true ∧
      ((partHeld 3 (pastFire .confirm plan1) 1000).stand 3).state ≠ .fault ∧
      GroupsAgree (part 3 (faulted .ready) 1000) ∧
      ((part 3 (faulted .ready) 1000).stand 3).inService = true ∧
      ((part 3 (faulted .ready) 1000).stand 3).state = .fault := by
  unfold GroupsAgree InhibitHolds GrantsHeld HoldersFire RequestersExact
  decide +kernel

/-- A stand struck in CONFIRM, with what its log entry is formed from, and one struck in RUNNING. -/
theorem wit_ClaimConflictStrikesStand_log :
    let s := partHeld 3 (pastFire .confirm plan1) 1000
    LogBounded s ∧ (s.stand 3).state ∈ [.firingIssued, .confirm] ∧ (s.stand 3).running = some running0 ∧
      (s.stand 3).ready = some (ready0 (some 12500) true) ∧ (s.stand 3).sched.plan = some plan1 ∧
      (s.stand 3).kept = some ⟨0, false, false⟩ ∧ LogBounded (part 3 online 1000) ∧
      GroupsAgree (part 3 online 1000) ∧
      ((part 3 online 1000).stand 3).state ∉ [.firingIssued, .confirm] := by
  unfold LogBounded GroupsAgree InhibitHolds GrantsHeld HoldersFire RequestersExact
  decide +kernel

/-- A foreign tag in slot 12 of a stand in RUNNING, and of one in FAULT; the other stands are not struck. -/
theorem wit_ClaimConflictStrikesStand_frame :
    (∀ st ∈ [online, { faulted .ready with claimLost := false }],
      let s := part 3 st 1000
      s.inReset = false ∧ s.hasAddress = true ∧ GroupsAgree s ∧ (s.stand 3).state ≠ .offline ∧
        (s.stand 3).claimLost = false ∧ (s.stand 3).map = testMap 10 12 ∧ (s.stand 0).state = .offline ∧
        (∀ j, j ≠ 3 → (s.stand j).inService = false)) ∧
      (testMap 10 12).driveA = some 12 ∧ (12 : Fin 48) ∈ (testMap 10 12).commandSlots ∧
      struckFrame.slots[(12 : Fin 48)].tag = 4 ∧ State.reset.nodeAddr = 7 := by
  unfold GroupsAgree InhibitHolds GrantsHeld HoldersFire RequestersExact
  decide +kernel

theorem wit_MatchedReturnFrameIsWritten :
    let s : State := { lineLive 0 (part 3 online 1000) with imageActive := some (0, 95) }
    let s' := part 3 online 1000
    s.inReset = false ∧ s.hasAddress = true ∧ s.inFlight = none ∧ s.returnDecided = false ∧
      s.lastCycle = some (emptyRet 1000).cycle ∧ s.imageActive = some (0, 95) ∧
      (0 : Fin 96) ≠ 95 ∧ s.lineMap = some ⟨0, .one⟩ ∧ (s.stand 3).inService = true ∧
      s'.inReset = false ∧ s'.hasAddress = true ∧ s'.inFlight = none ∧ s'.returnDecided = false ∧
      s'.lastCycle = some (emptyRet 1000).cycle ∧ s'.imageActive = none ∧ s'.lineMap = none ∧
      GroupsAgree s' ∧ (s'.stand 0).state = .offline ∧ (s'.stand 3).state ≠ .offline ∧
      ({ s' with inFlight := some ⟨some (emptyRet 1000).slots, some ⟨7, 1, 0, .done, 0⟩⟩ } : State).inFlight =
        some ⟨some (emptyRet 1000).slots, some ⟨7, 1, 0, .done, 0⟩⟩ := by
  unfold GroupsAgree InhibitHolds GrantsHeld HoldersFire RequestersExact
  decide +kernel

/-- The reel-present changes: a reel off in CHECKING, READY, FAULT and ACCEL and under a tape-spent context;
a mount edge by change and by first refresh; no change. -/
theorem wit_MatchedReturnFrameIsWritten_changes :
    let h (c : Option Bool) (f : Bool) : StandHand :=
      ⟨⟨false, false, none, false, none, none, none, false⟩, ⟨false, false, none, false, none, none, c, f⟩, none⟩
    online.readyArm = .b ∧ ((h (some false) false).arm .b).change = some false ∧
      (∀ x ∈ [StandState.checking, .ready, .fault, .accel],
        (withReady x).ready = some (ready0 (some 12500) false)) ∧
      (ready0 (some 12500) false).spent = false ∧
      (faulted .confirm).ready = some (ready0 (some 12500) true) ∧ (faulted .confirm).state = .fault ∧
      online.ready = none ∧ ((h (some true) false).arm .b).change = some true ∧
      ((h none true).arm .b).change = none ∧ ((h none true).arm .b).firstTrue = true ∧
      (({ online with armB := { online.armB with declaredEmpty := true } } : Stand).arm
        .b).declaredEmpty = true ∧
      ((h none false).arm .b).firstTrue = false := by decide +kernel

theorem wit_UnmatchedReturnFramePasses :
    let s := part 3 online 1000
    s.inReset = false ∧ s.inFlight = none ∧ s.returnDecided = false ∧ s.lastCycle = some 1000 ∧
      (emptyRet 999).cycle ≠ 1000 ∧ ({ s with returnDecided := true } : State).returnDecided = true ∧
      State.reset.inReset = false ∧ State.reset.inFlight = none ∧ State.reset.returnDecided = false ∧
      State.reset.lastCycle = none := by decide +kernel

/-- A holder, a further stand in FAULT, an OFFLINE stand; an unarmed watch. -/
theorem wit_LinkLossStrikesStandsInService :
    let s : State := { (partHeld 3 (pastFire .firingIssued plan0) 1000).setStand 4 (faulted .ready) with
      watchArmed := true }
    s.inReset = false ∧ s.watchArmed = true ∧ GroupsAgree s ∧ (s.group 0).grant = .held 3 ∧
      (s.stand 3).inService = true ∧ (s.stand 3).state ≠ .fault ∧ (s.stand 3).state = .firingIssued ∧
      (s.stand 4).inService = true ∧ (s.stand 4).state = .fault ∧ (s.stand 0).inService = false ∧
      State.reset.watchArmed = false ∧ LogBounded s ∧ ContextsAgree s := by
  unfold LogBounded ContextsAgree
  unfold GroupsAgree InhibitHolds GrantsHeld HoldersFire RequestersExact
  decide +kernel

/-- A refresh, a repeated count, and the limit. -/
theorem wit_CaptureOfASlot :
    (Capture.take ⟨.live, 7, some 1⟩ 8 (some ⟨2, 0, 0⟩)).2 = true ∧
      (Capture.take ⟨.live, 7, some 1⟩ 8 (some ⟨1, 0, 0⟩)).2 = false ∧
      (Capture.take ⟨.live, 6, some 1⟩ 8 none).2 = false ∧
      (let sl := (Vector.replicate 96 (⟨2, 0, 0x70D4⟩ : Slot))[(95 : Fin 96)]
      (∃ c, (some (1 : BitVec 3)) = some c ∧ sl.count ≠ c) ∧ ¬ (∃ c, (some (2 : BitVec 3)) = some c ∧ sl.count ≠ c) ∧
        gaugeDiameter sl.payload = some 12500 ∧ sl.payload.getLsbD 14 = true) ∧
      (0x4000 : BitVec 32).extractLsb' 0 14 = 0#14 ∧
      (let g (c : Condition) : Spindle := ⟨⟨c, 7, some 1⟩, some 3, List.replicate 17 5⟩
      ((g .live).step (some ⟨95, .one⟩) none false).1.cap.cond ≠ .live ∧
        ((g .live).step (some ⟨95, .two⟩) none false).1.cap.cond = .live ∧
        ((g .live).step (some ⟨95, .two⟩) none false).1.angle = some 3 ∧
        ((g .stale).step (some ⟨95, .one⟩) (some (Vector.replicate 96 ⟨2, 0, 9⟩)) true).1.cap.cond = .live) ∧
      (let g (c : Condition) : Line := ⟨⟨c, 7, some 1⟩, some 3, [5]⟩
      ((g .live).step (some ⟨95, .one⟩) none false).cap.cond ≠ .live ∧
        ((g .live).step (some ⟨95, .two⟩) none false).cap.cond = .live ∧
        ((g .live).step (some ⟨95, .two⟩) none false).pos = some 3) := by
  refine ⟨by decide +kernel, by decide +kernel, by decide +kernel, ⟨⟨1, rfl, by decide +kernel⟩, ?_, by decide +kernel,
    by decide +kernel⟩, by decide +kernel, by decide +kernel, by decide +kernel⟩
  rintro ⟨c, h, hc⟩
  cases h
  exact hc (by decide +kernel)

/-- Each signal at its limit; signals that are not LIVE, and LINE one step short of its limit. -/
theorem wit_StaleLimitEmptiesHistory :
    let s := lineLive 7 (part 0 (aged online) 1000)
    let u := lineLive 6 (part 0 online 1000)
    s.inReset = false ∧ (s.stand 0).inService = true ∧
      ((s.stand 0).arm .a).spindle.cap.cond = .live ∧
      entryLimit ((s.stand 0).map.spindle .a) ≤ ((s.stand 0).arm .a).spindle.cap.since + 1 ∧
      ((s.stand 0).arm .b).gauge.cap.cond = .live ∧
      entryLimit ((s.stand 0).map.gauge .b) ≤ ((s.stand 0).arm .b).gauge.cap.since + 1 ∧
      (s.stand 0).status.cap.cond = .live ∧
      entryLimit (s.stand 0).map.status ≤ (s.stand 0).status.cap.since + 1 ∧
      s.lineMap = some ⟨0, .one⟩ ∧ s.line.cap.cond = .live ∧
      8 * (Divisor.one).value ≤ s.line.cap.since + 1 ∧ (s.stand 1).inService = false ∧
      signalStand (.gauge 1 .b) = some 1 ∧ u.inReset = false ∧ (u.stand 0).inService = true ∧
      ((u.stand 0).arm .a).spindle.cap.cond ≠ .live ∧ ((u.stand 0).arm .a).gauge.cap.cond ≠ .live ∧
      (u.stand 0).status.cap.cond ≠ .live ∧ u.line.cap.since + 1 < 8 * (Divisor.one).value ∧
      started.lineMap = none := by decide +kernel

/-- Each of the three counts due alone, with those before it at 62; and none due. -/
theorem wit_StaleWatchFaultsStand :
    (∀ w ∈ [StaleWatch.mk 63 0 0, .mk 62 63 0, .mk 62 62 63, .mk 62 62 62],
      let s := part 0 { withReady .accel with watch := w } 1000
      s.inReset = false ∧ GroupsAgree s ∧ s.formed = [] ∧ (s.stand 0).state.watched = true ∧
        s.line.cap.cond ≠ .live ∧ ((s.stand 0).arm (s.stand 0).readyArm).spindle.cap.cond ≠ .live ∧
        (s.stand 0).status.cap.cond ≠ .live) := by
  unfold GroupsAgree InhibitHolds GrantsHeld HoldersFire RequestersExact
  decide +kernel

/-- In a step each count reaches 64 alone, or none does: no signal stale, no watched state, a count short. -/
theorem wit_StaleWatchFaultsStand_step :
    (∀ w ∈ [StaleWatch.mk 63 0 0, .mk 62 63 0, .mk 62 62 63],
      (({ withReady .accel with watch := w } : Stand).watchStep true).watch ∈
        [.mk 64 1 1, .mk 63 64 1, .mk 63 63 64]) ∧
      (({ withReady .accel with watch := ⟨62, 62, 62⟩ } : Stand).watchStep true).watch = ⟨63, 63, 63⟩ ∧
      (({ aged (withReady .accel) with watch := ⟨63, 63, 63⟩ } : Stand).watchStep false).watch = ⟨0, 0, 0⟩ ∧
      (({ withReady .ready with watch := ⟨63, 63, 63⟩ } : Stand).watchStep true).watch = ⟨0, 0, 0⟩ := by
  decide +kernel

/-- Offsets 249 and 250, diameters 16000 and 16001. -/
theorem wit_SampleFieldsAreBounded :
    spindleMark (0x00F91000 : BitVec 32) = some 249 ∧ spindleMark (0x00FA1000 : BitVec 32) = some 249 ∧
      statusConfirm (0xF901 : BitVec 32) = some 249 ∧ statusConfirm (0xFF01 : BitVec 32) = some 249 ∧
      gaugeDiameter (16000 : BitVec 32) = some 16000 ∧ gaugeDiameter (16001 : BitVec 32) = some 16000 ∧
      gaugeDiameter 1 = some 1 ∧ spindleMark 0 = none ∧ statusConfirm 0 = none ∧ gaugeDiameter 0 = none := by
  decide +kernel

/-- A history of 16 that the step completes, and one that it leaves at 16. -/
theorem wit_SpeedsSpanSixteenCycles :
    let s (n : Nat) : State := { lineLive 0 (part 0 online 1000) with
      line := ⟨⟨.live, 0, some 1⟩, some 375, List.replicate n 0⟩ }
    let t (n : Nat) := ((s n).lineStep none false).1
    (s 16).lineMap = some ⟨0, .one⟩ ∧ (t 16).line.hist.length = 17 ∧ (t 16).line.hist[0]? = some 0 ∧
      (t 16).line.hist[16]? = some 375 ∧ (t 15).line.hist.length ≠ 17 ∧ (s 16).line.pos = some 375 ∧
      (t 16).line.pos = some 375 ∧ ((part 0 online 1000).line.pos = none) ∧
      (let v := { online with armA := { online.armA with
        spindle := ⟨.entry, some 9, List.replicate 16 0 ++ [9]⟩ } }
      (v.arm .a).spindle.hist.length = 17 ∧ (v.arm .a).spindle.hist[0]? = some 0 ∧
        (v.arm .a).spindle.hist[16]? = some 9) := by decide +kernel

/-- Travel of exactly 4096, and of 4099; acceptance open and closed. -/
theorem wit_WindowCompletionMeetsAcceptance :
    ∀ o : Bool,
      let s := lineLive 0 (part 0 { windowed with acceptOpen := o } 1000)
      s.inReset = false ∧ s.formed = [] ∧ s.windowLive 0 = true ∧
        (s.stand 0).window = some ⟨188250, 4091, 4091⟩ ∧ (s.stand 0).running = some running0 ∧
        4096 ≤ 4091 + (5 : BitVec 12).toNat := by decide +kernel

/-- A signal not LIVE; both LIVE with no window, one that stays at 4095, and one that reaches 4096. -/
theorem wit_WindowCompletionMeetsAcceptance_step :
    let v := aged online
    let x : Angle := 9
    online.armA.spindle.cap.cond ≠ .live ∧ (v.arm v.runningArm).spindle.cap.cond = .live ∧
      (v.arm v.runningArm).spindle.angle = some x ∧ v.window = none ∧
      (let u : Stand := { v with window := some ⟨188250, 4091, 5⟩ }
      u.window = some ⟨188250, 4091, 5⟩ ∧ 4091 + (x - 5).toNat = 4095) ∧
      (let u : Stand := { v with window := some ⟨188250, 4091, 4⟩ }
      u.window = some ⟨188250, 4091, 4⟩ ∧ 4091 + (x - 4).toNat = 4096) ∧
      v.running = some running0 := by decide +kernel

/-- No anchor; 199, 200 DU below it; no travel; a quotient. -/
theorem wit_CaliperIsLearnedWithinBand :
    running0.anchor = none ∧
      (let r : RunningContext := { running0 with anchor := some ⟨12500, 55651886⟩ }
      r.anchor = some ⟨12500, 55651886⟩ ∧ 12500 < 12301 + 200 ∧ 12300 + 200 ≤ 12500 ∧ 0 < 55651886) ∧
      ({ running0 with anchor := some ⟨12500, 0⟩ } : RunningContext).anchor = some ⟨12500, 0⟩ ∧
      IsRounded ((12500 ^ 2 - 12300 ^ 2) * 7854) (10 * 55651886) 70 := by
  unfold IsRounded
  decide +kernel

/-- No running context; no anchor; an anchor whose travel is 1 LU below the top of its range. -/
theorem wit_CaliperIsLearnedWithinBand_travel :
    let a : RunningContext := { running0 with anchor := some ⟨12500, 2 ^ 48 - 2⟩ }
    ({ online with running := none } : Stand).running = none ∧ online.running = some running0 ∧
      running0.anchor = none ∧ ({ online with running := some a } : Stand).running = some a ∧
      a.anchor = some ⟨12500, 2 ^ 48 - 2⟩ ∧
      (({ online with running := some a } : Stand).advanceAnchor 2).running =
        some { a with anchor := some ⟨12500, 2 ^ 48 - 1⟩ } := by decide +kernel

/-- D_run at D_s, and above it; S of 0 and above; no valid diameter. -/
theorem wit_LengthAndTimeToSplice :
    online.running = some running0 ∧ running0.valid = true ∧ 0 < running0.caliper ∧
      online.spliceDiameter < running0.dRun ∧
      (let st := { online with running := some { running0 with dRun := 1800 } }
      (st.running = some { running0 with dRun := 1800 }) ∧ 1800 ≤ st.spliceDiameter) ∧
      IsRounded ((6000 ^ 2 - 1800 ^ 2) * 7854) (10 * 74) 347698703 ∧
      IsRounded (347698703 * 4) 6000 231799 ∧
      ({ online with running := none } : Stand).diameterValid = false := by
  unfold IsRounded
  decide +kernel

/-- Averages at the tolerance and outside it. -/
theorem wit_GaugeWindowDecidesReel :
    let s := part 2 checking 1000
    s.inReset = false ∧ GroupsAgree s ∧ s.formed = [] ∧ (s.stand 2).state = .checking ∧
      (s.stand 2).gaugeWindow = some ⟨.b, 787500, 63, false⟩ ∧
      (s.stand 2).ready = some (ready0 none false) ∧ (ready0 none false).spent = false ∧
      (GaugeWindow.mk .b 787500 63 false).waits = false ∧ (GaugeWindow.mk .b 787500 63 true).waits = true ∧
      (1 : BitVec 14) ≠ 0 ∧ (16383 : BitVec 14) ≠ 0 ∧ online.gaugeWindow = none ∧
      (let st := { checking with gaugeWindow := some ⟨.b, 700000, 62, false⟩ }
      let h : ArmHand := ⟨false, false, none, false, none, some 12500, none, false⟩
      st.gaugeWindow = some ⟨.b, 700000, 62, false⟩ ∧ (StandHand.mk h h none).arm .b = h ∧
        h.reading = some 12500 ∧ { h with reading := none }.reading = none) := by
  unfold GroupsAgree InhibitHolds GrantsHeld HoldersFire RequestersExact
  decide +kernel

/-- A D_g handed over: at the tolerance on either side, and one unit outside it; and none. -/
theorem wit_GaugeWindowDecidesReel_step :
    let s := part 2 checking 1000
    let st := s.stand 2
    let r := ready0 none false
    st.state = .checking ∧ st.ready = some r ∧ r.spent = false ∧
      (∀ d ∈ [r.record.mount - st.params.mismatchTol, r.record.mount + st.params.mismatchTol],
        d ≤ r.record.mount + st.params.mismatchTol ∧ r.record.mount ≤ d + st.params.mismatchTol) ∧
      ∀ d ∈ [r.record.mount - st.params.mismatchTol - 1, r.record.mount + st.params.mismatchTol + 1],
        ¬ (d ≤ r.record.mount + st.params.mismatchTol ∧ r.record.mount ≤ d + st.params.mismatchTol) := by
  decide +kernel

/-- Refused record; duplicate; full at 6; appended; bound. -/
theorem wit_QueueReelAppendsOrRefuses :
    let s := part 2 { online with queue := [record0] } 1000
    let f := part 2 { online with queue := List.replicate 6 record0 } 1000
    let b := part 2 { online with queue := List.replicate 5 record0, mountPending := true } 1000
    s.takesAt (at7 2) 2 ∧ f.takesAt (at7 2) 2 ∧ b.takesAt (at7 2) 2 ∧ recordOf 0 = none ∧
      recordOf (recordPayload 503) = some record1 ∧ recordOf (recordPayload 502) = some record0 ∧
      record0.roll ∈ (s.stand 2).rolls ∧ (∀ j, record1.roll ∉ (s.stand j).rolls) ∧
      (s.stand 2).occupancy < 6 ∧ (s.stand 2).mountPending = false ∧
      (∀ j, record1.roll ∉ (f.stand j).rolls) ∧ (f.stand 2).occupancy = 6 ∧
      (∀ j, record1.roll ∉ (b.stand j).rolls) ∧ (b.stand 2).occupancy < 6 ∧
      (b.stand 2).state = .running ∧ (b.stand 2).braking = false ∧ (b.stand 2).mountPending = true ∧
      (b.stand 2).queue ++ [record1] = record0 :: (List.replicate 4 record0 ++ [record1]) := by
  unfold State.takesAt
  decide +kernel

/-- A record at the bounds of every field. -/
theorem wit_RecordIsAcceptedInRange :
    (recordOf (pack [(4, 1), (1, 15), (2, 3000), (2, 2499), (2, 200), (2, 4000), (1, 150)])).isSome = true ∧
      (recordOf (pack [(4, 1), (1, 0), (2, 16000), (2, 700), (2, 2200), (2, 1000), (1, 40)])).isSome = true ∧
      recordOf (pack [(4, 1), (1, 0), (2, 3000), (2, 2500), (2, 2200), (2, 0), (1, 0)]) = none := by
  decide +kernel

/-- Roll 0; in the queue; in the ready context, unbound or bound after it, or busy; running; nowhere. -/
theorem wit_WithdrawReelRemovesRecord :
    let s := part 2 { withReady .ready with queue := [record1] } 1000
    let m := part 2 { withReady .ready with queue := [record1], mountPending := true } 1000
    let b := part 2 (withReady .accel) 1000
    s.takesAt (at7 2) 2 ∧ m.takesAt (at7 2) 2 ∧ b.takesAt (at7 2) 2 ∧
      (0 : Payload).extractLsb' 0 32 = 0#32 ∧ (∃ q ∈ (s.stand 2).queue, q.roll = 503) ∧
      (∀ q ∈ (s.stand 2).queue, q.roll ≠ 502) ∧ (s.stand 2).ready = some (ready0 (some 12500) false) ∧
      (ready0 (some 12500) false).record.roll = 502 ∧ (s.stand 2).state = .ready ∧
      (s.stand 2).mountPending = false ∧ (s.stand 2).level (s.stand 2).readyArm = false ∧
      (m.stand 2).queue = [record1] ∧ (m.stand 2).braking = false ∧ (m.stand 2).mountPending = true ∧
      (b.stand 2).state ≠ .checking ∧ (b.stand 2).state ≠ .ready ∧ (∀ q ∈ (s.stand 2).queue, q.roll ≠ 501) ∧
      (s.stand 2).running = some running0 ∧ running0.roll = 501 ∧ running0.roll ≠ 504 := by
  unfold State.takesAt
  decide +kernel

/-- A part with stand 0 OFFLINE and its map complete. -/
def ready4online : State :=
  { started.setStand 0 { Stand.afterReset with map := testMap 10 12 } with lineMap := some ⟨0, .one⟩ }

theorem wit_StandOnlineChecksInOrder :
    let s := ready4online
    s.takesAt (at7 0) 0 ∧ (s.stand 0).state = .offline ∧ (s.stand 0).map = testMap 10 12 ∧
      s.lineMap = some ⟨0, .one⟩ ∧ s.imageMap = none ∧ (∀ j, (s.stand j).state = .offline) ∧
      [(0 : Fin 96), 10, 11, 12, 13, 14].Nodup ∧ [(12 : Fin 48), 13, 14, 15].Nodup ∧
      started.takesAt (at7 0) 0 ∧ (started.stand 0).state = .offline ∧
      (started.stand 0).map = .unset ∧ (part 0 online 1000).takesAt (at7 0) 0 ∧
      ((part 0 online 1000).stand 0).state ≠ .offline ∧ 2 ≤ ((2 : BitVec 16).extractLsb' 0 2).toNat ∧
      2 ≤ ((8 : BitVec 16).extractLsb' 2 2).toNat ∧ (16 : BitVec 16).getLsbD 4 = true ∧ recordOf 0 = none ∧
      ((21 : BitVec 16).extractLsb' 0 2).toNat ≤ 1 ∧ ((21 : BitVec 16).extractLsb' 2 2).toNat ≤ 1 ∧
      (21 : BitVec 16).getLsbD 4 = true ∧ recordOf (recordPayload 502) = some record0 ∧
      (∀ j, record0.roll ∉ (s.stand j).rolls) ∧
      (let d := s.setStand 1 { online with queue := [record0] }
      d.takesAt (at7 0) 0 ∧ (d.stand 0).state = .offline ∧ record0.roll ∈ (d.stand 1).rolls) := by
  unfold State.takesAt
  decide +kernel

theorem wit_StandOfflineEndsService :
    (part 2 (withReady .ready) 1000).takesAt (at7 2) 2 ∧
      ((part 2 (withReady .ready) 1000).stand 2).state ∈ [.running, .checking, .ready, .fault] ∧
      (part 2 (withReady .accel) 1000).takesAt (at7 2) 2 ∧
      ((part 2 (withReady .accel) 1000).stand 2).state ∈
        [.accel, .matched, .firingPending, .firingIssued, .confirm, .settle] ∧
      started.takesAt (at7 2) 2 ∧ (started.stand 2).state = .offline := by
  unfold State.takesAt
  decide +kernel

theorem wit_InhibitAndReleaseSetTheFlag :
    started.takesAt (at7 2) 2 ∧ (started.stand 2).state = .offline ∧
      (part 2 (withReady .ready) 1000).takesAt (at7 2) 2 ∧
      ((part 2 (withReady .ready) 1000).stand 2).state ∉ [.accel, .matched, .firingPending] ∧
      ((part 2 { online with requestInhibit := true } 1000).stand 2).inhibited = true ∧
      ((part 2 (withReady .ready) 1000).stand 2).state ≠ .offline ∧
      ((part 2 (withReady .ready) 1000).stand 2).state ≠ .matched ∧
      (let s := part 2 (withReady .matched) 1000
      s.takesAt (at7 2) 2 ∧ (s.stand 2).state ∈ [.accel, .matched, .firingPending] ∧
        (s.stand 2).inhibited = false ∧ (s.stand 2).state = .matched ∧ GroupsAgree s) := by
  unfold State.takesAt GroupsAgree InhibitHolds GrantsHeld HoldersFire RequestersExact
  decide +kernel

/-- By request in MATCHED with the reel shown, by pin in FIRING-pending without it. -/
theorem wit_InhibitUnwindsToReady :
    let s := partRequesting 5 (showing (due (withReady .matched))) 1000 (.held 6)
    let s' := s.setStand 6 (withReady .firingPending)
    let u := partHeld 5 (withReady .firingPending) 1000
    GroupsAgree s' ∧ (s'.stand 5).state ∈ [.accel, .matched, .firingPending] ∧
      (s'.stand 5).ready = some (ready0 (some 12500) false) ∧ s'.takesAt (at7 5) 5 ∧
      (s'.stand 5).level (s'.stand 5).readyArm = true ∧
      GroupsAgree u ∧ (u.stand 5).state ∈ [.accel, .matched, .firingPending] ∧
      (u.stand 5).ready = some (ready0 (some 12500) false) ∧ u.inReset = false ∧
      (u.stand 5).pinSettled = true ∧ (u.stand 5).level (u.stand 5).readyArm = false ∧
      (∃ t, exec (.inhibit (at7 5)) s' = .next t) ∧ ∃ t, exec (.inhibitPinAssertion 5) u = .next t := by
  refine ⟨?_, ?_, ?_, ?_, ?_, ?_, ?_, ?_, ?_, ?_, ?_, ⟨_, rfl⟩, ⟨_, rfl⟩⟩
  all_goals try unfold GroupsAgree InhibitHolds GrantsHeld HoldersFire RequestersExact
  all_goals try unfold State.takesAt
  all_goals decide +kernel

theorem wit_PinAssertionSetsLevel :
    let s := part 2 (withReady .ready) 1000
    s.inReset = false ∧ (s.stand 2).pinSettled = true ∧ (s.stand 2).pinAsserted = false ∧
      (s.stand 2).state ∉ [.accel, .matched, .firingPending] ∧
      ((part 2 { online with requestInhibit := true } 1000).stand 2).requestInhibit = true ∧
      (s.stand 0).pinSettled = false ∧ (s.stand 0).pinAsserted = true := by decide +kernel

theorem wit_PinReleaseClearsEarlyFault :
    let p (x : StandState) := part 2 { faulted x with pinAsserted := true } 1000
    let r := part 2 { online with pinAsserted := true } 1000
    (p .ready).inReset = false ∧ ((p .ready).stand 2).pinSettled = true ∧
      ((p .ready).stand 2).pinAsserted = true ∧ ((p .ready).stand 2).state = .fault ∧
      ((p .ready).stand 2).record.map (·.stateAt) = some .ready ∧
      ((p .confirm).stand 2).record.map (·.stateAt) = some .confirm ∧
      ((p .firingIssued).stand 2).record.map (·.stateAt) = some .firingIssued ∧
      (r.stand 2).pinSettled = true ∧ (r.stand 2).pinAsserted = true ∧ (r.stand 2).state ≠ .fault ∧
      (r.stand 2).state ≠ .matched ∧ ((p .ready).stand 2).contextsAgree = true := by decide +kernel

/-- The five cases of R153: a gauged reel off its arm, or on it; no context with a reel shown and a queue,
or without one of these. -/
theorem wit_Enters :
    let e (q : List ReelRecord) : Stand := { faulted .ready with ready := none, queue := q }
    (faulted .ready).ready = some (ready0 (some 12500) false) ∧ (faulted .ready).contextsAgree = true ∧
      (faulted .ready).level (faulted .ready).readyArm = false ∧
      (showing (faulted .ready)).level (faulted .ready).readyArm = true ∧
      ((showing (faulted .ready)).arm (faulted .ready).readyArm).unload = false ∧
      (∀ q ∈ [[], [record1]], (e q).contextsAgree = true ∧ (e q).braking = false ∧ (e q).ready = none ∧
        (showing (e q)).level (e q).readyArm = true ∧ (e q).level (e q).readyArm = false) := by
  decide +kernel

theorem wit_SpliceNowForcesReadyReel :
    started.takesAt (at7 2) 2 ∧ (started.stand 2).state = .offline ∧
      (part 2 online 1000).takesAt (at7 2) 2 ∧
      ((part 2 online 1000).stand 2).state ∈ [.running, .checking] ∧
      ((part 2 (withReady .accel) 1000).stand 2).state ∈ [.ready, .accel] ∧
      ((part 2 (withReady .matched) 1000).stand 2).state = .matched ∧
      GroupsAgree (part 2 (withReady .matched) 1000) ∧
      ((part 2 (faulted .ready) 1000).stand 2).state ∈
        [.firingPending, .firingIssued, .confirm, .settle, .fault] := by
  unfold State.takesAt GroupsAgree InhibitHolds GrantsHeld HoldersFire RequestersExact
  decide +kernel

theorem wit_AtMostOneArmInSpeed :
    (faulted .ready).state ∈ [.fault, .offline, .running, .checking, .ready, .settle] ∧
      (withReady .accel).state ≠ .offline ∧ (withReady .accel).driveMode .a ≠ .speed ∧
      (withReady .accel).state ∈ [.accel, .matched, .firingPending, .firingIssued, .confirm] ∧
      online.state ∈ [.running, .checking, .ready, .settle] ∧ (faulted .confirm).state = .fault ∧
      (faulted .confirm).record.map (·.stateAt) = some .confirm ∧
      (faulted .ready).record.map (·.stateAt) = some .ready ∧ Stand.afterReset.state = .offline := by
  decide +kernel

/-- T_ts at T_lead; due by diameter at D_s; forced; and not armed while braking. -/
theorem wit_ReadyStandArms :
    (part 0 { withReady .ready with tTs := some 30000 } 1000).stand 0 =
        { withReady .ready with tTs := some 30000 } ∧
      (withReady .ready).state = .ready ∧ (withReady .ready).pinAsserted = false ∧
      (withReady .ready).requestInhibit = false ∧ (withReady .ready).awaitsRelease = false ∧
      (withReady .ready).braking = false ∧ (withReady .ready).params.tLead = 30000 ∧ (withReady .ready).forced = false ∧
      (withReady .ready).tTs = none ∧ running0.valid = true ∧ 1800 ≤ (withReady .ready).params.dS := by
  decide +kernel

/-- An armed stand whose ready reel has a diameter, at a line speed whose target and reference are exact. -/
theorem wit_ReadyStandArms_reference :
    let s : State := { part 0 { withReady .ready with tTs := some 30000 } 1000 with lineSpeed := 6000 }
    (s.stand 0).state = .ready ∧ (s.stand 0).tTs = some 30000 ∧
      (s.stand 0).ready = some (ready0 (some 12500) false) ∧
      (ready0 (some 12500) false).dNew = some 12500 ∧ 1 ≤ 12500 ∧
      IsRounded (s.lineSpeed * (1000 + (s.stand 0).params.ovs)) 1000 6030 ∧
      IsRounded (6030 * 65536000) (12500 * 31416) 1006 := by
  unfold IsRounded
  decide +kernel

theorem wit_ReadyReelSpeedsAreRounded :
    (withReady .accel).ready = some (ready0 (some 12500) false) ∧
      (ready0 (some 12500) false).dNew = some 12500 ∧ 1 ≤ 12500 ∧
      IsRounded (6030 * 65536000) (12500 * 31416) 1006 ∧
      ((withReady .accel).arm (withReady .accel).readyArm).rate ≤ 4095 := by
  unfold IsRounded
  decide +kernel

/-- The limit, and one count short of it; in each watched state. -/
theorem wit_TapeWatchFaultsStand :
    ∀ x ∈ [StandState.accel, .matched, .firingPending],
      let st := { withReady x with sched := { Scheduler.empty with tapeTravel := 12284 } }
      let s := if x = .firingPending then partHeld 0 st 1000 else part 0 st 1000
      s.inReset = false ∧ GroupsAgree s ∧ (s.stand 0).state ∈ [.accel, .matched, .firingPending] ∧
        12288 ≤ (s.stand 0).sched.tapeTravel + (4 : BitVec 12).toNat ∧
        (s.stand 0).sched.tapeTravel + (3 : BitVec 12).toNat < 12288 := by
  unfold GroupsAgree InhibitHolds GrantsHeld HoldersFire RequestersExact
  decide +kernel

/-- A step that moves the tape by the last 4 counts, in each watched state; in ACCEL with its timer at, and
one below, the count that is a further fault. -/
theorem wit_TapeWatchFaultsStand_step :
    let h : ArmHand := ⟨true, true, some 998, false, none, none, none, false⟩
    ∀ x ∈ [StandState.accel, .matched, .firingPending], ∀ n ∈ [79999, 79998],
      let st := { withReady x with
        armB := { online.armB with spindle := ⟨⟨.live, 0, some 1⟩, some 1002, []⟩ }
        accelTimer := some n
        sched := { Scheduler.empty with tapeTravel := 12284 } }
      let s := if x = .firingPending then partHeld 0 st 1000 else part 0 st 1000
      (s.stand 0).state ∈ [.accel, .matched, .firingPending] ∧
        ((s.stand 0).trackTape ((StandHand.mk h h none).arm (s.stand 0).readyArm) 0).sched.tapeTravel = 12288 ∧
        4 * (s.stand 0).params.tMatchMax = 80000 := by decide +kernel

/-- A mark of a LIVE signal (section 6.9), and a mark discarded after a gap. -/
theorem wit_TapeWatchFaultsStand_latch :
    let st := { withReady .accel with armB := { online.armB with spindle := ⟨⟨.live, 0, some 1⟩, some 1002, []⟩ } }
    let h : ArmHand := ⟨true, true, some 998, false, some 125, none, none, false⟩
    (st.arm st.readyArm).spindle.angle = some 1002 ∧ h.mark = some 125 ∧ h.wasLive = true ∧
      h.before = some 998 ∧ IsRounded (((1002 : Angle) - 998).toNat * 125) 250 2 ∧
      ({ h with wasLive := false } : ArmHand).wasLive = false ∧ h.refreshed = true := by
  unfold IsRounded
  decide +kernel

theorem wit_AccelerationTimerFaultsStand :
    (∀ n ∈ [79999, 79998],
      let s := part 0 { withReady .accel with accelTimer := some n } 1000
      s.inReset = false ∧ GroupsAgree s ∧ s.formed = [] ∧ (s.stand 0).state = .accel ∧
        (s.stand 0).accelTimer = some n) ∧
      4 * (Params.default).tMatchMax ≤ 79999 + 1 ∧ 79998 + 1 < 4 * (Params.default).tMatchMax ∧
      (let st := { withReady .accel with
        accelTimer := some 5, sNew := some 6040, sched := { Scheduler.empty with target := some 6030 } }
      st.accelTimer = some 5 ∧ st.sNew = some 6040 ∧ st.sched.target = some 6030) ∧
      ((part 0 (withReady .matched) 1000).stand 0).state = .matched ∧
      (∀ x ∈ [StandState.accel, .matched, .firingPending], (withReady x).sched.tapeTravel = 0 ∧
        ((part 0 (withReady x) 1000).stand 0).state = x) ∧
      (let s := part 0 (due (withReady .accel)) 1000
      (s.stand 0).due = true ∧ (s.stand 0).inhibited = false) ∧
      ((part 0 (withReady .accel) 1000).stand 0).due = false := by
  unfold GroupsAgree InhibitHolds GrantsHeld HoldersFire RequestersExact
  decide +kernel

/-- The figures of section 6.9, and rates 1 and 4095. -/
theorem wit_PasteOpportunityPreparesFire :
    IsRounded (((2024 : Angle) - 1729).toNat * 4000) 63 18730 ∧ IsRounded (4096 * 4000) 63 260063 ∧
      IsRounded (((2024 : Angle) - 1729).toNat * 4000) 4095 288 ∧ IsRounded (4096 * 4000) 4095 4001 ∧
      IsRounded (((2024 : Angle) - 1729).toNat * 4000) 1 1180000 ∧ IsRounded (4096 * 4000) 1 16384000 ∧
      ((withReady .firingPending).arm (withReady .firingPending).readyArm).rate ≤ 4095 := by
  unfold IsRounded
  decide +kernel

theorem wit_FireWriteFormsPlan :
    let s := partHeld 3 firing 1000
    (s.stand 3).sched.prepared = some ⟨1001, 230⟩ ∧
      (s.stand 3).ready = some (ready0 (some 12500) false) ∧ (s.stand 3).state = .firingPending ∧
      (s.stand 3).grant = some ⟨0, false⟩ ∧ (ready0 (some 12500) false).spent = false ∧
      (PreparedFire.mk 1001 230).cycle = 1001 ∧ (PreparedFire.mk 1001 230).cycle ≠ 1002 := by
  decide +kernel

/-- The three cases of the delay, and a line at rest. -/
theorem wit_KnifeDelayLiesBetweenGaps :
    let q := Params.default
    q.minGap ≤ q.maxGap ∧ IsRounded (q.lKnife * 4000) 6000 66667 ∧ q.tKnife + q.minGap ≤ q.tPaste + 66667 ∧
      q.tPaste + 66667 ≤ q.tKnife + q.maxGap ∧ IsRounded (q.lKnife * 4000) 1 400000000 ∧
      q.tKnife + q.maxGap < q.tPaste + 400000000 ∧
      (let q' := { q with lKnife := 0, tPaste := 1000 }
      IsRounded (q'.lKnife * 4000) 6000 0 ∧ q'.tPaste + 0 < q'.tKnife + q'.minGap) := by
  unfold IsRounded
  decide +kernel

/-- The frame before the knife's, the knife's, and a later one. -/
theorem wit_KnifeWriteOpensConfirm :
    let s := partHeld 3 (pastFire .firingIssued plan0) 500319
    (s.stand 3).state = .firingIssued ∧ (s.stand 3).sched.plan = some plan0 ∧
      plan0.knifeState = .planned ∧ cycleAfter plan0.knife.cycle (500319 + 1) = true ∧
      cycleAfter plan0.knife.cycle (500320 + 1) = false ∧ plan0.knife.cycle = 500320 + 1 ∧
      cycleAfter plan0.knife.cycle (500321 + 1) = false ∧ plan0.knife.cycle ≠ 500321 + 1 := by
  decide +kernel

/-- A confirm one µs before the end, at the end, before the knife; and a cycle that begins at the end. -/
theorem wit_ConfirmIsAcceptedBeforeTimeout :
    let e : Instant := ⟨502321, 147⟩
    (pastFire .confirm plan1).sched.plan = some plan1 ∧ plan1.windowEnd = some e ∧
      Instant.before ⟨502322 - 1, 146⟩ e = true ∧ Instant.before ⟨502322 - 1, 147⟩ e = false ∧
      Instant.before ⟨502322 - 1, 146⟩ plan1.knife = false ∧
      Instant.before ⟨500321 - 1, 200⟩ plan1.knife = true ∧ Instant.before ⟨500321 - 1, 200⟩ e = true ∧
      Instant.before ⟨502321, 0⟩ e = true ∧ Instant.before ⟨502322, 0⟩ e = false ∧
      ((partHeld 3 (pastFire .firingIssued plan0) 500319).stand 3).state = .firingIssued ∧
      (let s := partHeld 3 (pastFire .confirm plan1) 502322
      let st := (s.stand 3).formTarget s.lineSpeed
      (s.stand 3).state = .confirm ∧ (st.confirmWork (some 146) s.cycle).2 = .confirmed ∧
        (st.confirmWork none s.cycle).2 = .fault .confirmTimeout false ∧
        (st.confirmWork none 502321).2 = .stay) := by decide +kernel

theorem wit_SettleTransfersContexts :
    let s := partHeld 3 (pastFire .confirm plan1) 500330
    (s.stand 3).state = .confirm ∧ (s.stand 3).running = some running0 ∧
      (s.stand 3).ready = some (ready0 (some 12500) true) ∧ (s.stand 3).sched.plan = some plan1 ∧
      (s.stand 3).kept = some ⟨0, false, false⟩ := by decide +kernel

/-- In SETTLE: not home; home with nothing to bind; home with a reel and a record waiting. -/
theorem wit_SettleTransfersContexts_end :
    let st : Stand := { online with state := .settle, status := ⟨⟨.live, 0, some 1⟩, some ⟨true, true⟩⟩ }
    let w : Stand := { st with mountPending := true, queue := [record0] }
    st.state = .settle ∧ st.braking = false ∧ st.status.home = some ⟨true, true⟩ ∧ st.mountPending = false ∧
      w.mountPending = true ∧ w.queue = [record0] ∧
      ({ st with status := online.status } : Stand).status.home = none ∧ online.state ≠ .settle ∧
      ({ st with braking := true } : Stand).braking = true := by decide +kernel

/-- In RUNNING: a mount-pending reel with a record to bind; an unmounted arm, a braking one, nothing pending
and nothing queued. In a controller step: the flag set before it, a mount edge, the first refresh of an arm
declared EMPTY, an unmount; a braking arm at rest and still turning. In CHECKING and READY: an unmount. -/
theorem wit_SettleTransfersContexts_running :
    let w : Stand := { online with mountPending := true, queue := [record0] }
    let s := part 0 w 1000
    let hand (first : Bool) (c : Option Bool) : StandHand :=
      ⟨⟨false, false, none, false, none, none, none, false⟩, ⟨false, false, none, false, none, none, c, first⟩,
        none⟩
    (s.stand 0).state = .running ∧ (s.stand 0).braking = false ∧ (s.stand 0).mountPending = true ∧
      (s.stand 0).queue = [record0] ∧ online.mountPending = false ∧ online.queue = [] ∧
      online.ready = none ∧ online.readyArm = .b ∧
      ((hand false (some true)).arm .b).change = some true ∧
      ((hand true none).arm .b).firstTrue = true ∧ ((hand true none).arm .b).change ≠ some false ∧
      ((hand false (some false)).arm .b).change = some false ∧
      (let e : Stand := { online with armB := { online.armB with declaredEmpty := true } }
      (e.arm e.readyArm).declaredEmpty = true) ∧
      (let v : Stand := { w with braking := true }
      v.braking = true ∧ (v.arm v.readyArm).rate = 0) ∧
      (let v : Stand := { w with braking := true, armB := { online.armB with rate := 1 } }
      v.braking = true ∧ (v.arm v.readyArm).rate ≠ 0) ∧
      checking.state = .checking ∧ checking.ready = some (ready0 none false) ∧
      (withReady .ready).state = .ready ∧ (withReady .ready).ready = some (ready0 (some 12500) false) ∧
      (ready0 none false).spent = false ∧ (ready0 (some 12500) false).spent = false := by decide +kernel

theorem wit_ConfirmTimeoutLogsNoConfirm :
    GroupsAgree (partHeld 4 (pastFire .confirm plan1) 502321) ∧
      GroupsAgree (partHeld 4 (pastFire .confirm plan1) 502322) ∧
      (let s := partHeld 4 (pastFire .confirm plan1) 502321
      s.inReset = false ∧ s.log.length ≤ 32 ∧ s.formed = [] ∧ (s.stand 4).state = .confirm ∧
        (s.stand 4).sched.plan = some plan1 ∧ plan1.windowEnd = some ⟨502321, 147⟩ ∧
        (s.stand 4).running = some running0 ∧ (s.stand 4).ready = some (ready0 (some 12500) true) ∧
        (s.stand 4).kept = some ⟨0, false, false⟩ ∧ ∀ j, (s.group (s.groupOf 4)).has j = false) ∧
      Instant.before ⟨502321, 0⟩ ⟨502321, 147⟩ = true ∧
      Instant.before ⟨502322, 0⟩ ⟨502321, 147⟩ = false := by
  unfold GroupsAgree InhibitHolds GrantsHeld HoldersFire RequestersExact
  refine ⟨?_, ?_, ?_, ?_⟩ <;> decide +kernel

theorem wit_GrantGoesToFirstRequester :
    let m (d : Nat) : Stand :=
      { due (withReady .matched) with
        running := some { running0 with dRun := d }, requestStart := some 900 }
    let s (g : GrantState) := ((part 1 (m 1790) 1000).setStand 4 (m 1400)).setGroup 0 ⟨g, 0b00010010, 5000000⟩
    (s .free).chosen 0 = some 4 ∧ (s (.spacing 5 false)).chosen 0 = some 4 ∧ (s (.held 7)).chosen 0 = none ∧
      ((s .free).stand 4).requestStart = some 900 ∧ ((s .free).group 0).has 1 = true ∧
      ((s .free).group 0).grant = .free ∧ ((s (.spacing 5 false)).group 0).grant = .spacing 5 false ∧
      ((s (.held 7)).group 0).grant = .held 7 ∧ State.reset.chosen 0 = none := by decide +kernel

/-- The same stand with a second one of its group waiting, urgent or not, and a stagger length. -/
def partHeldWaiting (st : Stand) (stagger : Nat) : State :=
  ((partHeld 4 (pastFire .confirm plan1) 502322).setStand 5 st).setGroup 0 ⟨.held 4, 1#8 <<< 5, stagger⟩

def urgentRequester : Stand :=
  { due (withReady .matched) with running := some { running0 with dRun := 1000 } }

theorem wit_ConfirmTimeoutLogsNoConfirm_waiting :
    (let s := partHeldWaiting (due (withReady .matched)) 5000000
    GroupsAgree s ∧ (s.group 0).has 5 = true ∧ (s.stand 5).urgent = false ∧
        (s.group 0).stagger ≠ 0 ∧ s.groupOf 4 = 0) ∧
      (let s := partHeldWaiting urgentRequester 5000000
      GroupsAgree s ∧ (s.group 0).has 5 = true ∧ (s.stand 5).urgent = true ∧ (s.group 0).stagger ≠ 0) ∧
      (let s := partHeldWaiting (due (withReady .matched)) 0
      GroupsAgree s ∧ (s.group 0).has 5 = true ∧ (s.group 0).stagger = 0) := by
  unfold GroupsAgree InhibitHolds GrantsHeld HoldersFire RequestersExact
  refine ⟨?_, ?_, ?_⟩ <;> decide +kernel

/-- The increment at the remaining length and one below it; with and without a requester. -/
theorem wit_SpacingEndFreesGroup :
    let s := partRequesting 5 (due (withReady .matched)) 53964 (.spacing 125 false)
    let u := (part 5 (withReady .ready) 53964).setGroup 0 ⟨.spacing 125 false, 0, 5000000⟩
    s.inReset = false ∧ GroupsAgree s ∧ (s.group 0).grant = .spacing 125 false ∧ (s.group 0).has 5 = true ∧
      u.inReset = false ∧ GroupsAgree u ∧ (u.group 0).grant = .spacing 125 false ∧
      (∀ k, (u.group 0).has k = false) ∧ 125 ≤ (125 : BitVec 23).toNat ∧ (124 : BitVec 23).toNat < 125 ∧
      ((State.reset.setGroup 0 ⟨.spacing 125 true, 0, 5000000⟩).group 0).grant = .spacing 125 true ∧
      (State.reset.group 1).grant = .free := by
  unfold GroupsAgree InhibitHolds GrantsHeld HoldersFire RequestersExact
  decide +kernel

theorem wit_ClearFaultByStateAtFault :
    (∀ x ∈ [StandState.ready, .confirm, .firingIssued],
      let s := part 4 (faulted x) 1000
      s.takesAt (at7 4) 4 ∧ GroupsAgree s ∧ ContextsAgree s ∧ DecisionsMade s ∧
        (s.stand 4).state = .fault ∧ (s.stand 4).record.map (·.stateAt) = some x ∧
        (s.stand 4).runningArm = .a) ∧
      (let r := part 4 online 1000
      r.takesAt (at7 4) 4 ∧ GroupsAgree r ∧ ContextsAgree r ∧ DecisionsMade r ∧
        (r.stand 4).state ≠ .offline ∧ (r.stand 4).state ≠ .fault) ∧
      started.takesAt (at7 4) 4 ∧ (started.stand 4).state = .offline ∧
      ((3 : BitVec 16).extractLsb' 0 2).toNat = 3 ∧ ((2 : BitVec 16).extractLsb' 0 2).toNat = 2 := by
  unfold State.takesAt GroupsAgree InhibitHolds GrantsHeld HoldersFire RequestersExact ContextsAgree
    DecisionsMade
  decide +kernel

theorem wit_ReadLogReadsNamedHalf :
    let s : State := { started with log := [entry0, entry0] }
    s.takesAt (at7 0) 0 ∧ s.log[1]? = some entry0 ∧ s.log.length ≤ 31 ∧ started.takesAt (at7 0) 0 ∧
      started.log = [] ∧ ({ started with log := [entry0] } : State).log = [entry0] ∧
      s.log = entry0 :: entry0 :: [] := by
  unfold State.takesAt
  decide +kernel

/-- Another target; each of the three common checks failing; a taken request. -/
theorem wit_CommonChecksGiveBadRequest :
    requestOf (.ackLog ⟨8, 0⟩) = some (⟨8, 0⟩, 12) ∧ started.takes ⟨8, 0⟩ = false ∧
      started.takes (at7 8) = true ∧ 8 ≤ (at7 8).stand.toNat ∧ unknownKind 13 = true ∧
      WellFormed (.unknownKindRequest (at7 0) 13) = true ∧
      WellFormed (.readItem (at7 0) 0x0112) = true ∧ selectorFits (.readItem (at7 0) 0x0112) = false ∧
      selectorFits (.readLog (at7 0) 0x0020) = false ∧ selectorFits (.readItem (at7 0) 0x0111) = true := by
  decide +kernel

/-- Present and absent items, the last index of a class. -/
theorem wit_ReadItemChangesNothing :
    let s := part 2 { online with queue := [record0] } 1000
    s.takesAt (at7 2) 2 ∧ ContextsAgree s ∧ 17 < classSize 1 ∧ 5 < classSize 11 ∧
      (s.stand 2).queue.length ≤ 1 ∧ (s.stand 2).ready = none ∧ s.lineMap = none ∧
      started.takesAt (at7 2) 2 ∧ ContextsAgree started ∧ (started.stand 2).state = .offline ∧
      (started.stand 2).record = none ∧ 1 < classSize 9 ∧ 0 < classSize 8 ∧ 0 < classSize 15 := by
  unfold State.takesAt ContextsAgree
  decide +kernel

/-- Present items of the classes 9 to 17, of a stand in CONFIRM and one with a fault; whole maps. -/
theorem wit_ReadItemChangesNothing_items :
    let s : State :=
      { part 2 { pastFire .confirm plan1 with queue := [record1] } 1000 with
        lineMap := some ⟨0, .one⟩, imageMap := some (9, 47) }
    let f := part 2 (faulted .confirm) 1000
    s.takesAt (at7 2) 2 ∧ ContextsAgree s ∧ (s.stand 2).state ≠ .offline ∧
      (s.stand 2).map.returnEntries[0]? = some (entry 10) ∧
      (s.stand 2).map.outboundEntries[3]? = some (some 15) ∧ 8 < classSize 2 ∧ 15 < classSize 5 ∧
      3 < classSize 6 ∧ 3 < classSize 7 ∧ (s.stand 2).running = some running0 ∧
      (s.stand 2).queue[0]? = some record1 ∧ (s.stand 2).ready = some (ready0 (some 12500) true) ∧
      (s.stand 2).sched.plan = some plan1 ∧ 1 < classSize 12 ∧ 1 < classSize 13 ∧ 0 < classSize 14 ∧
      1 < classSize 16 ∧ 0 < classSize 17 ∧ 5 < classSize 18 ∧ 0 < classSize 19 ∧
      f.takesAt (at7 2) 2 ∧ ContextsAgree f ∧ (f.stand 2).record.isSome = true ∧
      (part 2 online 1000).takesAt (at7 2) 2 ∧ ContextsAgree (part 2 online 1000) ∧
      ((part 2 online 1000).stand 2).sched.plan = none := by
  unfold State.takesAt ContextsAgree
  decide +kernel

theorem wit_ParameterWriteIsChecked :
    (part 2 (withReady .ready) 1000).takesAt (at7 2) 2 ∧
      ((part 2 (withReady .ready) 1000).stand 2).params.linked = true ∧
      ((part 2 (withReady .ready) 1000).stand 2).state ∉
        [.accel, .matched, .firingPending, .firingIssued, .confirm, .settle] ∧
      (part 2 (withReady .accel) 1000).takesAt (at7 2) 2 ∧
      ((part 2 (withReady .accel) 1000).stand 2).params.linked = true ∧
      ((part 2 (withReady .accel) 1000).stand 2).state = .accel ∧ 100000 < 100001 ∧
      (Params.set .default 12 9999).maxGap < (Params.set .default 12 9999).minGap ∧
      (Params.set .default 12 10000).minGap ≤ (Params.set .default 12 10000).maxGap := by
  unfold State.takesAt
  decide +kernel

/-- Slot 95 with divisor 4, slot 96, divisor 3; slot 47 and 48. -/
theorem wit_SlotMapWriteIsChecked :
    started.takesAt (at7 5) 5 ∧ (started.stand 5).state = .offline ∧
      (part 5 online 1000).takesAt (at7 5) 5 ∧ ((part 5 online 1000).stand 5).state ≠ .offline ∧
      (let p := pack [(1, 1), (1, 95), (1, 4)]
      Payload.bytes p 0 1 = 1 ∧ Payload.bytes p 1 1 = 95 ∧ Payload.bytes p 2 1 = 4) ∧
      Payload.bytes (pack [(1, 1), (1, 96), (1, 4)]) 1 1 = 96 ∧
      Payload.bytes (pack [(1, 1), (1, 47), (1, 3)]) 2 1 = 3 ∧
      Payload.bytes (pack [(1, 2)]) 0 1 = 2 ∧ Payload.bytes (pack [(1, 1), (1, 48)]) 1 1 = 48 := by
  unfold State.takesAt
  decide +kernel

theorem wit_GlobalMapWritesAreChecked :
    (part 5 online 1000).takesAt (at7 0) 0 ∧ (∃ j, ((part 5 online 1000).stand j).state ≠ .offline) ∧
      started.takesAt (at7 0) 0 ∧ (∀ j, (started.stand j).state = .offline) ∧
      (let p := pack [(1, 1), (1, 95), (1, 95)]
      Payload.bytes p 0 1 = 1 ∧ Payload.bytes p 1 1 = 95 ∧ Payload.bytes p 2 1 = 95) ∧
      (let p := pack [(1, 1), (1, 95), (1, 4)]
      Payload.bytes p 0 1 = 1 ∧ Payload.bytes p 1 1 ≤ 95 ∧ Payload.bytes p 2 1 ∈ [1, 2, 4]) := by
  unfold State.takesAt
  decide +kernel

theorem wit_TableWritesReplaceOneEntry :
    started.takesAt (at7 0) 0 ∧ Payload.bytes (pack [(1, 40), (2, 500)]) 0 1 = 40 ∧
      Payload.bytes (pack [(1, 40), (2, 500)]) 1 2 = 500 ∧
      Payload.bytes (pack [(1, 151), (2, 501)]) 0 1 = 151 := by
  unfold State.takesAt
  decide +kernel

theorem wit_DecodeInvertsEncode :
    encodeRequest (.clearFault (at7 4) 0xFFFF) =
        some (0b1111111111111111_000_0100_1010_00111#32, 0) ∧
      WellFormed (.clearFault (at7 4) 0xFFFF) = true := by decide +kernel

theorem wit_CommandTouchesOneStand :
    standOf (.confirmTimeout 4) = some 4 ∧ GroupsAgree (partHeld 4 (pastFire .confirm plan1) 502322) ∧
      DecisionsMade (partHeld 4 (pastFire .confirm plan1) 502322) ∧
      (partHeld 4 (pastFire .confirm plan1) 502322).formed = [] ∧
      ∃ t, exec (.confirmTimeout 4) (partHeld 4 (pastFire .confirm plan1) 502322) = .next t := by
  refine ⟨?_, ?_, ?_, ?_, _, rfl⟩
  all_goals try unfold GroupsAgree InhibitHolds GrantsHeld HoldersFire RequestersExact
  all_goals try unfold DecisionsMade
  all_goals decide +kernel

/-- A state with a command waiting that every invariant holds in. -/
def busyPart : State :=
  { partHeld 4 (pastFire .confirm plan1) 502322 with
    pending := [.confirmTimeout 4, .linkLoss], watchArmed := true, outPassing := true }

theorem wit_busyPart_safe : SafeState busyPart := by
  unfold SafeState LogBounded QueuesBounded ParamsLinked ParamsInRange HistoriesBounded RatesBounded
    CalipersInRange RollsUnique GroupsAgree InhibitHolds GrantsHeld HoldersFire RequestersExact
    DecisionsMade ContextsAgree PassingAgrees
  decide +kernel

theorem wit_StepKeepsBounds :
    LogBounded busyPart ∧ QueuesBounded busyPart ∧ HistoriesBounded busyPart ∧ RatesBounded busyPart ∧
      CalipersInRange busyPart ∧ ParamsInRange busyPart ∧ ParamsLinked busyPart ∧
      PassingAgrees busyPart ∧ busyPart.outPassing = true ∧ busyPart.pending = [.confirmTimeout 4, .linkLoss] ∧ ∃ t, step busyPart = .next t := by
  obtain ⟨h1, h2, h3, h4, h5, h6, h7, -, -, -, -, h8⟩ := wit_busyPart_safe
  exact ⟨h1, h2, h5, h6, h7, h4, h3, h8, rfl, rfl, _, rfl⟩

theorem wit_StepKeepsRollsUnique : RollsUnique busyPart ∧ ∃ t, step busyPart = .next t :=
  ⟨wit_busyPart_safe.2.2.2.2.2.2.2.1, _, rfl⟩

theorem wit_StepKeepsGroupsAgree :
    GroupsAgree busyPart ∧ DecisionsMade busyPart ∧ ∃ t, step busyPart = .next t :=
  ⟨wit_busyPart_safe.2.2.2.2.2.2.2.2.1, wit_busyPart_safe.2.2.2.2.2.2.2.2.2.1, _, rfl⟩

theorem wit_StepKeepsContextsAgree :
    GroupsAgree busyPart ∧ ContextsAgree busyPart ∧ ∃ t, step busyPart = .next t :=
  ⟨wit_busyPart_safe.2.2.2.2.2.2.2.2.1, wit_busyPart_safe.2.2.2.2.2.2.2.2.2.2.1, _, rfl⟩

end Sys2Proof.Tests
end

section
/-!
SUPPORT. The bounds of received sample fields (R29), and O14.
-/
namespace Sys2Proof.Machine

/-! ### Bounds of sample fields -/

theorem boundOffset_le (n : Nat) : boundOffset n ≤ 249 := Nat.min_le_right n 249

theorem boundOffset_of_le {n : Nat} (h : n ≤ 249) : boundOffset n = n := Nat.min_eq_left h

theorem boundOffset_of_ge {n : Nat} (h : 250 ≤ n) : boundOffset n = 249 :=
  Nat.min_eq_right (by omega)

/-- What an offset as taken is, by the field it was received in. -/
theorem boundOffset_bounds {n o : Nat} (h : boundOffset n = o) :
    o ≤ 249 ∧ (n ≤ 249 → o = n) ∧ (250 ≤ n → o = 249) :=
  h ▸ ⟨boundOffset_le n, boundOffset_of_le, boundOffset_of_ge⟩

theorem boundDiameter_of_le {n : Nat} (h : n ≤ 16000) : boundDiameter n = n := Nat.min_eq_left h

theorem boundDiameter_of_ge {n : Nat} (h : 16001 ≤ n) : boundDiameter n = 16000 :=
  Nat.min_eq_right (by omega)

/-- What a diameter as taken is, by the reading it was received in. -/
theorem boundDiameter_bounds {n d : Nat} (hn : n ≠ 0) (h : boundDiameter n = d) :
    1 ≤ d ∧ d ≤ 16000 ∧ (n ≤ 16000 → d = n) ∧ (16001 ≤ n → d = 16000) := by
  subst h
  have hpos : 1 ≤ boundDiameter n := Nat.le_min.mpr ⟨by omega, by omega⟩
  exact ⟨hpos, Nat.min_le_right n 16000, boundDiameter_of_le, boundDiameter_of_ge⟩

theorem spindleMark_eq_some_iff (w : BitVec 32) (o : Nat) :
    spindleMark w = some o ↔ w.getLsbD 12 = true ∧ boundOffset (w.extractLsb' 16 8).toNat = o := by
  unfold spindleMark; split <;> simp_all

theorem spindleMark_eq_none_iff (w : BitVec 32) : spindleMark w = none ↔ w.getLsbD 12 = false := by
  unfold spindleMark; split <;> simp_all

theorem statusConfirm_eq_some_iff (w : BitVec 32) (o : Nat) :
    statusConfirm w = some o ↔ w.getLsbD 0 = true ∧ boundOffset (w.extractLsb' 8 8).toNat = o := by
  unfold statusConfirm; split <;> simp_all

theorem statusConfirm_eq_none_iff (w : BitVec 32) : statusConfirm w = none ↔ w.getLsbD 0 = false := by
  unfold statusConfirm; split <;> simp_all

theorem gaugeDiameter_eq_some_iff (w : BitVec 32) (d : Nat) :
    gaugeDiameter w = some d ↔
      (w.extractLsb' 0 14).toNat ≠ 0 ∧ boundDiameter (w.extractLsb' 0 14).toNat = d := by
  simp [gaugeDiameter]

theorem gaugeDiameter_eq_none_iff (w : BitVec 32) :
    gaugeDiameter w = none ↔ w.extractLsb' 0 14 = 0#14 := by
  rw [← BitVec.toNat_inj]
  simp [gaugeDiameter]

/-- Settles O14: each layout is its definition, each bounded field the bound of the bits received. -/
theorem sampleFieldsAreBounded : Obligations.SampleFieldsAreBounded := by
  intro w
  refine ⟨rfl, rfl, ?spindle, spindleMark_eq_none_iff w, ?status, statusConfirm_eq_none_iff w, ?gauge,
    gaugeDiameter_eq_none_iff w⟩
  case spindle =>
    intro o ho
    exact boundOffset_bounds ((spindleMark_eq_some_iff w o).mp ho).2
  case status =>
    intro o ho
    exact boundOffset_bounds ((statusConfirm_eq_some_iff w o).mp ho).2
  case gauge =>
    intro d hd
    obtain ⟨hread, hbound⟩ := (gaugeDiameter_eq_some_iff w d).mp hd
    exact boundDiameter_bounds hread hbound

end Sys2Proof.Machine
end

section
/-!
SUPPORT. Map values (R174), the entries of a slot map and the items they are read as, the writes of the
three maps by what their payload decodes to, and O50 and O51.
-/
namespace Sys2Proof.Machine

/-! ### Stands in service, selectors, answers -/

theorem Stand.inService_iff (st : Stand) : st.inService = true ↔ st.state ≠ .offline := by
  simp [Stand.inService]

theorem State.anyOnline_iff (s : State) : s.anyOnline = true ↔ ∃ j, (s.stand j).state ≠ .offline := by
  simp [State.anyOnline, Stand.inService_iff, mem_allStands]

theorem State.anyOnline_eq_false_iff (s : State) :
    s.anyOnline = false ↔ ∀ j, (s.stand j).state = .offline := by
  rw [← Bool.not_eq_true, s.anyOnline_iff]
  simp

/-- R171: the class of the selector of index i of class c. -/
theorem itemClass_ofNat {c i : Nat} (hc : c < 256) (hi : i < 256) :
    itemClass (BitVec.ofNat 16 (256 * c + i)) = c := by
  simp only [itemClass, BitVec.extractLsb'_toNat, BitVec.toNat_ofNat, Nat.shiftRight_eq_div_pow]
  omega

/-- R171: its index. -/
theorem itemIndex_ofNat {c i : Nat} (hi : i < 256) :
    itemIndex (BitVec.ofNat 16 (256 * c + i)) = i := by
  simp only [itemIndex, BitVec.extractLsb'_toNat, BitVec.toNat_ofNat, Nat.shiftRight_eq_div_pow]
  omega

/-- A write that leaves the groups and the node address takes no grant decision, and is answered DONE with
the item as it then stands (R168). -/
theorem State.answer_wrote {s t : State} (r : Request) (kind : BitVec 4) {k : StandId} {sel : BitVec 16}
    {p : Payload} (hgroups : t.groups = s.groups) (haddr : t.nodeAddr = s.nodeAddr)
    (hitem : t.item k (itemClass sel) (itemIndex sel) = some p) :
    s.answer r kind (wrote t k sel) = t.replied r kind .done p := by
  have hsame : State.decideChanged s t = t :=
    State.decideChanged_of_same s t fun g => by simp only [State.group, hgroups]
  simp only [State.answer, wrote, doneWith, hitem, Option.getD_some, hsame, State.replied, haddr]

/-! ### Map values -/

theorem divisorOf_of_mem {n : Nat} (h : n ∈ [1, 2, 4]) : ∃ d, divisorOf n = some d ∧ d.value = n := by
  simp only [List.mem_cons, List.not_mem_nil, or_false] at h
  rcases h with rfl | rfl | rfl
  · exact ⟨.one, rfl, rfl⟩
  · exact ⟨.two, rfl, rfl⟩
  · exact ⟨.four, rfl, rfl⟩

theorem divisorOf_of_not_mem {n : Nat} (h : n ∉ [1, 2, 4]) : divisorOf n = none := by
  simp only [List.mem_cons, List.not_mem_nil, or_false, not_or] at h
  unfold divisorOf
  split <;> simp_all

/-- The map value that carries an entry: unset for none. -/
def MapValue.accepted {α : Type} : Option α → MapValue α
  | none => .unset
  | some v => .set v

/-- R22: a payload that a return entry, or the LINE map, accepts. -/
def ReturnFits (p : Payload) : Prop :=
  Payload.bytes p 0 1 = 0 ∨
    (Payload.bytes p 0 1 = 1 ∧ Payload.bytes p 1 1 ≤ 95 ∧ Payload.bytes p 2 1 ∈ [1, 2, 4])

/-- R22: a payload that an outbound entry accepts. -/
def OutboundFits (p : Payload) : Prop :=
  Payload.bytes p 0 1 = 0 ∨ (Payload.bytes p 0 1 = 1 ∧ Payload.bytes p 1 1 ≤ 47)

/-- R23: a payload that the IMAGE map accepts. -/
def ImageFits (p : Payload) : Prop :=
  Payload.bytes p 0 1 = 0 ∨
    (Payload.bytes p 0 1 = 1 ∧ Payload.bytes p 1 1 ≤ 95 ∧ Payload.bytes p 2 1 ≤ 95 ∧
      Payload.bytes p 1 1 ≠ Payload.bytes p 2 1)

theorem not_returnFits {p : Payload}
    (h : 1 < Payload.bytes p 0 1 ∨
      (Payload.bytes p 0 1 = 1 ∧ (95 < Payload.bytes p 1 1 ∨ Payload.bytes p 2 1 ∉ [1, 2, 4]))) :
    ¬ ReturnFits p := by
  rintro (hset | ⟨hset, hslot, hdiv⟩)
  · omega
  · rcases h with h | ⟨-, h | h⟩
    · omega
    · omega
    · exact h hdiv

theorem not_outboundFits {p : Payload}
    (h : 1 < Payload.bytes p 0 1 ∨ (Payload.bytes p 0 1 = 1 ∧ 47 < Payload.bytes p 1 1)) :
    ¬ OutboundFits p := by
  unfold OutboundFits; omega

theorem returnValue_of_not_fits {p : Payload} (h : ¬ ReturnFits p) : returnValue p = .refused := by
  unfold returnValue
  split
  case h_1 hset => exact absurd (.inl hset) h
  case h_2 hset =>
    split
    case isTrue hslot =>
      have hdiv : Payload.bytes p 2 1 ∉ [1, 2, 4] := fun hdiv => h (.inr ⟨hset, by omega, hdiv⟩)
      simp [divisorOf_of_not_mem hdiv]
    case isFalse => rfl
  case h_3 => rfl

theorem outboundValue_of_not_fits {p : Payload} (h : ¬ OutboundFits p) : outboundValue p = .refused := by
  unfold outboundValue
  split
  case h_1 hset => exact absurd (.inl hset) h
  case h_2 hset =>
    have hslot : ¬ Payload.bytes p 1 1 < 48 := fun hslot => h (.inr ⟨hset, by omega⟩)
    simp [hslot]
  case h_3 => rfl

theorem imageValue_of_not_fits {p : Payload} (h : ¬ ImageFits p) : imageValue p = .refused := by
  unfold imageValue
  split
  case h_1 hset => exact absurd (.inl hset) h
  case h_2 hset =>
    split
    case isTrue hslots =>
      have heq : Payload.bytes p 1 1 = Payload.bytes p 2 1 :=
        by_contra fun hne => h (.inr ⟨hset, by omega, by omega, hne⟩)
      simp [heq]
    case isFalse => rfl
  case h_3 => rfl

theorem returnEntryItem_some (e : RetEntry) :
    returnEntryItem (some e) = BitVec.ofNat 128 (1 + 256 * e.slot.val + 65536 * e.divisor.value) := by
  have hslot : e.slot.val % 256 = e.slot.val := Nat.mod_eq_of_lt (by omega)
  have hdiv : e.divisor.value % 256 = e.divisor.value := by cases e.divisor <;> rfl
  simp only [returnEntryItem, pack, packNat, Nat.pow_one, hslot, hdiv]
  congr 1; omega

theorem outboundEntryItem_some (i : Fin 48) :
    outboundEntryItem (some i) = BitVec.ofNat 128 (1 + 256 * i.val) := by
  have hslot : i.val % 256 = i.val := Nat.mod_eq_of_lt (by omega)
  simp only [outboundEntryItem, pack, packNat, Nat.pow_one, hslot]
  congr 1

theorem imageMapItem_some (i j : Fin 96) :
    imageMapItem (some (i, j)) = BitVec.ofNat 128 (1 + 256 * i.val + 65536 * j.val) := by
  have hi : i.val % 256 = i.val := Nat.mod_eq_of_lt (by omega)
  have hj : j.val % 256 = j.val := Nat.mod_eq_of_lt (by omega)
  simp only [imageMapItem, pack, packNat, Nat.pow_one, hi, hj]
  congr 1; omega

/-- A payload that fits a return entry carries the entry its bytes name, which reads back as the bytes
named (R168, R174). -/
theorem returnValue_of_fits {p : Payload} (h : ReturnFits p) :
    ∃ v, returnValue p = .accepted v ∧
      returnEntryItem v = (if Payload.bytes p 0 1 = 0 then 0 else
        BitVec.ofNat 128 (1 + 256 * Payload.bytes p 1 1 + 65536 * Payload.bytes p 2 1)) ∧
      (Payload.bytes p 0 1 = 0 → v = none) ∧
      (Payload.bytes p 0 1 = 1 → v.map (·.slot.val) = some (Payload.bytes p 1 1) ∧
        v.map (·.divisor.value) = some (Payload.bytes p 2 1)) := by
  rcases h with hset | ⟨hset, hslot, hdiv⟩
  · refine ⟨none, ?_, by simp [hset, returnEntryItem], fun _ => rfl, by omega⟩
    unfold returnValue; rw [hset]; rfl
  · obtain ⟨d, hd, hval⟩ := divisorOf_of_mem hdiv
    have hlt : Payload.bytes p 1 1 < 96 := by omega
    refine ⟨some ⟨⟨_, hlt⟩, d⟩, ?_, ?_, by omega, fun _ => ⟨rfl, congrArg some hval⟩⟩
    · unfold returnValue; rw [hset, hd]; simp [hlt, MapValue.accepted]
    · rw [returnEntryItem_some, hval, if_neg (by omega)]

/-- A payload that fits an outbound entry carries the slot its byte names, which reads back as named. -/
theorem outboundValue_of_fits {p : Payload} (h : OutboundFits p) :
    ∃ v, outboundValue p = .accepted v ∧
      outboundEntryItem v = (if Payload.bytes p 0 1 = 0 then 0 else
        BitVec.ofNat 128 (1 + 256 * Payload.bytes p 1 1)) ∧
      (Payload.bytes p 0 1 = 0 → v = none) ∧
      (Payload.bytes p 0 1 = 1 → v.map Fin.val = some (Payload.bytes p 1 1)) := by
  rcases h with hset | ⟨hset, hslot⟩
  · refine ⟨none, ?_, by simp [hset, outboundEntryItem], fun _ => rfl, by omega⟩
    unfold outboundValue; rw [hset]; rfl
  · have hlt : Payload.bytes p 1 1 < 48 := by omega
    refine ⟨some ⟨_, hlt⟩, ?_, ?_, by omega, fun _ => rfl⟩
    · unfold outboundValue; rw [hset]; simp [hlt, MapValue.accepted]
    · rw [outboundEntryItem_some, if_neg (by omega)]

/-- A payload that fits the IMAGE map carries the two slots its bytes name, which read back as named. -/
theorem imageValue_of_fits {p : Payload} (h : ImageFits p) :
    ∃ v, imageValue p = .accepted v ∧
      imageMapItem v = (if Payload.bytes p 0 1 = 0 then 0 else
        BitVec.ofNat 128 (1 + 256 * Payload.bytes p 1 1 + 65536 * Payload.bytes p 2 1)) ∧
      (Payload.bytes p 0 1 = 0 → v = none) ∧
      (Payload.bytes p 0 1 = 1 →
        v.map (fun e => (e.1.val, e.2.val)) = some (Payload.bytes p 1 1, Payload.bytes p 2 1)) := by
  rcases h with hset | ⟨hset, hhead, htail, hne⟩
  · refine ⟨none, ?_, by simp [hset, imageMapItem], fun _ => rfl, by omega⟩
    unfold imageValue; rw [hset]; rfl
  · have hlt : Payload.bytes p 1 1 < 96 ∧ Payload.bytes p 2 1 < 96 := by omega
    refine ⟨some (⟨_, hlt.1⟩, ⟨_, hlt.2⟩), ?_, ?_, by omega, fun _ => rfl⟩
    · unfold imageValue; rw [hset]; simp [hlt, hne, MapValue.accepted]
    · rw [imageMapItem_some, if_neg (by omega)]

/-! ### The entries of a slot map -/

theorem SlotMap.setReturn_returnEntries (m : SlotMap) {i : Nat} (v : Option RetEntry) (hi : i < 5) :
    (m.setReturn i v).returnEntries = m.returnEntries.set i v := by
  interval_cases i <;> rfl

theorem SlotMap.setReturn_outboundEntries (m : SlotMap) (i : Nat) (v : Option RetEntry) :
    (m.setReturn i v).outboundEntries = m.outboundEntries := by
  unfold SlotMap.setReturn; split <;> rfl

theorem SlotMap.setOutbound_outboundEntries (m : SlotMap) {i : Nat} (v : Option (Fin 48)) (hlo : 5 ≤ i)
    (hhi : i < 9) : (m.setOutbound i v).outboundEntries = m.outboundEntries.set (i - 5) v := by
  interval_cases i <;> rfl

theorem SlotMap.setOutbound_returnEntries (m : SlotMap) (i : Nat) (v : Option (Fin 48)) :
    (m.setOutbound i v).returnEntries = m.returnEntries := by
  unfold SlotMap.setOutbound; split <;> rfl

theorem mapEntryItem_setReturn (m : SlotMap) {i : Nat} (v : Option RetEntry) (hi : i < 5) :
    mapEntryItem (m.setReturn i v) i = returnEntryItem v := by
  interval_cases i <;> rfl

theorem mapEntryItem_setOutbound (m : SlotMap) {i : Nat} (v : Option (Fin 48)) (hlo : 5 ≤ i)
    (hhi : i < 9) : mapEntryItem (m.setOutbound i v) i = outboundEntryItem v := by
  interval_cases i <;> rfl

theorem eq_of_getElem?_set {α : Type} {l : List α} {i : Nat} {v e : α} (h : (l.set i v)[i]? = some e) :
    e = v := by
  grind

/-! ### The write of a slot map entry (R22) -/

theorem writeEntry_return {m : SlotMap} {i : Nat} {p : Payload} {v : Option RetEntry} (hi : i < 5)
    (hv : returnValue p = .accepted v) : writeEntry m i p = some (m.setReturn i v) := by
  unfold writeEntry
  rw [if_pos hi, hv]
  cases v <;> rfl

theorem writeEntry_outbound {m : SlotMap} {i : Nat} {p : Payload} {v : Option (Fin 48)} (hi : 5 ≤ i)
    (hv : outboundValue p = .accepted v) : writeEntry m i p = some (m.setOutbound i v) := by
  unfold writeEntry
  rw [if_neg (by omega), hv]
  cases v <;> rfl

theorem writeEntry_return_refused {m : SlotMap} {i : Nat} {p : Payload} (hi : i < 5)
    (h : ¬ ReturnFits p) : writeEntry m i p = none := by
  unfold writeEntry
  rw [if_pos hi, returnValue_of_not_fits h]

theorem writeEntry_outbound_refused {m : SlotMap} {i : Nat} {p : Payload} (hi : 5 ≤ i)
    (h : ¬ OutboundFits p) : writeEntry m i p = none := by
  unfold writeEntry
  rw [if_neg (by omega), outboundValue_of_not_fits h]

section
variable {s : State} {r : Request} {k : StandId} (i : Fin 9) (p : Payload)

/-- R171: the selector of entry i names a writable item of class 2. -/
theorem mapSelector_fields :
    itemClass (BitVec.ofNat 16 (512 + i.val)) = 2 ∧ itemIndex (BitVec.ofNat 16 (512 + i.val)) = i.val :=
  ⟨itemClass_ofNat (c := 2) (by omega) (by omega), itemIndex_ofNat (c := 2) (by omega)⟩

/-- A taken write of a slot map entry is answered by the stand it names. -/
theorem exec_writeSlotMapEntry_of_taken (h : s.takesAt r k) :
    exec (.writeSlotMapEntry r (BitVec.ofNat 16 (512 + i.val)) p) s =
      .next (s.answer r 2 (mapEntryAnswer (BitVec.ofNat 16 (512 + i.val)) p s k)) := by
  obtain ⟨hclass, hindex⟩ := mapSelector_fields i
  have hwritable : writable 2 (BitVec.ofNat 16 (512 + i.val)) = true := by
    simp [writable, hclass, hindex, classSize]
  change Host.Outcome.next (s.serve r 2 _ _) = _
  rw [hwritable, State.serve_of_taken s r 2 _ k h]

theorem exec_writeSlotMapEntry_of_online (h : s.takesAt r k) (hst : (s.stand k).state ≠ .offline) :
    exec (.writeSlotMapEntry r (BitVec.ofNat 16 (512 + i.val)) p) s =
      .next (s.replied r 2 .notOffline 0) := by
  rw [exec_writeSlotMapEntry_of_taken i p h, mapEntryAnswer, if_pos ((Stand.inService_iff _).mpr hst),
    State.answer_refuse]

theorem exec_writeSlotMapEntry_of_refused (h : s.takesAt r k) (hst : (s.stand k).state = .offline)
    (hw : writeEntry (s.stand k).map i p = none) :
    exec (.writeSlotMapEntry r (BitVec.ofNat 16 (512 + i.val)) p) s =
      .next (s.replied r 2 .badValue 0) := by
  rw [exec_writeSlotMapEntry_of_taken i p h, mapEntryAnswer, (mapSelector_fields i).2, hw,
    if_neg (by simp [Stand.inService_iff, hst]), State.answer_refuse]

theorem exec_writeSlotMapEntry_of_accepted {m : SlotMap} (h : s.takesAt r k)
    (hst : (s.stand k).state = .offline) (hw : writeEntry (s.stand k).map i p = some m) :
    exec (.writeSlotMapEntry r (BitVec.ofNat 16 (512 + i.val)) p) s =
      .next ((s.setStand k { s.stand k with map := m }).replied r 2 .done (mapEntryItem m i)) := by
  obtain ⟨hclass, hindex⟩ := mapSelector_fields i
  rw [exec_writeSlotMapEntry_of_taken i p h, mapEntryAnswer, hindex, hw,
    if_neg (by simp [Stand.inService_iff, hst])]
  refine congrArg _ (State.answer_wrote r 2 rfl rfl ?_)
  rw [hclass, hindex]
  simp [State.item]

end

/-- Settles O50, by what the payload decodes to; the entry written is one element of the list of entries
of its kind. -/
theorem slotMapWriteIsChecked : Obligations.SlotMapWriteIsChecked := by
  intro s r k i p h
  refine ⟨exec_writeSlotMapEntry_of_online i p h, ?badReturn, ?badOutbound, ?goodReturn, ?goodOutbound⟩
  case badReturn =>
    intro hst hi hbad
    exact exec_writeSlotMapEntry_of_refused i p h hst (writeEntry_return_refused hi (not_returnFits hbad))
  case badOutbound =>
    intro hst hi hbad
    exact exec_writeSlotMapEntry_of_refused i p h hst
      (writeEntry_outbound_refused hi (not_outboundFits hbad))
  case goodReturn =>
    intro hst hi hfits
    obtain ⟨v, hv, hitem, hunset, hset⟩ := returnValue_of_fits hfits
    refine ⟨(s.stand k).map.setReturn i v, ?_, SlotMap.setReturn_outboundEntries _ _ _, ?_, ?_⟩
    · rw [exec_writeSlotMapEntry_of_accepted i p h hst (writeEntry_return hi hv),
        mapEntryItem_setReturn _ _ hi, hitem]
    · intro j hj
      rw [SlotMap.setReturn_returnEntries _ _ hi, List.getElem?_set_ne hj.symm]
    · intro e he
      rw [SlotMap.setReturn_returnEntries _ _ hi] at he
      rw [eq_of_getElem?_set he]
      exact ⟨hunset, hset⟩
  case goodOutbound =>
    intro hst hi hfits
    obtain ⟨v, hv, hitem, hunset, hset⟩ := outboundValue_of_fits hfits
    refine ⟨(s.stand k).map.setOutbound i v, ?_, SlotMap.setOutbound_returnEntries _ _ _, ?_, ?_⟩
    · rw [exec_writeSlotMapEntry_of_accepted i p h hst (writeEntry_outbound hi hv),
        mapEntryItem_setOutbound _ _ hi i.isLt, hitem]
    · intro j hj
      rw [SlotMap.setOutbound_outboundEntries _ _ hi i.isLt, List.getElem?_set_ne hj.symm]
    · intro e he
      rw [SlotMap.setOutbound_outboundEntries _ _ hi i.isLt] at he
      rw [eq_of_getElem?_set he]
      exact ⟨hunset, hset⟩

/-! ### The writes of the LINE map and the IMAGE map (R23) -/

section
variable {s : State} {r : Request} {k : StandId} (p : Payload)

theorem exec_writeLineMap_of_taken (h : s.takesAt r k) :
    exec (.writeLineMap r 768 p) s = .next (s.answer r 2 (lineMapAnswer 768 p s k)) := by
  have hwritable : writable 3 768 = true := by decide
  change Host.Outcome.next (s.serve r 2 _ _) = _
  rw [hwritable, State.serve_of_taken s r 2 _ k h]

theorem exec_writeImageMap_of_taken (h : s.takesAt r k) :
    exec (.writeImageMap r 1024 p) s = .next (s.answer r 2 (imageMapAnswer 1024 p s k)) := by
  have hwritable : writable 4 1024 = true := by decide
  change Host.Outcome.next (s.serve r 2 _ _) = _
  rw [hwritable, State.serve_of_taken s r 2 _ k h]

theorem exec_writeLineMap_of_online (h : s.takesAt r k) (hon : s.anyOnline = true) :
    exec (.writeLineMap r 768 p) s = .next (s.replied r 2 .notOffline 0) := by
  rw [exec_writeLineMap_of_taken p h, lineMapAnswer, if_pos hon, State.answer_refuse]

theorem exec_writeImageMap_of_online (h : s.takesAt r k) (hon : s.anyOnline = true) :
    exec (.writeImageMap r 1024 p) s = .next (s.replied r 2 .notOffline 0) := by
  rw [exec_writeImageMap_of_taken p h, imageMapAnswer, if_pos hon, State.answer_refuse]

theorem exec_writeLineMap_of_refused (h : s.takesAt r k) (hoff : s.anyOnline = false)
    (hbad : ¬ ReturnFits p) : exec (.writeLineMap r 768 p) s = .next (s.replied r 2 .badValue 0) := by
  rw [exec_writeLineMap_of_taken p h, lineMapAnswer, returnValue_of_not_fits hbad, if_neg (by simp [hoff]),
    State.answer_refuse]

theorem exec_writeImageMap_of_refused (h : s.takesAt r k) (hoff : s.anyOnline = false)
    (hbad : ¬ ImageFits p) : exec (.writeImageMap r 1024 p) s = .next (s.replied r 2 .badValue 0) := by
  rw [exec_writeImageMap_of_taken p h, imageMapAnswer, imageValue_of_not_fits hbad,
    if_neg (by simp [hoff]), State.answer_refuse]

theorem exec_writeLineMap_of_accepted {v : Option RetEntry} (h : s.takesAt r k)
    (hoff : s.anyOnline = false) (hv : returnValue p = .accepted v) :
    exec (.writeLineMap r 768 p) s = .next ((s.setLineMap v).replied r 2 .done (returnEntryItem v)) := by
  have hanswer : lineMapAnswer 768 p s k = wrote (s.setLineMap v) k 768 := by
    rw [lineMapAnswer, hv, if_neg (by simp [hoff])]
    cases v <;> rfl
  rw [exec_writeLineMap_of_taken p h, hanswer]
  exact congrArg _ (State.answer_wrote r 2 rfl rfl rfl)

theorem exec_writeImageMap_of_accepted {v : Option (Fin 96 × Fin 96)} (h : s.takesAt r k)
    (hoff : s.anyOnline = false) (hv : imageValue p = .accepted v) :
    exec (.writeImageMap r 1024 p) s =
      .next (State.replied { s with imageMap := v } r 2 .done (imageMapItem v)) := by
  have hanswer : imageMapAnswer 1024 p s k = wrote { s with imageMap := v } k 1024 := by
    rw [imageMapAnswer, hv, if_neg (by simp [hoff])]
    cases v <;> rfl
  rw [exec_writeImageMap_of_taken p h, hanswer]
  exact congrArg _ (State.answer_wrote r 2 rfl rfl rfl)

end

/-- Settles O51, by whether a stand is in service and by what the payload decodes to. -/
theorem globalMapWritesAreChecked : Obligations.GlobalMapWritesAreChecked := by
  intro s r k p h
  refine ⟨?online, ?offline⟩
  case online =>
    intro hon
    have hany := s.anyOnline_iff.mpr hon
    exact ⟨exec_writeLineMap_of_online p h hany, exec_writeImageMap_of_online p h hany⟩
  case offline =>
    intro hoff
    have hnone := s.anyOnline_eq_false_iff.mpr hoff
    refine ⟨exec_writeLineMap_of_refused p h hnone, exec_writeImageMap_of_refused p h hnone, ?line,
      ?image⟩
    case line =>
      intro hfits
      obtain ⟨v, hv, hitem, hunset, hset⟩ := returnValue_of_fits hfits
      refine ⟨v, ?_, hunset, hset⟩
      rw [exec_writeLineMap_of_accepted p h hnone hv, hitem]
      rfl
    case image =>
      intro hfits
      obtain ⟨v, hv, hitem, hunset, hset⟩ := imageValue_of_fits hfits
      refine ⟨v, ?_, hunset, hset⟩
      rw [exec_writeImageMap_of_accepted p h hnone hv, hitem]

end Sys2Proof.Machine
end

section
/-!
SUPPORT. The remaining length (R53), the time to splice (R54) and their part of a measurement step, and O18.
-/
namespace Sys2Proof.Machine

/-! ### Remaining length -/

theorem remainingLength_of_le {r : RunningContext} {dS : Nat} (h : r.dRun ≤ dS) :
    remainingLength r dS = 0 := if_pos h

/-- R53: the ring between D_run and D_s, divided by the caliper in use and saturated. -/
theorem remainingLength_of_isRounded {r : RunningContext} {dS q : Nat} (hcaliper : 0 < r.caliper)
    (h : dS < r.dRun) (hq : IsRounded ((r.dRun ^ 2 - dS ^ 2) * 7854) (10 * r.caliper) q) :
    remainingLength r dS = min (2 ^ 32 - 1) q := by
  have hround : q = roundDiv (ringArea r.dRun dS) (10 * r.caliper) := hq.eq_roundDiv (by omega)
  rw [remainingLength, if_neg (Nat.not_le.mpr h), hround]

/-! ### Time to splice -/

theorem timeToSplice_of_no_length {len : Nat} (speed : Nat) (h : len = 0) : timeToSplice len speed = 0 :=
  if_pos h

theorem timeToSplice_of_line_at_rest {len speed : Nat} (hlen : 0 < len) (h : speed = 0) :
    timeToSplice len speed = 2 ^ 32 - 1 := by
  rw [timeToSplice, if_neg (by omega), if_pos h]

theorem timeToSplice_of_isRounded {len speed q : Nat} (hlen : 0 < len) (hspeed : 0 < speed)
    (hq : IsRounded (len * 4) speed q) : timeToSplice len speed = min (2 ^ 32 - 1) q := by
  rw [timeToSplice, if_neg (by omega), if_neg (by omega), hq.eq_roundDiv hspeed]

/-! ### The measurement step at the stand -/

theorem Stand.measureLength_lRem_of_valid {st : Stand} {r : RunningContext} (speed : Nat)
    (hr : st.running = some r) (hvalid : r.valid = true) :
    (st.measureLength speed).lRem = some (remainingLength r st.spliceDiameter) := by
  simp [Stand.measureLength, hr, hvalid]

theorem Stand.measureLength_lRem_of_not_valid {st : Stand} (speed : Nat)
    (h : st.diameterValid = false) : (st.measureLength speed).lRem = none := by
  cases hr : st.running with
  | none => simp [Stand.measureLength, hr]
  | some r =>
    have hvalid : r.valid = false := by simpa [Stand.diameterValid, hr] using h
    simp [Stand.measureLength, hr, hvalid]

/-- R54: the time to splice is present exactly with the remaining length, and formed from it. -/
theorem Stand.measureLength_tTs (st : Stand) (speed : Nat) :
    (st.measureLength speed).tTs = (st.measureLength speed).lRem.map (timeToSplice · speed) := rfl

theorem Stand.measureLength_frame (st : Stand) (speed : Nat) :
    let t := st.measureLength speed
    t = { st with lRem := t.lRem, tTs := t.tTs, stepUrgent := t.stepUrgent } := rfl

/-- Settles O18, by whether the diameter is valid; the length and the time are cut as R53 and R54 cut them. -/
theorem lengthAndTimeToSplice : Obligations.LengthAndTimeToSplice := by
  intro st speed t
  refine ⟨?valid, ?notValid, st.measureLength_frame speed⟩
  case valid =>
    intro r hr hvalid hcaliper
    have hlen := Stand.measureLength_lRem_of_valid speed hr hvalid
    refine ⟨remainingLength r st.spliceDiameter, hlen, remainingLength_of_le,
      fun habove q => remainingLength_of_isRounded hcaliper habove,
      timeToSplice (remainingLength r st.spliceDiameter) speed, ?_, timeToSplice_of_no_length speed,
      timeToSplice_of_line_at_rest, fun hpos hspeed q => timeToSplice_of_isRounded hpos hspeed⟩
    rw [st.measureLength_tTs, hlen, Option.map_some]
  case notValid =>
    intro hnot
    have hlen := Stand.measureLength_lRem_of_not_valid speed hnot
    refine ⟨hlen, ?_⟩
    rw [st.measureLength_tTs, hlen, Option.map_none]

end Sys2Proof.Machine
end

section
/-!
SUPPORT. The roll IDs a stand holds (R63), and what each operation of a stand does to them.
-/
namespace Sys2Proof.Machine

/-! ### The roll IDs of a stand -/

theorem Stand.rolls_eq (st : Stand) :
    st.rolls = st.queue.map (·.roll) ++ (st.ready.map (·.record.roll)).toList ++
      ((st.running.map (·.roll)).filter (· != 0)).toList := by
  unfold Stand.rolls
  congr 1
  · cases st.ready <;> rfl
  · cases st.running with
    | none => rfl
    | some r => by_cases h : r.roll = 0#32 <;> simp [Option.filter, h]

/-- The roll IDs of a stand lie in its queue and in the records of its two contexts, nowhere else. -/
theorem Stand.rolls_congr {st st' : Stand} (hqueue : st'.queue = st.queue)
    (hready : st'.ready.map (·.record.roll) = st.ready.map (·.record.roll))
    (hrunning : st'.running.map (·.roll) = st.running.map (·.roll)) : st'.rolls = st.rolls := by
  rw [Stand.rolls_eq, Stand.rolls_eq, hqueue, hready, hrunning]

/-- A ready context given up takes its roll ID with it. -/
theorem Stand.rolls_of_ready_none {st st' : Stand} (hqueue : st'.queue = st.queue)
    (hready : st'.ready = none) (hrunning : st'.running = st.running) : st'.rolls.Subperm st.rolls := by
  rw [Stand.rolls_eq, Stand.rolls_eq, hqueue, hready, hrunning]
  exact (List.subperm_append_right _).mpr (by simpa using (List.sublist_append_left _ _).subperm)

/-- R63 does not count the anonymous 0. -/
theorem nonzero_subperm (w : Word) : (Option.filter (· != 0) (some w)).toList.Subperm [w] := by
  by_cases h : w = 0#32 <;> simp [Option.filter, h]

theorem Stand.queue_rolls (st : Stand) : (st.queue.map (·.roll)).Subperm st.rolls := by
  rw [Stand.rolls_eq, List.append_assoc]
  exact (List.sublist_append_left _ _).subperm

/-! ### Reel contexts -/

/-- R72: the returned record keeps its roll ID. -/
theorem Stand.returnToHead_rolls (st : Stand) : st.returnToHead.rolls.Subperm st.rolls := by
  unfold Stand.returnToHead
  split
  case h_1 r hready =>
    split
    · exact .refl _
    · rw [Stand.rolls_eq, Stand.rolls_eq, hready]
      refine (List.Perm.append_right _ ?_).subperm
      simpa using (List.perm_append_singleton r.record.roll (st.queue.map (·.roll))).symm
  case h_2 => exact .refl _

/-- R71: the record bound leaves the queue. -/
theorem Stand.bindHead_rolls (st : Stand) (waits : Bool) : (st.bindHead waits).rolls.Subperm st.rolls := by
  unfold Stand.bindHead
  split
  case h_1 r rest hqueue =>
    rw [Stand.rolls_eq, Stand.rolls_eq, hqueue]
    refine (List.subperm_append_right _).mpr ?_
    have hmoved : (rest.map (·.roll) ++ [r.roll]).Subperm (r.roll :: rest.map (·.roll)) :=
      (List.perm_append_singleton _ _).subperm
    exact hmoved.trans (List.sublist_append_left _ _).subperm
  case h_2 => exact .refl _

theorem Stand.tryBind_rolls (st : Stand) (waits : Bool) : (st.tryBind waits).rolls.Subperm st.rolls := by
  unfold Stand.tryBind
  split
  · exact st.bindHead_rolls waits
  · exact .refl _

@[simp] theorem Stand.markUnload_rolls (st : Stand) (x : Arm) : (st.markUnload x).rolls = st.rolls := by
  rw [Stand.markUnload_frame]; rfl

/-- R75: the ready reel becomes the running one, and the expiring one is gone. -/
theorem Stand.transfer_rolls (st : Stand) (grades : Vector Grade 16) :
    (st.transfer grades).rolls.Subperm st.rolls := by
  unfold Stand.transfer
  split
  case h_1 r hready =>
    have hqueue : (st.markUnload st.runningArm).queue = st.queue := by rw [Stand.markUnload_frame]
    rw [Stand.rolls_eq, Stand.rolls_eq, hready, hqueue]
    simp only [Option.map_none, Option.toList_none, List.append_nil, Option.map_some, List.append_assoc]
    refine (List.subperm_append_left _).mpr ?_
    exact (nonzero_subperm r.record.roll).trans (List.sublist_append_left _ _).subperm
  case h_2 => exact .refl _

theorem Stand.discardReady_rolls (st : Stand) : st.discardReady.rolls.Subperm st.rolls := by
  have hqueue : st.discardReady.queue = st.queue := by
    unfold Stand.discardReady; rw [Stand.markUnload_frame]
  have hrunning : st.discardReady.running = st.running := by
    unfold Stand.discardReady; rw [Stand.markUnload_frame]
  exact Stand.rolls_of_ready_none hqueue rfl hrunning

theorem Stand.goOffline_rolls (st : Stand) : st.goOffline.rolls.Subperm st.rolls := by
  have hqueue : st.goOffline.rolls = st.returnToHead.queue.map (·.roll) := by
    rw [Stand.rolls_eq]; simp [Stand.goOffline, Stand.outOfService, Stand.afterReset]
  rw [hqueue]
  exact st.returnToHead.queue_rolls.trans st.returnToHead_rolls

theorem Stand.dropReady_rolls (st : Stand) (waits : Bool) : (st.dropReady waits).rolls.Subperm st.rolls :=
  (Stand.tryBind_rolls _ waits).trans (Stand.rolls_of_ready_none rfl rfl rfl)

/-! ### Faults, clears and inhibit -/

@[simp] theorem Stand.markFurther_rolls (st : Stand) : st.markFurther.rolls = st.rolls := by
  unfold Stand.markFurther; split <;> rfl

theorem Stand.enterFault_rolls (st : Stand) (kind : FaultKind) (c : Word) (sig : Option StaleSignal) :
    (st.enterFault kind c sig).rolls.Subperm st.rolls := by
  by_cases h : st.state = .checking
  · have hrolls : (st.enterFault kind c sig).rolls = st.returnToHead.rolls := by
      unfold Stand.enterFault; rw [if_pos h]; rfl
    exact hrolls ▸ st.returnToHead_rolls
  · have hrolls : (st.enterFault kind c sig).rolls = st.rolls := by
      unfold Stand.enterFault; rw [if_neg h]; rfl
    exact hrolls ▸ .refl _

@[simp] theorem Stand.dropFault_rolls (st : Stand) : st.dropFault.rolls = st.rolls :=
  Stand.rolls_congr rfl rfl (by simp [Stand.dropFault, Function.comp_def])

theorem Stand.enterUnready_rolls (st : Stand) (waits : Bool) :
    (st.enterUnready waits).rolls.Subperm st.rolls := by
  unfold Stand.enterUnready
  split
  · exact st.bindHead_rolls waits
  · exact .refl _

theorem Stand.enterCleared_rolls (st : Stand) (waits : Bool) :
    (st.enterCleared waits).rolls.Subperm st.rolls := by
  unfold Stand.enterCleared
  split
  · split
    · exact (Stand.enterUnready_rolls _ waits).trans st.returnToHead_rolls
    · split
      · exact .refl _
      · exact st.enterUnready_rolls waits
  · exact st.enterUnready_rolls waits

theorem Stand.clearFault_rolls (st : Stand) (waits : Bool) : (st.clearFault waits).rolls.Subperm st.rolls :=
  st.dropFault_rolls ▸ st.dropFault.enterCleared_rolls waits

/-- R149, R150: the ready reel is discarded, or takes the place of the running one. -/
theorem Stand.nameArm_rolls (st : Stand) (x : Arm) (grades : Vector Grade 16) :
    (st.nameArm x grades).rolls.Subperm st.rolls := by
  unfold Stand.nameArm
  split
  · exact st.discardReady_rolls
  · exact st.transfer_rolls grades

theorem Stand.returnReady_rolls (st : Stand) : st.returnReady.rolls.Subperm st.rolls := by
  rcases st.returnReady_cases with ⟨-, h⟩ | ⟨-, h⟩
  · rw [h]; exact .refl _
  · rw [h]; exact Stand.returnToHead_rolls
      { st with braking := true, accelTimer := none, sched := st.sched.stopped, state := .ready }

/-! ### Capture and measurement -/

@[simp] theorem Stand.captureStep_rolls (st : Stand) (samples : Option (Vector Slot 96))
    (passedOver : Bool) : (st.captureStep samples passedOver).1.rolls = st.rolls := rfl

@[simp] theorem Stand.staleWindow_rolls (st : Stand) (h : StandHand) (lh : LineHand) :
    (st.staleWindow h lh).rolls = st.rolls := by
  unfold Stand.staleWindow; split <;> rfl

@[simp] theorem Stand.advanceAnchor_rolls (st : Stand) (inc : Nat) :
    (st.advanceAnchor inc).rolls = st.rolls :=
  Stand.rolls_congr rfl rfl (by simp [Stand.advanceAnchor, Function.comp_def])

@[simp] theorem RunningContext.accept_roll (r : RunningContext) (d : Nat) (grades : Vector Grade 16) :
    (r.accept d grades).roll = r.roll := by
  unfold RunningContext.accept
  split
  · rfl
  · split <;> rfl

@[simp] theorem Stand.acceptTest_rolls (st : Stand) (d : Nat) (grades : Vector Grade 16) :
    (st.acceptTest d grades).rolls = st.rolls := by
  unfold Stand.acceptTest
  split
  · exact Stand.rolls_congr rfl rfl (by simp [Function.comp_def])
  · rfl

@[simp] theorem Stand.advanceWindow_rolls (st : Stand) (w : DiameterWindow) (inc : Nat) (travel : Angle)
    (grades : Vector Grade 16) : (st.advanceWindow w inc travel grades).rolls = st.rolls := by
  unfold Stand.advanceWindow
  dsimp only
  split
  · exact Stand.acceptTest_rolls _ _ grades
  · rfl

@[simp] theorem Stand.windowStep_rolls (st : Stand) (lineLive passedOver : Bool) (inc : Nat)
    (grades : Vector Grade 16) : (st.windowStep lineLive passedOver inc grades).rolls = st.rolls := by
  unfold Stand.windowStep
  dsimp only
  split
  · split
    · exact Stand.advanceWindow_rolls _ _ _ _ _
    · split <;> rfl
    · rfl
  · rfl

@[simp] theorem Stand.countReading_rolls (st : Stand) (w : GaugeWindow) (d : Nat) :
    (st.countReading w d).1.rolls = st.rolls := by
  unfold Stand.countReading; split <;> rfl

@[simp] theorem Stand.gaugeStep_rolls (st : Stand) (h : StandHand) :
    (st.gaugeStep h).1.rolls = st.rolls := by
  unfold Stand.gaugeStep
  split
  · split
    · rfl
    · split
      · exact Stand.countReading_rolls _ _ _
      · rfl
  · rfl

@[simp] theorem Stand.measureStep_rolls (st : Stand) (h : StandHand) (lineLive passedOver : Bool)
    (inc speed : Nat) (grades : Vector Grade 16) :
    (st.measureStep h lineLive passedOver inc speed grades).1.rolls = st.rolls :=
  calc (st.measureStep h lineLive passedOver inc speed grades).1.rolls
    _ = ((((st.measureRates.advanceAnchor inc).windowStep lineLive passedOver inc grades).measureLength
          speed).gaugeStep h).1.rolls := rfl
    _ = ((st.measureRates.advanceAnchor inc).windowStep lineLive passedOver inc grades).rolls :=
          Stand.gaugeStep_rolls _ h
    _ = (st.measureRates.advanceAnchor inc).rolls := Stand.windowStep_rolls _ _ _ _ _
    _ = st.rolls := Stand.advanceAnchor_rolls _ inc

/-! ### The scheduler and the controller -/

@[simp] theorem Stand.trackTape_rolls (st : Stand) (h : ArmHand) (first : Nat) :
    (st.trackTape h first).rolls = st.rolls := by
  unfold Stand.trackTape
  dsimp only
  split
  · exact Stand.rolls_congr rfl (by simp [Stand.latchTape, Function.comp_def]) rfl
  · rfl

@[simp] theorem Stand.schedulerRest_rolls (st : Stand) (h : StandHand) (lineStale : Bool) (c : Word) :
    (st.schedulerRest h lineStale c).1.rolls = st.rolls := by
  unfold Stand.schedulerRest
  split
  · unfold Stand.accelWork; dsimp only; split
    · rfl
    · split <;> rfl
  · split <;> rfl
  · unfold Stand.pendingWork; split
    · rfl
    · split <;> rfl
  · unfold Stand.confirmWork; split
    · split
      · rfl
      · split <;> rfl
    · rfl
  · rfl

@[simp] theorem Stand.schedulerStep_rolls (st : Stand) (h : StandHand) (lineStale : Bool) (speed : Nat)
    (c : Word) (first : Nat) : (st.schedulerStep h lineStale speed c first).1.rolls = st.rolls := by
  have htrack : (if st.state.watched then st.trackTape (h.arm st.readyArm) first else st).rolls =
      st.rolls := by
    split
    · exact st.trackTape_rolls _ first
    · rfl
  unfold Stand.schedulerStep
  dsimp only
  generalize (if st.state.watched then st.trackTape (h.arm st.readyArm) first else st) = tracked
    at htrack ⊢
  split
  · split <;> exact htrack
  · exact (Stand.schedulerRest_rolls _ h lineStale c).trans htrack

@[simp] theorem Stand.issueFire_rolls (st : Stand) (speed : Nat) (i : Instant) :
    (st.issueFire speed i).rolls = st.rolls :=
  Stand.rolls_congr rfl (by simp [Stand.issueFire, Function.comp_def]) rfl

theorem Stand.unmount_rolls (st : Stand) : st.unmount.rolls.Subperm st.rolls := by
  unfold Stand.unmount
  dsimp only
  split
  · exact Stand.returnToHead_rolls { st with mountPending := false }
  · exact Stand.returnToHead_rolls { st with mountPending := false }
  · exact Stand.returnToHead_rolls { st with mountPending := false }
  · exact .refl _

theorem Stand.reelChanges_rolls (st : Stand) (h : StandHand) : (st.reelChanges h).rolls.Subperm st.rolls := by
  unfold Stand.reelChanges
  dsimp only
  split
  · exact st.unmount_rolls
  · split <;> exact .refl _

@[simp] theorem Stand.brakingStep_rolls (st : Stand) : st.brakingStep.rolls = st.rolls := by
  unfold Stand.brakingStep; split <;> rfl

@[simp] theorem Stand.enterAccel_rolls (st : Stand) (speed : Nat) :
    (st.enterAccel speed).rolls = st.rolls :=
  Stand.rolls_congr rfl (by simp [Stand.enterAccel, Stand.formTarget, Function.comp_def]) rfl

@[simp] theorem Stand.enterReady_rolls (st : Stand) (dg : Nat) : (st.enterReady dg).rolls = st.rolls :=
  Stand.rolls_congr rfl (by simp [Stand.enterReady, Stand.measureReady, Function.comp_def]) rfl

theorem Stand.settleWork_rolls (st : Stand) : st.settleWork.rolls.Subperm st.rolls := by
  unfold Stand.settleWork
  split
  · exact Stand.tryBind_rolls { st with state := .running, forced := false } false
  · exact .refl _

theorem Stand.enterSettle_rolls (st : Stand) (grades : Vector Grade 16) :
    (st.enterSettle grades).rolls.Subperm st.rolls := st.transfer_rolls grades

/-! ### Signals -/

@[simp] theorem Stand.setArm_rolls (st : Stand) (x : Arm) (v : ArmState) :
    (st.setArm x v).rolls = st.rolls := by
  cases x <;> rfl

@[simp] theorem Stand.spindleStale_rolls (st : Stand) (x : Arm) :
    (st.spindleStale x).rolls = st.rolls := by
  unfold Stand.spindleStale
  dsimp only
  split
  · split
    · exact st.setArm_rolls x _
    · exact st.setArm_rolls x _
  · rfl

@[simp] theorem Stand.gaugeStale_rolls (st : Stand) (x : Arm) : (st.gaugeStale x).rolls = st.rolls := by
  unfold Stand.gaugeStale
  dsimp only
  split
  · exact st.setArm_rolls x _
  · rfl

@[simp] theorem Stand.statusStale_rolls (st : Stand) : st.statusStale.rolls = st.rolls := by
  unfold Stand.statusStale; split <;> rfl

@[simp] theorem Stand.settlePin_rolls (st : Stand) (steady high : Bool) :
    (st.settlePin steady high).rolls = st.rolls := by
  unfold Stand.settlePin; split <;> rfl

end Sys2Proof.Machine
end

section
/-!
SUPPORT. The roll IDs of the part (R63): no command but QUEUE-REEL and STAND-ONLINE brings one in, those two
none that is held already; and O57.
-/
namespace Sys2Proof.Machine

/-! ### Lists within lists -/

theorem nodup_of_subperm {α : Type} {l l' : List α} (h : l.Subperm l') (hl' : l'.Nodup) : l.Nodup := by
  obtain ⟨m, hperm, hsub⟩ := h
  exact hperm.nodup_iff.mp (hl'.sublist hsub)

theorem subperm_append {α : Type} {l₁ l₂ m₁ m₂ : List α} (hl : l₁.Subperm l₂) (hm : m₁.Subperm m₂) :
    (l₁ ++ m₁).Subperm (l₂ ++ m₂) :=
  ((List.subperm_append_right _).mpr hl).trans ((List.subperm_append_left _).mpr hm)

theorem flatMap_subperm {α β : Type} {f g : α → List β} {l : List α}
    (h : ∀ a ∈ l, (g a).Subperm (f a)) : (l.flatMap g).Subperm (l.flatMap f) := by
  induction l with
  | nil => exact .refl _
  | cons a l ih =>
    rw [List.flatMap_cons, List.flatMap_cons]
    exact subperm_append (h a List.mem_cons_self) (ih fun b hb => h b (List.mem_cons_of_mem _ hb))

/-- Where one of several lists gains an element, their concatenation gains it once. -/
theorem flatMap_subperm_cons {α β : Type} {f g : α → List β} {k : α} {b : β}
    (hk : (g k).Subperm (b :: f k)) (hother : ∀ a, a ≠ k → (g a).Subperm (f a)) {l : List α}
    (hl : l.Nodup) : (l.flatMap g).Subperm (b :: l.flatMap f) := by
  induction l with
  | nil => exact List.nil_subperm
  | cons a l ih =>
    obtain ⟨hnotin, hl⟩ := List.nodup_cons.mp hl
    rw [List.flatMap_cons, List.flatMap_cons]
    by_cases ha : a = k
    · subst ha
      exact subperm_append hk (flatMap_subperm fun c hc => hother c fun e => hnotin (e ▸ hc))
    · exact (subperm_append (hother a ha) (ih hl)).trans List.perm_middle.subperm

/-! ### The roll IDs of the part -/

/-- From s to t no stand gains a roll ID. -/
def State.RollsWithin (s t : State) : Prop := ∀ k, (t.stand k).rolls.Subperm (s.stand k).rolls

theorem State.RollsWithin.refl (s : State) : s.RollsWithin s := fun _ => .refl _

theorem State.RollsWithin.trans {s t u : State} (h : s.RollsWithin t) (h' : t.RollsWithin u) :
    s.RollsWithin u := fun k => (h' k).trans (h k)

theorem State.RollsWithin.of_stands {s t u : State} (hu : u.stands = t.stands) (h : s.RollsWithin t) :
    s.RollsWithin u := by
  intro k
  have hstand : u.stand k = t.stand k := by unfold State.stand; rw [hu]
  exact hstand ▸ h k

/-- A part in which no stand has gained a roll ID holds each at most once, if it did before. -/
theorem State.RollsWithin.rollsUnique {s t : State} (h : s.RollsWithin t) (hs : RollsUnique s) :
    RollsUnique t := nodup_of_subperm (flatMap_subperm fun k _ => h k) hs

theorem State.holdsRoll_eq_false_iff (s : State) (roll : Word) :
    s.holdsRoll roll = false ↔ roll ∉ s.rolls := by
  simp [State.holdsRoll, State.rolls]

/-- A roll ID that the part does not hold may join one stand. -/
theorem State.setStand_rollsUnique {s : State} {k : StandId} {st : Stand} {roll : Word}
    (hst : st.rolls.Subperm (roll :: (s.stand k).rolls)) (hfree : s.holdsRoll roll = false)
    (hs : RollsUnique s) : RollsUnique (s.setStand k st) := by
  have hgain : (s.setStand k st).rolls.Subperm (roll :: s.rolls) := by
    refine flatMap_subperm_cons (k := k) ?_ (fun j hj => ?_) allStands_nodup
    · rw [State.stand_setStand_same]; exact hst
    · rw [State.stand_setStand_other _ _ hj]
  exact nodup_of_subperm hgain (List.nodup_cons.mpr ⟨(s.holdsRoll_eq_false_iff roll).mp hfree, hs⟩)

theorem State.rollsWithin_of_stand_eq {s t : State} (h : ∀ k, t.stand k = s.stand k) :
    s.RollsWithin t := fun k => h k ▸ .refl _

theorem State.setStand_rollsWithin {s : State} {k : StandId} {st : Stand}
    (h : st.rolls.Subperm (s.stand k).rolls) : s.RollsWithin (s.setStand k st) := by
  intro j
  rw [State.stand_setStand]
  split
  case isTrue hj => exact hj ▸ h
  case isFalse => exact .refl _

theorem State.setStand_rollsWithin_of_eq {s : State} {k : StandId} {st : Stand}
    (h : st.rolls = (s.stand k).rolls) : s.RollsWithin (s.setStand k st) :=
  State.setStand_rollsWithin (h ▸ .refl _)

theorem State.modStand_rollsWithin {f : Stand → Stand} (h : ∀ st, (f st).rolls.Subperm st.rolls) (s : State)
    (k : StandId) : s.RollsWithin (s.modStand k f) := State.setStand_rollsWithin (h _)

theorem State.modStand_rollsWithin_of_eq {f : Stand → Stand} (h : ∀ st, (f st).rolls = st.rolls)
    (s : State) (k : StandId) : s.RollsWithin (s.modStand k f) := State.setStand_rollsWithin_of_eq (h _)

theorem State.foldl_rollsWithin {α : Type} {f : State → α → State}
    (h : ∀ (s : State) (a : α), s.RollsWithin (f s a)) (l : List α) (s : State) :
    s.RollsWithin (l.foldl f s) := by
  induction l generalizing s with
  | nil => exact .refl s
  | cons a l ih => exact (h s a).trans (ih _)

theorem State.foldl_modStand_rollsWithin {f : StandId → Stand → Stand}
    (h : ∀ k st, (f k st).rolls = st.rolls) (l : List StandId) (s : State) :
    s.RollsWithin (l.foldl (fun t k => t.modStand k (f k)) s) :=
  State.foldl_rollsWithin (fun t k => State.modStand_rollsWithin_of_eq (h k) t k) l s

/-! ### Groups and the splice log -/

theorem State.leaveGroup_rollsWithin (s : State) (k : StandId) : s.RollsWithin (s.leaveGroup k) :=
  State.rollsWithin_of_stand_eq fun _ => s.leaveGroup_stand k _

theorem State.refreshRequest_rollsWithin (s : State) (k : StandId) :
    s.RollsWithin (s.refreshRequest k) := by
  by_cases hstate : (s.stand k).state = .matched
  · cases hreq : (s.stand k).requests with
    | true =>
      rw [s.refreshRequest_of_requests k hstate hreq]
      exact State.setStand_rollsWithin_of_eq (s := s) rfl
    | false =>
      rw [s.refreshRequest_of_not_requests k hstate hreq]
      exact .refl s
  · rw [s.refreshRequest_of_not_matched k hstate]
    exact .refl s

theorem State.decideGroup_rollsWithin (s : State) (g : GroupId) : s.RollsWithin (s.decideGroup g) := by
  rcases s.decideGroup_cases g with ⟨-, h⟩ | ⟨k, -, h⟩
  · rw [h]; exact .refl s
  · rw [h]; exact State.setStand_rollsWithin_of_eq (s := s.setGroup g _) rfl

theorem State.decideAll_rollsWithin (s : State) : s.RollsWithin s.decideAll :=
  State.foldl_rollsWithin State.decideGroup_rollsWithin allGroups s

theorem State.decideChanged_rollsWithin (before s : State) :
    s.RollsWithin (State.decideChanged before s) := by
  refine State.foldl_rollsWithin (fun t g => ?_) allGroups s
  unfold State.decideChangedGroup
  split
  · exact .refl t
  · exact t.decideGroup_rollsWithin g

theorem State.joinLog_rollsWithin (s : State) : s.RollsWithin s.joinLog := by
  rw [State.joinLog_frame]; exact .refl s

/-- The end of a cycle's steps, and of an event of those steps (R131, R162). -/
theorem State.decideAll_joinLog_rollsWithin (s : State) (n : Nat) :
    s.RollsWithin { s.decideAll.joinLog with freeIndex := n } :=
  .of_stands rfl (s.decideAll_rollsWithin.trans (State.joinLog_rollsWithin _))

theorem State.endEvent_rollsWithin (s : State) : s.RollsWithin s.endEvent :=
  s.decideAll_joinLog_rollsWithin _

/-! ### Faults and inhibit -/

theorem State.takeFault_rollsWithin (s : State) (k : StandId) (kind : FaultKind)
    (sig : Option StaleSignal) : s.RollsWithin (s.takeFault k kind sig) := by
  by_cases hoffline : (s.stand k).state = .offline
  · rw [s.takeFault_of_offline k kind sig hoffline]
    exact .refl s
  by_cases hfault : (s.stand k).state = .fault
  · rw [s.takeFault_of_fault k kind sig hfault]
    exact State.modStand_rollsWithin_of_eq Stand.markFurther_rolls s k
  rw [s.takeFault_of_service k kind sig hoffline hfault]
  have hformed : s.RollsWithin
      (if (s.stand k).state.afterFire then s.formEntry k kind.outcome else s) := by
    split <;> exact .refl s
  exact (hformed.trans (State.leaveGroup_rollsWithin _ k)).trans
    (State.modStand_rollsWithin (fun st => st.enterFault_rolls kind s.cycle sig) _ k)

theorem State.becomeInhibited_rollsWithin (s : State) (k : StandId) :
    s.RollsWithin (s.becomeInhibited k) := by
  unfold State.becomeInhibited
  split
  · exact (s.leaveGroup_rollsWithin k).trans (State.modStand_rollsWithin Stand.returnReady_rolls _ k)
  · exact .refl s

/-! ### The step of a cycle -/

theorem State.enterMatched_rollsWithin (s : State) (k : StandId) :
    s.RollsWithin (s.enterMatched k) := by
  unfold State.enterMatched
  exact (State.modStand_rollsWithin_of_eq (fun _ => by rfl) s k).trans
    (State.refreshRequest_rollsWithin _ k)

theorem State.leaveBand_rollsWithin (s : State) (k : StandId) : s.RollsWithin (s.leaveBand k) := by
  unfold State.leaveBand
  exact (s.leaveGroup_rollsWithin k).trans
    (State.modStand_rollsWithin_of_eq (fun _ => by rfl) _ k)

theorem State.enterSettle_rollsWithin (s : State) (k : StandId) : s.RollsWithin (s.enterSettle k) :=
  (State.leaveGroup_rollsWithin (s.formEntry k .spliced) k).trans
    (State.modStand_rollsWithin (fun st => st.enterSettle_rolls s.grades) _ k)

theorem State.applyVerdict_rollsWithin (s : State) (k : StandId) (v : Verdict) :
    s.RollsWithin (s.applyVerdict k v) := by
  cases v with
  | stay => exact s.refreshRequest_rollsWithin k
  | fault kind further =>
    unfold State.applyVerdict
    dsimp only
    split
    · exact (s.takeFault_rollsWithin k kind none).trans (State.takeFault_rollsWithin _ k _ none)
    · exact s.takeFault_rollsWithin k kind none
  | enterMatched => exact s.enterMatched_rollsWithin k
  | leaveBand => exact s.leaveBand_rollsWithin k
  | confirmed => exact s.enterSettle_rollsWithin k

theorem State.gaugeDone_rollsWithin (s : State) (k : StandId) (dg : Nat) :
    s.RollsWithin (s.gaugeDone k dg) := by
  unfold State.gaugeDone
  split
  · exact State.modStand_rollsWithin_of_eq (fun st => st.enterReady_rolls dg) s k
  · exact s.takeFault_rollsWithin k .reelMismatch none

theorem State.transitions_rollsWithin (s : State) (k : StandId) (h : StandHand) (lineStale : Bool)
    (dg : Option Nat) (unmounted : Bool) :
    s.RollsWithin (s.transitions k h lineStale dg unmounted) := by
  unfold State.transitions
  dsimp only
  split
  case h_1 => exact .refl s
  case h_2 =>
    split
    · exact .refl s
    · exact State.setStand_rollsWithin (Stand.tryBind_rolls _ false)
  case h_3 =>
    split
    · exact s.gaugeDone_rollsWithin k _
    · exact .refl s
  case h_4 =>
    split
    · exact State.setStand_rollsWithin_of_eq (Stand.enterAccel_rolls _ s.lineSpeed)
    · exact .refl s
  case h_5 => exact State.setStand_rollsWithin (Stand.settleWork_rolls _)
  case h_6 => exact .refl s
  case h_7 =>
    exact (State.setStand_rollsWithin_of_eq (Stand.schedulerStep_rolls _ h lineStale _ _ _)).trans
      (State.applyVerdict_rollsWithin _ k _)

theorem State.controllerStep_rollsWithin (s : State) (k : StandId) (h : StandHand) (lineStale : Bool)
    (dg : Option Nat) : s.RollsWithin (s.controllerStep k h lineStale dg) := by
  have hchanges : (((s.stand k).reelChanges h).brakingStep).rolls.Subperm (s.stand k).rolls :=
    (Stand.brakingStep_rolls _).symm ▸ (s.stand k).reelChanges_rolls h
  exact (State.setStand_rollsWithin hchanges).trans (State.transitions_rollsWithin _ k h lineStale dg _)

theorem State.watchStand_rollsWithin (s : State) (k : StandId) (lineStale : Bool) :
    s.RollsWithin (s.watchStand k lineStale) := by
  have hwatch : s.RollsWithin (s.setStand k ((s.stand k).watchStep lineStale)) :=
    State.setStand_rollsWithin_of_eq rfl
  unfold State.watchStand
  dsimp only
  split
  · exact hwatch.trans (State.takeFault_rollsWithin _ k _ _)
  · exact hwatch

theorem State.standStep_rollsWithin (samples : Option (Vector Slot 96)) (passedOver : Bool)
    (lh : LineHand) (s : State) (k : StandId) :
    s.RollsWithin (State.standStep samples passedOver lh s k) := by
  unfold State.standStep
  split
  · have hcapture := State.setStand_rollsWithin_of_eq (s := s) (k := k)
      (Stand.staleWindow_rolls ((s.stand k).captureStep samples passedOver).1
        ((s.stand k).captureStep samples passedOver).2 lh)
    have hmeasure := fun t : State => State.setStand_rollsWithin_of_eq (s := t) (k := k)
      (Stand.measureStep_rolls (t.stand k) ((s.stand k).captureStep samples passedOver).2 (!lh.stale)
        passedOver lh.increment s.lineSpeed s.grades)
    exact ((hcapture.trans (State.watchStand_rollsWithin _ k lh.stale)).trans (hmeasure _)).trans
      (State.controllerStep_rollsWithin _ k _ lh.stale _)
  · exact .refl s

theorem State.lineStep_rollsWithin (s : State) (samples : Option (Vector Slot 96)) (passedOver : Bool) :
    s.RollsWithin (s.lineStep samples passedOver).1 := by
  unfold State.lineStep; split <;> exact .refl s

theorem State.countDownGroup_rollsWithin (s : State) (inc : Nat) (g : GroupId) :
    s.RollsWithin (s.countDownGroup inc g) := .refl s

theorem State.cycleStep_rollsWithin (s : State) (samples : Option (Vector Slot 96)) (passedOver : Bool) :
    s.RollsWithin (s.cycleStep samples passedOver) := by
  have hline := s.lineStep_rollsWithin samples passedOver
  unfold State.cycleStep
  generalize s.lineStep samples passedOver = captured at hline ⊢
  obtain ⟨s1, lh⟩ := captured
  have hcount : s1.RollsWithin (s1.countDown lh.increment) :=
    State.foldl_rollsWithin (fun t g => t.countDownGroup_rollsWithin lh.increment g) allGroups s1
  have hstands := State.foldl_rollsWithin (State.standStep_rollsWithin samples passedOver lh) allStands
    (s1.countDown lh.increment)
  exact ((State.RollsWithin.trans hline hcount).trans hstands).trans
    (State.decideAll_joinLog_rollsWithin _ _)

/-! ### The press link -/

theorem State.pendingStep_rollsWithin (s : State) : s.RollsWithin s.pendingStep := by
  unfold State.pendingStep
  split
  · exact State.cycleStep_rollsWithin { s with stepPending := false } none false
  · exact .refl s

theorem State.passOver_rollsWithin (n : Nat) (s : State) : s.RollsWithin (State.passOver n s) := by
  induction n generalizing s with
  | zero => exact .refl s
  | succ n ih =>
    exact (State.cycleStep_rollsWithin { s with engineCycle := some (s.cycle + 1) } none true).trans (ih _)

theorem State.dropFires_rollsWithin (s : State) : s.RollsWithin s.dropFires :=
  State.foldl_modStand_rollsWithin (f := fun _ => Stand.dropFire) (fun _ _ => rfl) allStands s

theorem State.restart_rollsWithin (s : State) : s.RollsWithin s.restart :=
  State.foldl_modStand_rollsWithin (f := fun _ => Stand.restart) (fun _ _ => rfl) allStands
    { s with line := { s.line with hist := [] } }

theorem State.advanceCycle_rollsWithin (s : State) (c : Word) (d : Nat) :
    s.RollsWithin (s.advanceCycle c d) := by
  have hdrop : s.RollsWithin (if d = 1 then s else s.dropFires) := by
    split
    · exact .refl s
    · exact s.dropFires_rollsWithin
  have hrestart : ∀ t : State, t.RollsWithin (if s.breaks d then t.restart else t) := by
    intro t
    split
    · exact t.restart_rollsWithin
    · exact .refl t
  exact ((hdrop.trans (State.pendingStep_rollsWithin _)).trans (hrestart _)).trans
    (State.passOver_rollsWithin (d - 1) _)

theorem State.beginCycle_rollsWithin (s : State) (num : BitVec 16) :
    s.RollsWithin (s.beginCycle num) := by
  have hdiscard : s.RollsWithin { s.discardSamples with heldReply := none } := .refl s
  unfold State.beginCycle
  generalize { s.discardSamples with heldReply := none } = s0 at hdiscard ⊢
  dsimp only
  split
  case h_1 => exact .of_stands rfl hdiscard
  case h_2 c _ => exact .of_stands rfl (hdiscard.trans (s0.advanceCycle_rollsWithin c _))

theorem State.claimConflict_rollsWithin (s : State) (k : StandId) :
    s.RollsWithin (s.claimConflict k) := by
  have hclaim : s.RollsWithin (s.modStand k fun st => { st with claimLost := true }) :=
    State.modStand_rollsWithin_of_eq (fun _ => by rfl) s k
  exact ((hclaim.trans (State.takeFault_rollsWithin _ k .claimConflict none)).trans
    (State.decideChanged_rollsWithin s _)).trans (State.joinLog_rollsWithin _)

theorem State.checkClaims_rollsWithin (s : State) (slots : Vector Slot 48) :
    s.RollsWithin (s.checkClaims slots) :=
  .of_stands rfl (State.foldl_rollsWithin State.claimConflict_rollsWithin _ s)

theorem State.fireStep_rollsWithin (s : State) (k : StandId) (m : Word) :
    s.RollsWithin (s.fireStep k m).1 := by
  unfold State.fireStep
  dsimp only
  split
  · split
    · exact State.setStand_rollsWithin_of_eq (Stand.issueFire_rolls _ _ _)
    · exact State.setStand_rollsWithin_of_eq rfl
  · exact .refl s

theorem State.knifeStep_rollsWithin (s : State) (k : StandId) (m : Word) :
    s.RollsWithin (s.knifeStep k m).1 := by
  unfold State.knifeStep
  dsimp only
  split
  · split
    · exact State.setStand_rollsWithin_of_eq rfl
    · exact .refl s
  · exact .refl s

theorem State.writeStand_rollsWithin (m : Word) (acc : State × Vector Slot 48) (k : StandId) :
    acc.1.RollsWithin (State.writeStand m acc k).1 := by
  unfold State.writeStand
  split
  · have hcounts : ∀ t : State, t.RollsWithin
        (t.modStand k fun st => { st with counts := st.counts.advance }) := fun t =>
      State.modStand_rollsWithin_of_eq (fun _ => by rfl) t k
    exact ((State.fireStep_rollsWithin acc.1 k m).trans (State.knifeStep_rollsWithin _ k m)).trans
      (hcounts _)
  · exact .refl acc.1

theorem State.foldl_writeStand_rollsWithin (m : Word) (l : List StandId)
    (acc : State × Vector Slot 48) : acc.1.RollsWithin (l.foldl (State.writeStand m) acc).1 := by
  induction l generalizing acc with
  | nil => exact .refl acc.1
  | cons k l ih => exact (State.writeStand_rollsWithin m acc k).trans (ih _)

theorem State.passOutbound_rollsWithin (s : State) (f : OutFrame) : s.RollsWithin (s.passOutbound f) := by
  have hwritten := (s.checkClaims_rollsWithin f.slots).trans
    (State.foldl_writeStand_rollsWithin s.cycle allStands (s.checkClaims f.slots, f.slots))
  unfold State.passOutbound
  split
  · generalize allStands.foldl (State.writeStand s.cycle) (s.checkClaims f.slots, f.slots) = written
      at hwritten ⊢
    exact .of_stands rfl hwritten
  · exact .refl s

theorem State.startMarker_rollsWithin (s : State) (f : OutFrame) : s.RollsWithin (s.startMarker f) := by
  unfold State.startMarker
  split
  · exact .refl s
  · exact (s.beginCycle_rollsWithin f.cycle).trans (State.passOutbound_rollsWithin _ f)

theorem State.endReturn_rollsWithin (s : State) : s.RollsWithin s.endReturn := by
  unfold State.endReturn
  dsimp only
  split
  · split
    · exact State.cycleStep_rollsWithin
        { s with inFlight := none, retFrame := s.replyWritten, stepPending := false } _ false
    · exact .refl s
  · exact .refl s

theorem State.matchReturn_rollsWithin (s : State) (f : RetFrame) : s.RollsWithin (s.matchReturn f) := by
  unfold State.matchReturn; split <;> exact .refl s

theorem State.beginReturn_rollsWithin (s : State) (f : RetFrame) : s.RollsWithin (s.beginReturn f) := by
  refine s.endReturn_rollsWithin.trans ?_
  unfold State.beginReturn
  dsimp only
  split
  · exact .refl _
  · split
    · split
      · exact State.matchReturn_rollsWithin { s.endReturn with outPassing := false } f
      · exact .refl _
    · exact .refl _

theorem State.returnEvent_rollsWithin (s : State) (e : RetEvent) : s.RollsWithin (s.returnEvent e) := by
  unfold State.returnEvent
  cases e with
  | whole f =>
    dsimp only
    split
    · exact .refl s
    · exact (s.beginReturn_rollsWithin f).trans (State.endReturn_rollsWithin _)
  | head f =>
    dsimp only
    split
    · exact .refl s
    · exact s.beginReturn_rollsWithin f
  | tail =>
    dsimp only
    split
    · exact .refl s
    · exact s.endReturn_rollsWithin
  | early f =>
    dsimp only
    split
    · exact .refl s
    · exact .of_stands rfl s.endReturn_rollsWithin

theorem State.linkLossAt_rollsWithin (s : State) (k : StandId) : s.RollsWithin (s.linkLossAt k) := by
  unfold State.linkLossAt
  split
  · exact (s.takeFault_rollsWithin k .linkLoss none).trans
      (State.modStand_rollsWithin_of_eq (fun _ => by rfl) _ k)
  · exact .refl s

theorem State.watchExpiry_rollsWithin (s : State) : s.RollsWithin s.watchExpiry := by
  unfold State.watchExpiry
  split
  · exact .refl s
  · have hloss := State.foldl_rollsWithin State.linkLossAt_rollsWithin allStands
      { s with watchArmed := false, linkLost := true, outPassing := false }
    exact .of_stands rfl ((State.RollsWithin.trans hloss (State.decideChanged_rollsWithin s _)).trans
      (State.joinLog_rollsWithin _))

/-! ### Events within a step -/

theorem State.lineStale_rollsWithin (s : State) : s.RollsWithin s.lineStale := by
  unfold State.lineStale
  split
  case h_1 e _ =>
    split
    · exact State.foldl_modStand_rollsWithin (f := fun _ st => { st with window := none })
        (fun _ _ => rfl) allStands
        { s with line := { s.line with cap := s.line.cap.age e.divisor.limit, hist := [] } }
    · exact .refl s
  case h_2 => exact .refl s

theorem State.signalStaleLimit_rollsWithin (s : State) (g : SignalName) :
    s.RollsWithin (s.signalStaleLimit g) := by
  unfold State.signalStaleLimit
  split
  · exact .refl s
  · cases g with
    | line => exact s.lineStale_rollsWithin
    | spindle k x => exact State.modStand_rollsWithin_of_eq (fun st => st.spindleStale_rolls x) s k
    | gauge k x => exact State.modStand_rollsWithin_of_eq (fun st => st.gaugeStale_rolls x) s k
    | status k => exact State.modStand_rollsWithin_of_eq Stand.statusStale_rolls s k

theorem State.signalStale_rollsWithin (s : State) (k : StandId) : s.RollsWithin (s.signalStale k) := by
  unfold State.signalStale
  split
  · exact (s.watchStand_rollsWithin k _).trans (State.endEvent_rollsWithin _)
  · exact .refl s

theorem State.windowComplete_rollsWithin (s : State) (k : StandId) (inc : BitVec 23) (travel : Angle) :
    s.RollsWithin (s.windowComplete k inc travel) := by
  unfold State.windowComplete
  split
  case h_1 w _ =>
    split
    · have hmeasured : ((((s.stand k).advanceAnchor inc.toNat).advanceWindow w inc.toNat travel
          s.grades).measureLength s.lineSpeed).rolls = (s.stand k).rolls :=
        (Stand.advanceWindow_rolls _ w _ travel s.grades).trans (Stand.advanceAnchor_rolls _ _)
      exact ((State.setStand_rollsWithin_of_eq hmeasured).trans
        (State.refreshRequest_rollsWithin _ k)).trans (State.endEvent_rollsWithin _)
    · exact .refl s
  case h_2 => exact .refl s

theorem State.completeGauge_rollsWithin (s : State) (k : StandId) (w : GaugeWindow) (d : Nat) :
    s.RollsWithin (s.completeGauge k w d) := by
  have hcount : s.RollsWithin (s.setStand k ((s.stand k).countReading w d).1) :=
    State.setStand_rollsWithin_of_eq (Stand.countReading_rolls _ w d)
  unfold State.completeGauge
  dsimp only
  split
  · exact (hcount.trans (State.gaugeDone_rollsWithin _ k _)).trans (State.endEvent_rollsWithin _)
  · exact hcount.trans (State.endEvent_rollsWithin _)

theorem State.gaugeComplete_rollsWithin (s : State) (k : StandId) (reading : BitVec 14) :
    s.RollsWithin (s.gaugeComplete k reading) := by
  unfold State.gaugeComplete
  split
  · split
    · exact s.completeGauge_rollsWithin k _ _
    · exact .refl s
  · exact .refl s

theorem State.tapeLost_rollsWithin (s : State) (k : StandId) (travel : Angle) :
    s.RollsWithin (s.tapeLost k travel) := by
  unfold State.tapeLost
  dsimp only
  split
  · refine .trans ?_ ((State.applyVerdict_rollsWithin _ k _).trans (State.endEvent_rollsWithin _))
    refine State.setStand_rollsWithin_of_eq ?_
    split <;> rfl
  · exact .refl s

theorem State.accelTimeout_rollsWithin (s : State) (k : StandId) : s.RollsWithin (s.accelTimeout k) := by
  have htick : s.RollsWithin (s.setStand k (s.stand k).tickAccel) :=
    State.setStand_rollsWithin_of_eq rfl
  unfold State.accelTimeout
  dsimp only
  split
  · exact (htick.trans (State.takeFault_rollsWithin _ k .accelTimeout none)).trans
      (State.endEvent_rollsWithin _)
  · exact .refl s

theorem State.confirmTimeout_rollsWithin (s : State) (k : StandId) :
    s.RollsWithin (s.confirmTimeout k) := by
  unfold State.confirmTimeout
  split
  · exact (s.takeFault_rollsWithin k .confirmTimeout none).trans (State.endEvent_rollsWithin _)
  · exact .refl s

theorem State.spacingEnd_rollsWithin (s : State) (g : GroupId) (inc : BitVec 23) :
    s.RollsWithin (s.spacingEnd g inc) := by
  unfold State.spacingEnd
  split
  · exact (s.countDownGroup_rollsWithin inc.toNat g).trans (State.endEvent_rollsWithin _)
  · exact .refl s

/-! ### Pins -/

/-- R187: a part with its reset values holds no reel. -/
theorem State.rollsWithin_of_afterReset {s t : State} {addr : BitVec 5}
    (h : t.stands = (State.afterReset addr).stands) : s.RollsWithin t := by
  intro k
  have hstand : t.stand k = .afterReset := by
    simp [State.stand, h, State.afterReset]
  rw [hstand]
  exact List.nil_subperm

theorem State.assertReset_rollsWithin (s : State) (outPassed retPassed : Passed) :
    s.RollsWithin (s.assertReset outPassed retPassed) := by
  unfold State.assertReset
  split
  · exact .refl s
  · exact State.rollsWithin_of_afterReset (addr := 0) rfl

theorem State.releaseReset_rollsWithin (s : State) (addr : BitVec 5) :
    s.RollsWithin (s.releaseReset addr) := by
  unfold State.releaseReset
  split
  · exact State.rollsWithin_of_afterReset (addr := addr) rfl
  · exact .refl s

theorem State.settlePins_rollsWithin (s : State) (steady high : BitVec 8) :
    s.RollsWithin (s.settlePins steady high) := by
  unfold State.settlePins
  split
  · exact .refl s
  · exact State.foldl_modStand_rollsWithin (fun k st => st.settlePin_rolls _ _) allStands s

theorem State.pinAssertion_rollsWithin (s : State) (k : StandId) : s.RollsWithin (s.pinAssertion k) := by
  have hpin : s.RollsWithin (s.modStand k fun st => { st with pinAsserted := true }) :=
    State.modStand_rollsWithin_of_eq (fun _ => by rfl) s k
  unfold State.pinAssertion
  split
  · exact .refl s
  · refine .trans ?_ (State.decideChanged_rollsWithin s _)
    split
    · exact hpin
    · exact hpin.trans (State.becomeInhibited_rollsWithin _ k)

theorem State.pinRelease_rollsWithin (s : State) (k : StandId) : s.RollsWithin (s.pinRelease k) := by
  have hpin : s.RollsWithin
      (s.modStand k fun st => { st with pinAsserted := false, awaitsRelease := false }) :=
    State.modStand_rollsWithin_of_eq (fun _ => by rfl) s k
  unfold State.pinRelease
  split
  · exact .refl s
  · refine .trans ?_ (State.decideChanged_rollsWithin s _)
    split
    · split
      · exact hpin
      · exact hpin.trans (State.modStand_rollsWithin (fun st => st.clearFault_rolls false) _ k)
    · exact hpin.trans (State.refreshRequest_rollsWithin _ k)

/-! ### Requests -/

theorem State.answer_rollsWithin (s : State) (r : Request) (kind : BitVec 4) (a : Answer) :
    a.state.RollsWithin (s.answer r kind a) :=
  .of_stands rfl (State.decideChanged_rollsWithin s a.state)

/-- A request gains no roll ID, or none beyond those its stand's answer has (R167, R175). -/
theorem State.serve_rollsWithin_cases (s : State) (r : Request) (kind : BitVec 4) (ok : Bool)
    (f : StandId → Answer) :
    s.RollsWithin (s.serve r kind ok f) ∨ ∃ k, (f k).state.RollsWithin (s.serve r kind ok f) := by
  unfold State.serve
  split
  · split
    · split
      · exact .inr ⟨_, s.answer_rollsWithin r kind _⟩
      · exact .inl (s.answer_rollsWithin r kind (refuse s .badRequest))
    · exact .inl (s.answer_rollsWithin r kind (refuse s .badRequest))
  · exact .inl (.refl s)

theorem State.serve_rollsWithin {s : State} (r : Request) (kind : BitVec 4) (ok : Bool)
    {f : StandId → Answer} (h : ∀ k, s.RollsWithin (f k).state) :
    s.RollsWithin (s.serve r kind ok f) := by
  rcases s.serve_rollsWithin_cases r kind ok f with hserve | ⟨k, hserve⟩
  · exact hserve
  · exact (h k).trans hserve

theorem State.serve_rollsUnique {s : State} (r : Request) (kind : BitVec 4) (ok : Bool)
    {f : StandId → Answer} (hs : RollsUnique s) (h : ∀ k, RollsUnique (f k).state) :
    RollsUnique (s.serve r kind ok f) := by
  rcases s.serve_rollsWithin_cases r kind ok f with hserve | ⟨k, hserve⟩
  · exact hserve.rollsUnique hs
  · exact hserve.rollsUnique (h k)

theorem readItemAnswer_rollsWithin (sel : BitVec 16) (s : State) (k : StandId) :
    s.RollsWithin (readItemAnswer sel s k).state := by
  unfold readItemAnswer; split <;> exact .refl s

theorem parameterAnswer_rollsWithin (sel : BitVec 16) (p : Payload) (s : State) (k : StandId) :
    s.RollsWithin (parameterAnswer sel p s k).state := by
  unfold parameterAnswer
  dsimp only
  split
  · exact .refl s
  · split
    · exact .refl s
    · split
      · exact .refl s
      · exact State.setStand_rollsWithin_of_eq rfl

theorem mapEntryAnswer_rollsWithin (sel : BitVec 16) (p : Payload) (s : State) (k : StandId) :
    s.RollsWithin (mapEntryAnswer sel p s k).state := by
  unfold mapEntryAnswer
  dsimp only
  split
  · exact .refl s
  · split
    · exact State.setStand_rollsWithin_of_eq rfl
    · exact .refl s

theorem lineMapAnswer_rollsWithin (sel : BitVec 16) (p : Payload) (s : State) (k : StandId) :
    s.RollsWithin (lineMapAnswer sel p s k).state := by
  unfold lineMapAnswer
  split
  · exact .refl s
  · split <;> exact .refl s

theorem imageMapAnswer_rollsWithin (sel : BitVec 16) (p : Payload) (s : State) (k : StandId) :
    s.RollsWithin (imageMapAnswer sel p s k).state := by
  unfold imageMapAnswer
  split
  · exact .refl s
  · split <;> exact .refl s

theorem gradeAnswer_rollsWithin (sel : BitVec 16) (p : Payload) (s : State) (k : StandId) :
    s.RollsWithin (gradeAnswer sel p s k).state := by
  unfold gradeAnswer; split <;> exact .refl s

theorem groupAnswer_rollsWithin (sel : BitVec 16) (p : Payload) (s : State) (k : StandId) :
    s.RollsWithin (groupAnswer sel p s k).state := .refl s

theorem readLogAnswer_rollsWithin (sel : BitVec 16) (s : State) :
    s.RollsWithin (readLogAnswer sel s).state := by
  unfold readLogAnswer; split <;> exact .refl s

theorem ackLogAnswer_rollsWithin (s : State) : s.RollsWithin (ackLogAnswer s).state := by
  unfold ackLogAnswer; split <;> exact .refl s

theorem withdrawAnswer_rollsWithin (p : Payload) (s : State) (k : StandId) :
    s.RollsWithin (withdrawAnswer p s k).state := by
  unfold withdrawAnswer
  dsimp only
  split
  · exact .refl s
  split
  · refine State.setStand_rollsWithin ?_
    rw [Stand.rolls_eq, Stand.rolls_eq, List.append_assoc, List.append_assoc]
    exact (List.subperm_append_right _).mpr (List.eraseP_sublist.map _).subperm
  split
  · split
    · exact State.setStand_rollsWithin (Stand.dropReady_rolls _ s.stepPending)
    · exact .refl s
  split <;> exact .refl s

theorem standOfflineAnswer_rollsWithin (s : State) (k : StandId) :
    s.RollsWithin (standOfflineAnswer s k).state := by
  unfold standOfflineAnswer
  dsimp only
  split
  · exact .refl s
  split
  · exact State.setStand_rollsWithin (Stand.goOffline_rolls _)
  · exact .refl s

theorem inhibitAnswer_rollsWithin (s : State) (k : StandId) :
    s.RollsWithin (inhibitAnswer s k).state := by
  have hflag : s.RollsWithin (s.setStand k { s.stand k with requestInhibit := true }) :=
    State.setStand_rollsWithin_of_eq rfl
  unfold inhibitAnswer
  dsimp only [done]
  split
  · dsimp only
    split
    · exact hflag
    · exact hflag.trans (State.becomeInhibited_rollsWithin _ k)
  · exact .refl s

theorem releaseAnswer_rollsWithin (s : State) (k : StandId) :
    s.RollsWithin (releaseAnswer s k).state := by
  have hflag : s.RollsWithin (s.setStand k { s.stand k with requestInhibit := false }) :=
    State.setStand_rollsWithin_of_eq rfl
  unfold releaseAnswer
  dsimp only
  split
  · exact hflag.trans (State.refreshRequest_rollsWithin _ k)
  · exact .refl s

theorem spliceNowAnswer_rollsWithin (s : State) (k : StandId) :
    s.RollsWithin (spliceNowAnswer s k).state := by
  have hforced : s.RollsWithin (s.setStand k { s.stand k with forced := true }) :=
    State.setStand_rollsWithin_of_eq rfl
  unfold spliceNowAnswer
  dsimp only
  split
  case h_1 => exact .refl s
  case h_2 => exact .refl s
  case h_3 => exact .refl s
  case h_4 => exact hforced
  case h_5 => exact hforced
  case h_6 => exact hforced.trans (State.refreshRequest_rollsWithin _ k)
  case h_7 => exact .refl s

theorem State.clearWith_rollsWithin {s : State} {k : StandId} {st : Stand}
    (h : st.rolls.Subperm (s.stand k).rolls) : s.RollsWithin (s.clearWith k st) :=
  (State.setStand_rollsWithin ((st.clearFault_rolls s.stepPending).trans h)).trans
    (State.decideGroup_rollsWithin _ _)

theorem clearFaultAnswer_rollsWithin (sel : BitVec 16) (s : State) (k : StandId) :
    s.RollsWithin (clearFaultAnswer sel s k).state := by
  unfold clearFaultAnswer
  dsimp only
  split
  · exact .refl s
  split
  · exact .refl s
  split
  · split
    · split
      · exact .refl s
      · exact State.clearWith_rollsWithin (Stand.nameArm_rolls _ _ s.grades)
    · exact State.clearWith_rollsWithin (.refl _)
  · exact .refl s

/-! ### The two requests that bring a roll ID in (R62, R66) -/

theorem Stand.enqueue_rolls (st : Stand) (rec : ReelRecord) :
    { st with queue := st.queue ++ [rec] }.rolls.Subperm (rec.roll :: st.rolls) := by
  rw [Stand.rolls_eq, Stand.rolls_eq]
  simpa using (List.perm_middle (l₁ := st.queue.map (·.roll))).subperm

theorem queueReelAnswer_rollsUnique (p : Payload) {s : State} (k : StandId) (hs : RollsUnique s) :
    RollsUnique (queueReelAnswer p s k).state := by
  unfold queueReelAnswer
  dsimp only
  split
  case h_1 => exact hs
  case h_2 rec _ =>
    split
    · exact hs
    case isFalse hheld =>
      split
      · exact hs
      · exact State.setStand_rollsUnique
          ((Stand.tryBind_rolls _ s.stepPending).trans ((s.stand k).enqueue_rolls rec))
          (by simpa using hheld) hs

theorem Stand.goOnline_rolls_eq (st : Stand) (x : Arm) (mounted : Bool) (rec : Option ReelRecord)
    (grades : Vector Grade 16) :
    (st.goOnline x mounted rec grades).rolls = st.queue.map (·.roll) ++
      (Option.filter (· != 0) (some (onlineContext rec st.params grades).roll)).toList := by
  rw [Stand.rolls_eq]
  simp [Stand.goOnline, Stand.afterReset]

/-- R84: a stand put online holds its queue and the mounted reel the request names. -/
theorem Stand.goOnline_rolls (st : Stand) (x : Arm) (mounted : Bool) (rec : ReelRecord)
    (grades : Vector Grade 16) :
    (st.goOnline x mounted (some rec) grades).rolls.Subperm (rec.roll :: st.rolls) := by
  rw [Stand.goOnline_rolls_eq]
  exact (subperm_append st.queue_rolls (nonzero_subperm rec.roll)).trans
    (List.perm_append_singleton _ _).subperm

/-- R66: the anonymous reel has no roll ID. -/
theorem Stand.goOnline_rolls_of_anonymous (st : Stand) (x : Arm) (mounted : Bool)
    (grades : Vector Grade 16) : (st.goOnline x mounted none grades).rolls.Subperm st.rolls := by
  rw [Stand.goOnline_rolls_eq]
  simpa [onlineContext, Option.filter] using st.queue_rolls

theorem standOnlineAnswer_rollsUnique (sel : BitVec 16) (p : Payload) {s : State} (k : StandId)
    (hs : RollsUnique s) : RollsUnique (standOnlineAnswer sel p s k).state := by
  unfold standOnlineAnswer
  dsimp only
  split
  · exact hs
  split
  · exact hs
  split
  case h_1 x mounted rec _ _ _ =>
    split
    case isTrue hfree =>
      cases rec with
      | none =>
        exact (State.setStand_rollsWithin
          ((s.stand k).goOnline_rolls_of_anonymous x mounted s.grades)).rollsUnique hs
      | some rec =>
        exact State.setStand_rollsUnique ((s.stand k).goOnline_rolls x mounted rec s.grades)
          (by simpa [State.rollFree] using hfree) hs
    case isFalse => exact hs
  case h_2 => exact hs

/-! ### Every command -/

/-- Every command but QUEUE-REEL and STAND-ONLINE moves roll IDs within their stand or drops them. -/
theorem exec_rollsWithin (i : Instr) (s : State) (hqueue : ∀ r p, i ≠ .queueReel r p)
    (honline : ∀ r sel p, i ≠ .standOnline r sel p) : ∃ t, exec i s = .next t ∧ s.RollsWithin t := by
  cases i with
  | outboundStartMarker f => exact ⟨_, rfl, s.startMarker_rollsWithin f⟩
  | returnFrame e => exact ⟨_, rfl, s.returnEvent_rollsWithin e⟩
  | signalStaleLimit g => exact ⟨_, rfl, s.signalStaleLimit_rollsWithin g⟩
  | signalStale k => exact ⟨_, rfl, s.signalStale_rollsWithin k⟩
  | runningDiameterWindowComplete k inc travel =>
    exact ⟨_, rfl, s.windowComplete_rollsWithin k inc travel⟩
  | gaugeWindowComplete k reading => exact ⟨_, rfl, s.gaugeComplete_rollsWithin k reading⟩
  | tapeLost k travel => exact ⟨_, rfl, s.tapeLost_rollsWithin k travel⟩
  | accelTimeout k => exact ⟨_, rfl, s.accelTimeout_rollsWithin k⟩
  | confirmTimeout k => exact ⟨_, rfl, s.confirmTimeout_rollsWithin k⟩
  | spacingEnd g inc => exact ⟨_, rfl, s.spacingEnd_rollsWithin g inc⟩
  | linkLoss => exact ⟨_, rfl, s.watchExpiry_rollsWithin⟩
  | resetAssertion => exact ⟨_, rfl, s.assertReset_rollsWithin _ _⟩
  | resetRelease addr => exact ⟨_, rfl, s.releaseReset_rollsWithin addr⟩
  | inhibitFilterSettle steady high => exact ⟨_, rfl, s.settlePins_rollsWithin steady high⟩
  | inhibitPinAssertion k => exact ⟨_, rfl, s.pinAssertion_rollsWithin k⟩
  | inhibitPinRelease k => exact ⟨_, rfl, s.pinRelease_rollsWithin k⟩
  | readItem r sel => exact ⟨_, rfl, State.serve_rollsWithin r 1 _ (readItemAnswer_rollsWithin sel s)⟩
  | writeStandParameter r sel p =>
    exact ⟨_, rfl, State.serve_rollsWithin r 2 _ (parameterAnswer_rollsWithin sel p s)⟩
  | writeSlotMapEntry r sel p =>
    exact ⟨_, rfl, State.serve_rollsWithin r 2 _ (mapEntryAnswer_rollsWithin sel p s)⟩
  | writeLineMap r sel p =>
    exact ⟨_, rfl, State.serve_rollsWithin r 2 _ (lineMapAnswer_rollsWithin sel p s)⟩
  | writeImageMap r sel p =>
    exact ⟨_, rfl, State.serve_rollsWithin r 2 _ (imageMapAnswer_rollsWithin sel p s)⟩
  | writeGradeTableEntry r sel p =>
    exact ⟨_, rfl, State.serve_rollsWithin r 2 _ (gradeAnswer_rollsWithin sel p s)⟩
  | writeGroupTableEntry r sel p =>
    exact ⟨_, rfl, State.serve_rollsWithin r 2 _ (groupAnswer_rollsWithin sel p s)⟩
  | queueReel r p => exact absurd rfl (hqueue r p)
  | withdrawReel r p => exact ⟨_, rfl, State.serve_rollsWithin r 4 _ (withdrawAnswer_rollsWithin p s)⟩
  | standOnline r sel p => exact absurd rfl (honline r sel p)
  | standOffline r => exact ⟨_, rfl, State.serve_rollsWithin r 6 _ (standOfflineAnswer_rollsWithin s)⟩
  | inhibit r => exact ⟨_, rfl, State.serve_rollsWithin r 7 _ (inhibitAnswer_rollsWithin s)⟩
  | release r => exact ⟨_, rfl, State.serve_rollsWithin r 8 _ (releaseAnswer_rollsWithin s)⟩
  | spliceNow r => exact ⟨_, rfl, State.serve_rollsWithin r 9 _ (spliceNowAnswer_rollsWithin s)⟩
  | clearFault r sel =>
    exact ⟨_, rfl, State.serve_rollsWithin r 10 _ (clearFaultAnswer_rollsWithin sel s)⟩
  | readLog r sel =>
    exact ⟨_, rfl, State.serve_rollsWithin r 11 _ fun _ => readLogAnswer_rollsWithin sel s⟩
  | ackLog r => exact ⟨_, rfl, State.serve_rollsWithin r 12 _ fun _ => ackLogAnswer_rollsWithin s⟩
  | unknownKindRequest r kind => exact ⟨_, rfl, State.serve_rollsWithin r kind _ fun _ => .refl s⟩

/-- R62: QUEUE-REEL and STAND-ONLINE bring in a roll ID only where no queue and no context holds it. -/
theorem exec_keeps_rollsUnique {i : Instr} {s t : State} (hs : RollsUnique s)
    (h : exec i s = .next t) : RollsUnique t := by
  by_cases hqueue : ∃ r p, i = .queueReel r p
  · obtain ⟨r, p, rfl⟩ := hqueue
    cases h
    exact State.serve_rollsUnique r 3 true hs fun k => queueReelAnswer_rollsUnique p k hs
  by_cases honline : ∃ r sel p, i = .standOnline r sel p
  · obtain ⟨r, sel, p, rfl⟩ := honline
    cases h
    exact State.serve_rollsUnique r 5 true hs fun k => standOnlineAnswer_rollsUnique sel p k hs
  push Not at hqueue honline
  obtain ⟨u, hu, hwithin⟩ := exec_rollsWithin i s hqueue honline
  cases hu.symm.trans h
  exact hwithin.rollsUnique hs

/-- Settles O57: the command at the front of the queue keeps R63, and an idle step changes nothing. -/
theorem stepKeepsRollsUnique : Obligations.StepKeepsRollsUnique := by
  intro s t hs h
  unfold step at h
  split at h
  case h_1 c rest _ => exact exec_keeps_rollsUnique (s := { s with pending := rest }) hs h
  case h_2 =>
    cases h
    exact hs

end Sys2Proof.Machine
end

section
/-!
SUPPORT. The fire time (R117) as a least whole number of revolutions, what the evaluation of a paste
opportunity prepares (R116, R118), and O36.
-/
namespace Sys2Proof.Machine

/-! ### Fire time -/

theorem revolutionTime_pos {c : Nat} (hpos : 0 < c) (hrate : c ≤ 4095) : 0 < revolutionTime c :=
  Nat.div_pos (by omega) hpos

/-- R117: the whole numbers of revolutions that leave the roller its time are those from
`revolutionsNeeded` on, so that it is the smallest. -/
theorem revolutionsNeeded_le_iff {tRev : Nat} (hpos : 0 < tRev) (tArr tPaste m : Nat) :
    revolutionsNeeded tArr tRev tPaste ≤ m ↔ tPaste + 500 ≤ tArr + m * tRev := by
  have hceil : revolutionsNeeded tArr tRev tPaste = (tPaste + 500 - tArr) ⌈/⌉ tRev := by
    rw [revolutionsNeeded, Nat.ceilDiv_eq_add_pred_div, Nat.add_sub_assoc hpos]
  rw [hceil, ceilDiv_le_iff_le_mul hpos, Nat.sub_le_iff_le_add', Nat.mul_comm]

section
variable (contact now : Angle) {c : Nat} (tPaste : Nat)

theorem paste_reached_of_revolutionsNeeded (hpos : 0 < c) (hrate : c ≤ 4095) :
    tPaste + 500 ≤ arrivalTime contact now c +
      revolutionsNeeded (arrivalTime contact now c) (revolutionTime c) tPaste * revolutionTime c :=
  (revolutionsNeeded_le_iff (revolutionTime_pos hpos hrate) _ _ _).mp le_rfl

/-- The subtraction of the paste delay in R117 never truncates. -/
theorem fireTime_add_paste (hpos : 0 < c) (hrate : c ≤ 4095) :
    fireTime contact now c tPaste + tPaste = arrivalTime contact now c +
      revolutionsNeeded (arrivalTime contact now c) (revolutionTime c) tPaste * revolutionTime c := by
  have hreached := paste_reached_of_revolutionsNeeded contact now tPaste hpos hrate
  exact Nat.sub_add_cancel (by omega)

theorem le_fireTime (hpos : 0 < c) (hrate : c ≤ 4095) : 500 ≤ fireTime contact now c tPaste := by
  have hreached := paste_reached_of_revolutionsNeeded contact now tPaste hpos hrate
  have hfire := fireTime_add_paste contact now tPaste hpos hrate
  omega

end

/-! ### Evaluation -/

theorem Capture.isStale_eq_false_iff (v : Capture) : v.isStale = false ↔ v.cond = .live := by
  simp [Capture.isStale]

/-- R116, R118: what an evaluation needs, and the fire it prepares. -/
theorem Stand.evaluatePaste_eq_some_iff (st : Stand) (h : ArmHand) (lineStale : Bool) (c : Word)
    (p : PreparedFire) :
    st.evaluatePaste h lineStale c = some p ↔
      ∃ r tape now, st.ready = some r ∧ r.tape = some tape ∧
        (st.arm st.readyArm).spindle.angle = some now ∧ h.refreshed = true ∧
        0 < (st.arm st.readyArm).rate ∧ lineStale = false ∧ st.status.cap.cond = .live ∧
        let tf := fireTime (contactAngle tape st.params.sensorLead) now (st.arm st.readyArm).rate
          st.params.tPaste
        tf < 750 ∧ ⟨c + 1, tf - 500⟩ = p := by
  unfold Stand.evaluatePaste
  cases hready : st.ready with
  | none => simp
  | some r =>
    cases htape : r.tape with
    | none => simp [htape]
    | some tape =>
      cases hangle : (st.arm st.readyArm).spindle.angle with
      | none => simp [htape, hangle]
      | some now => simp [htape, hangle, Capture.isStale_eq_false_iff, and_assoc]

/-- R118: the offset of a fire prepared below 750 µs fits its cycle's first 250 µs. -/
theorem prepared_iff_offset {tf : Nat} (hmin : 500 ≤ tf) (c : Word) (p : PreparedFire) :
    (tf < 750 ∧ ⟨c + 1, tf - 500⟩ = p) ↔ p.cycle = c + 1 ∧ p.offset ≤ 249 ∧ p.offset + 500 = tf := by
  obtain ⟨cycle, offset⟩ := p
  rw [PreparedFire.mk.injEq]
  dsimp only
  constructor
  · rintro ⟨hmax, rfl, rfl⟩
    exact ⟨rfl, by omega, by omega⟩
  · rintro ⟨rfl, hfits, rfl⟩
    exact ⟨by omega, rfl, by omega⟩

/-- Settles O36: the revolutions by `revolutionsNeeded_le_iff`, the fire by the evaluation's conditions. -/
theorem pasteOpportunityPreparesFire : Obligations.PasteOpportunityPreparesFire := by
  constructor
  · intro contact now c tPaste tArr tRev hpos hrate harr hrev
    obtain rfl : tArr = arrivalTime contact now c := harr.eq_roundDiv hpos
    obtain rfl : tRev = revolutionTime c := hrev.eq_roundDiv hpos
    refine ⟨revolutionsNeeded _ _ _, fireTime_add_paste contact now tPaste hpos hrate,
      le_fireTime contact now tPaste hpos hrate, fun m hm => ?_⟩
    exact not_le.mp fun hle =>
      hm.not_ge ((revolutionsNeeded_le_iff (revolutionTime_pos hpos hrate) _ _ _).mpr hle)
  · intro st h lineStale c p hrate
    rw [st.evaluatePaste_eq_some_iff]
    refine exists_congr fun r => exists_congr fun tape => exists_congr fun now => ?_
    refine and_congr_right fun _ => and_congr_right fun _ => and_congr_right fun _ =>
      and_congr_right fun _ => and_congr_right fun hpos => and_congr_right fun _ =>
      and_congr_right fun _ => ?_
    exact prepared_iff_offset (le_fireTime _ now st.params.tPaste hpos hrate) c p

end Sys2Proof.Machine
end

section
/-!
SUPPORT. The choice of a grant decision (R131, R132), the state a decision leaves (R133), and O42.
-/
namespace Sys2Proof.Machine

/-! ### The order of R132 -/

/-- R132: the four rules, taken in turn. -/
theorem State.placedBefore_iff (s : State) (k j : StandId) :
    s.placedBefore k j = true ↔
      ((s.stand k).urgent = true ∧ (s.stand j).urgent = false) ∨
      ((s.stand k).urgent = (s.stand j).urgent ∧
        (((s.stand k).diameterValid = true ∧ (s.stand j).diameterValid = false) ∨
         ((s.stand k).diameterValid = true ∧ (s.stand j).diameterValid = true ∧
           (s.stand k).dRun < (s.stand j).dRun) ∨
         ((s.stand k).diameterValid = true ∧ (s.stand j).diameterValid = true ∧
           (s.stand k).dRun = (s.stand j).dRun ∧ k < j) ∨
         ((s.stand k).diameterValid = false ∧ (s.stand j).diameterValid = false ∧ k < j))) := by
  unfold State.placedBefore
  dsimp only
  split
  case isTrue hurgent => grind
  case isFalse hurgent =>
    split
    case isTrue hvalid => grind
    case isFalse hvalid =>
      split
      case isTrue hrun => rw [decide_eq_true_iff]; grind
      case isFalse hrun => rw [decide_eq_true_iff]; grind

theorem State.placedBefore_trans {s : State} {i j k : StandId} (hij : s.placedBefore i j = true)
    (hjk : s.placedBefore j k = true) : s.placedBefore i k = true := by
  rw [State.placedBefore_iff] at *
  grind

theorem State.placedBefore_of_not {s : State} {j k : StandId} (hne : j ≠ k)
    (h : s.placedBefore j k = false) : s.placedBefore k j = true := by
  have hnot : ¬ s.placedBefore j k = true := by simp [h]
  rw [State.placedBefore_iff] at *
  grind

/-- A comparison keeps the stand placed before the other. -/
theorem State.better_first (s : State) (best : Option StandId) (a : StandId) :
    ∃ c, s.better best a = some c ∧ ∀ j, j = a ∨ best = some j → j ≠ c → s.placedBefore c j = true := by
  cases best with
  | none => exact ⟨a, rfl, by simp⟩
  | some b =>
    unfold State.better
    dsimp only
    split
    case isTrue hbefore =>
      refine ⟨a, rfl, fun j hj hne => ?_⟩
      obtain rfl : b = j := by simpa [hne] using hj
      exact hbefore
    case isFalse hnot =>
      refine ⟨b, rfl, fun j hj hne => ?_⟩
      obtain rfl : j = a := by simpa [hne.symm] using hj
      exact State.placedBefore_of_not hne (by simpa using hnot)

/-- R132: the stand that remains is placed before every other that was compared. -/
theorem State.foldl_better_first (s : State) {k : StandId} (l : List StandId) (best : Option StandId)
    (h : l.foldl s.better best = some k) :
    ∀ j, j ∈ l ∨ best = some j → j ≠ k → s.placedBefore k j = true := by
  induction l generalizing best with
  | nil =>
    intro j hj hne
    simp_all
  | cons a l ih =>
    obtain ⟨c, hc, hfirst⟩ := s.better_first best a
    rw [List.foldl_cons, hc] at h
    have hkept := ih (some c) h
    intro j hj hne
    by_cases hjl : j ∈ l
    · exact hkept j (.inl hjl) hne
    have hcompared : j = a ∨ best = some j := by simpa [hjl] using hj
    by_cases hjc : j = c
    · exact hkept j (.inr (hjc ▸ rfl)) hne
    have hcj := hfirst j hcompared hjc
    by_cases hck : c = k
    · exact hck ▸ hcj
    · exact State.placedBefore_trans (hkept c (.inr rfl) hck) hcj

theorem State.foldl_better_eq_none_iff (s : State) (l : List StandId) (best : Option StandId) :
    l.foldl s.better best = none ↔ l = [] ∧ best = none := by
  induction l generalizing best with
  | nil => simp
  | cons a l ih =>
    obtain ⟨c, hc, -⟩ := s.better_first best a
    simp [ih, hc]

/-! ### The stands a decision may grant (R131, R134) -/

section
variable {s : State} {g : GroupId}

theorem State.mayGrant_of_free (h : (s.group g).grant = .free) (k : StandId) :
    s.mayGrant g k = (s.group g).has k := by simp [State.mayGrant, h]

theorem State.mayGrant_of_held {j : StandId} (h : (s.group g).grant = .held j) (k : StandId) :
    s.mayGrant g k = false := by simp [State.mayGrant, h]

theorem State.mayGrant_of_spacing {rest : Nat} {w : Bool} (h : (s.group g).grant = .spacing rest w)
    (k : StandId) : s.mayGrant g k = ((s.group g).has k && (s.stand k).urgent) := by
  simp [State.mayGrant, h]

theorem State.has_of_mayGrant {k : StandId} (h : s.mayGrant g k = true) : (s.group g).has k = true := by
  simp only [State.mayGrant, Bool.and_eq_true] at h
  exact h.1

theorem State.not_held_of_mayGrant {k : StandId} (h : s.mayGrant g k = true) (j : StandId) :
    (s.group g).grant ≠ .held j := by
  intro hheld
  simp [State.mayGrant_of_held hheld] at h

theorem State.mayGrant_of_requester {j : StandId} (hheld : ∀ k, (s.group g).grant ≠ .held k)
    (hhas : (s.group g).has j = true) (h : (s.group g).grant = .free ∨ (s.stand j).urgent = true) :
    s.mayGrant g j = true := by
  cases hgrant : (s.group g).grant with
  | free => rw [State.mayGrant_of_free hgrant, hhas]
  | held k => exact absurd hgrant (hheld k)
  | spacing rest w => simp_all [State.mayGrant_of_spacing hgrant]

/-- R132: the stand a decision grants is placed before every other it may grant. -/
theorem State.chosen_first {j k : StandId} (h : s.chosen g = some k) (hj : s.mayGrant g j = true)
    (hne : j ≠ k) : s.placedBefore k j = true :=
  s.foldl_better_first _ none h j (.inl (List.mem_filter.mpr ⟨mem_allStands j, hj⟩)) hne

theorem State.chosen_eq_none_iff : s.chosen g = none ↔ ∀ k, s.mayGrant g k = false := by
  unfold State.chosen
  rw [State.foldl_better_eq_none_iff]
  simp [mem_allStands]

theorem State.decideGroup_of_chosen {k : StandId} (h : s.chosen g = some k) :
    s.decideGroup g = s.grantTo g k := by simp [State.decideGroup, h]

theorem State.decideGroup_of_none (h : s.chosen g = none) : s.decideGroup g = s := by
  simp [State.decideGroup, h]

/-- R139: a requester waits from its request start. -/
theorem State.staggerWait_of_start {k : StandId} {start : Word}
    (h : (s.stand k).requestStart = some start) : s.staggerWait k = (s.cycle - start).toNat := by
  simp [State.staggerWait, h]

end

/-- Settles O42: the order by `chosen_first` and `placedBefore_iff`, the effect by what `grantTo` leaves. -/
theorem grantGoesToFirstRequester : Obligations.GrantGoesToFirstRequester := by
  intro s g
  refine ⟨fun k hk => ?_, fun hfree => ?_, fun rest w hspacing => ⟨fun k hk => ?_, ?_⟩, fun k hheld => ?_,
    State.decideGroup_of_none, fun k start hk hstart => ?_⟩
  · have hmay := s.chosen_mayGrant g k hk
    refine ⟨State.has_of_mayGrant hmay, fun j hne hhas hgrant => ?_⟩
    have hj := State.mayGrant_of_requester (State.not_held_of_mayGrant hmay) hhas hgrant
    exact (s.placedBefore_iff k j).mp (State.chosen_first hk hj hne)
  · simp only [State.chosen_eq_none_iff, State.mayGrant_of_free hfree]
  · have hmay := s.chosen_mayGrant g k hk
    rw [State.mayGrant_of_spacing hspacing, Bool.and_eq_true] at hmay
    exact hmay.2
  · simp only [State.chosen_eq_none_iff, State.mayGrant_of_spacing hspacing, Bool.and_eq_false_imp]
  · exact State.chosen_eq_none_iff.mpr (State.mayGrant_of_held hheld)
  · rw [State.decideGroup_of_chosen hk]
    refine ⟨?_, ?_, fun j hne => ⟨?_, ?_⟩, ?_, fun h hne => ?_, ?_, rfl⟩
    · rw [State.grantTo_group, if_pos rfl]
    · rw [State.grantTo_group, if_pos rfl]
      exact ((s.group g).has_remove k k).trans (by simp)
    · rw [State.grantTo_group, if_pos rfl]
      exact ((s.group g).has_remove k j).trans (by simp [hne])
    · rw [State.grantTo_stand, if_neg hne]
    · rw [State.grantTo_group, if_pos rfl]; rfl
    · rw [State.grantTo_group, if_neg hne]
    · rw [State.grantTo_stand, if_pos rfl, State.staggerWait_of_start hstart]

end Sys2Proof.Machine
end

section
/-!
SUPPORT. What the arbiters and the sequences keep between them, stand by stand (R98, R128, R129): the
agreement of one stand, what a change of one stand or one group does to it, and the grant decisions.
-/
namespace Sys2Proof.Machine

/-! ### What of a stand the arbiters see -/

/-- The stand keeps its parameters and its inhibit. -/
structure Stand.SameSetting (st st' : Stand) : Prop where
  params : st'.params = st.params
  pinAsserted : st'.pinAsserted = st.pinAsserted
  pinSettled : st'.pinSettled = st.pinSettled
  requestInhibit : st'.requestInhibit = st.requestInhibit

/-- The stand keeps its state as well. -/
structure Stand.SameStanding (st st' : Stand) : Prop extends st.SameSetting st' where
  state : st'.state = st.state

/-- The stand keeps all that its requests and its urgency depend on (R90, R91, R129). -/
structure Stand.SameRole (st st' : Stand) : Prop extends st.SameStanding st' where
  forced : st'.forced = st.forced
  running : st'.running = st.running

theorem Stand.SameSetting.refl (st : Stand) : st.SameSetting st := ⟨rfl, rfl, rfl, rfl⟩

theorem Stand.SameSetting.trans {st st' st'' : Stand} (h : st.SameSetting st') (h' : st'.SameSetting st'') :
    st.SameSetting st'' :=
  ⟨h'.params.trans h.params, h'.pinAsserted.trans h.pinAsserted, h'.pinSettled.trans h.pinSettled,
    h'.requestInhibit.trans h.requestInhibit⟩

theorem Stand.SameStanding.trans {st st' st'' : Stand} (h : st.SameStanding st')
    (h' : st'.SameStanding st'') : st.SameStanding st'' :=
  ⟨h.toSameSetting.trans h'.toSameSetting, h'.state.trans h.state⟩

theorem Stand.SameRole.refl (st : Stand) : st.SameRole st := ⟨⟨.refl st, rfl⟩, rfl, rfl⟩

theorem Stand.SameRole.trans {st st' st'' : Stand} (h : st.SameRole st') (h' : st'.SameRole st'') :
    st.SameRole st'' :=
  ⟨h.toSameStanding.trans h'.toSameStanding, h'.forced.trans h.forced, h'.running.trans h.running⟩

theorem Stand.SameSetting.inhibited {st st' : Stand} (h : st.SameSetting st') :
    st'.inhibited = st.inhibited := by
  unfold Stand.inhibited; rw [h.pinAsserted, h.requestInhibit]

/-- R91: urgency comes from the parameters and the running context. -/
theorem Stand.urgent_congr {st st' : Stand} (hparams : st'.params = st.params)
    (hrunning : st'.running = st.running) : st'.urgent = st.urgent := by
  unfold Stand.urgent Stand.spliceDiameter; rw [hparams, hrunning]

theorem State.setStand_urgent {s : State} {k : StandId} {st : Stand} (h : st.urgent = (s.stand k).urgent)
    (j : StandId) : ((s.setStand k st).stand j).urgent = (s.stand j).urgent := by
  rw [State.stand_setStand]
  split
  case isTrue hj => rw [hj, h]
  case isFalse => rfl

theorem Stand.SameRole.urgent {st st' : Stand} (h : st.SameRole st') : st'.urgent = st.urgent :=
  Stand.urgent_congr h.params h.running

theorem Stand.SameRole.requests {st st' : Stand} (h : st.SameRole st') : st'.requests = st.requests := by
  unfold Stand.requests Stand.due Stand.dueByDiameter Stand.spliceDiameter
  rw [h.inhibited, h.state, h.params, h.running, h.forced]

theorem State.groupOf_setStand_same (s : State) (k : StandId) (st : Stand) :
    (s.setStand k st).groupOf k = st.params.group := by
  unfold State.groupOf; rw [State.stand_setStand_same]

theorem Stand.SameSetting.groupOf_setStand {s : State} {k : StandId} {st : Stand}
    (h : (s.stand k).SameSetting st) : (s.setStand k st).groupOf k = s.groupOf k := by
  rw [State.groupOf_setStand_same, h.params]; rfl

theorem State.refreshRequest_joins (s : State) {k : StandId} (h : (s.stand k).state = .matched)
    (hreq : (s.stand k).requests = true) :
    ∃ st, (s.stand k).SameRole st ∧
      s.refreshRequest k =
        (s.setStand k st).setGroup (s.groupOf k) ((s.group (s.groupOf k)).add k) :=
  ⟨{ s.stand k with requestStart := some ((s.stand k).requestStart.getD s.cycle) },
    ⟨⟨⟨rfl, rfl, rfl, rfl⟩, rfl⟩, rfl, rfl⟩, s.refreshRequest_of_requests k h hreq⟩

/-! ### The agreement of one stand -/

/-- R98, R189: what `InhibitHolds` says of one stand. -/
def Stand.InhibitAgrees (st : Stand) : Prop :=
  (st.pinSettled = false → st.pinAsserted = true) ∧ (st.state.watched = true → st.inhibited = false)

/-- R128: stand k holds its group in FIRING and CONFIRM, and no group otherwise. -/
def State.HoldsExactly (s : State) (k : StandId) : Prop :=
  ∀ g, (s.group g).grant = .held k ↔ s.groupOf k = g ∧ (s.stand k).state.holdsGrant = true

/-- R129: stand k is in the requester set of its group while its conditions hold, and in no other. -/
def State.RequestsExactly (s : State) (k : StandId) : Prop :=
  ∀ g, (s.group g).has k = true ↔ s.groupOf k = g ∧ (s.stand k).requests = true

/-- What `GroupsAgree` says of stand k. -/
def State.AgreesAt (s : State) (k : StandId) : Prop :=
  (s.stand k).InhibitAgrees ∧ s.HoldsExactly k ∧ s.RequestsExactly k

theorem groupsAgree_iff (s : State) : GroupsAgree s ↔ ∀ k, s.AgreesAt k := by
  constructor
  · rintro ⟨hinhibit, hheld, hholder, hrequest⟩ k
    refine ⟨hinhibit k, fun g => ⟨fun h => (hholder g k h).symm, ?_⟩, fun g => hrequest g k⟩
    rintro ⟨rfl, hfires⟩
    exact hheld k hfires
  · intro h
    refine ⟨fun k => (h k).1, fun k hfires => ?_, fun g k hheld => ?_, fun g k => (h k).2.2 g⟩
    · exact ((h k).2.1 _).mpr ⟨rfl, hfires⟩
    · exact (((h k).2.1 g).mp hheld).symm

/-- A stand that agrees with its inhibit still does in a state that inhibit does not concern more. -/
theorem Stand.InhibitAgrees.of_sameSetting {st st' : Stand} (h : st.InhibitAgrees)
    (hsame : st.SameSetting st') (hwatched : st'.state.watched = true → st.state.watched = true) :
    st'.InhibitAgrees := by
  obtain ⟨hpin, hinhibited⟩ := h
  refine ⟨fun hsettled => ?_, fun hw => ?_⟩
  · rw [hsame.pinAsserted]; exact hpin (hsame.pinSettled ▸ hsettled)
  · rw [hsame.inhibited]; exact hinhibited (hwatched hw)

theorem Stand.InhibitAgrees.of_sameStanding {st st' : Stand} (h : st.InhibitAgrees)
    (hsame : st.SameStanding st') : st'.InhibitAgrees :=
  h.of_sameSetting hsame.toSameSetting fun hw => hsame.state ▸ hw

theorem GroupsAgree.foldl {α : Type} {f : State → α → State}
    (hf : ∀ (s : State) (a : α), GroupsAgree s → GroupsAgree (f s a)) (l : List α) {s : State}
    (h : GroupsAgree s) : GroupsAgree (l.foldl f s) := by
  induction l generalizing s with
  | nil => exact h
  | cons a l ih => exact ih (hf s a h)

theorem Stand.matched_of_requests {st : Stand} (h : st.requests = true) : st.state = .matched := by
  simp only [Stand.requests, Bool.and_eq_true, beq_iff_eq] at h
  exact h.1.1

theorem GroupsAgree.matched_of_has {s : State} (h : GroupsAgree s) {g : GroupId} {k : StandId}
    (hhas : (s.group g).has k = true) : (s.stand k).state = .matched :=
  Stand.matched_of_requests (((((groupsAgree_iff s).mp h k).2.2 g).mp hhas).2)

/-- R128: within one folder group at most one stand is in FIRING or CONFIRM. -/
theorem GroupsAgree.eq_of_holdsGrant {s : State} (h : GroupsAgree s) {j k : StandId}
    (hj : (s.stand j).state.holdsGrant = true) (hk : (s.stand k).state.holdsGrant = true)
    (hgroup : s.groupOf j = s.groupOf k) : j = k := by
  obtain ⟨-, hheld, -, -⟩ := h
  have hboth : GrantState.held j = GrantState.held k := by rw [← hheld j hj, hgroup, hheld k hk]
  exact GrantState.held.inj hboth

theorem StandState.holdsGrant_of_mem {x : StandState}
    (h : x ∈ [StandState.firingPending, .firingIssued, .confirm]) : x.holdsGrant = true := by
  simp only [List.mem_cons, List.not_mem_nil, or_false] at h
  obtain rfl | rfl | rfl := h <;> rfl

/-! ### What does not concern a stand -/

/-- From s to t nothing that concerns stand j has changed: the stand, the groups it holds, its requests. -/
def State.SameAt (s t : State) (j : StandId) : Prop :=
  t.stand j = s.stand j ∧
    ∀ g, ((t.group g).grant = .held j ↔ (s.group g).grant = .held j) ∧
      (t.group g).has j = (s.group g).has j

theorem State.SameAt.agreesAt {s t : State} {j : StandId} (h : s.SameAt t j) (hs : s.AgreesAt j) :
    t.AgreesAt j := by
  obtain ⟨hstand, hgroups⟩ := h
  obtain ⟨hinhibit, hheld, hrequest⟩ := hs
  have hgroupOf : t.groupOf j = s.groupOf j := by unfold State.groupOf; rw [hstand]
  refine ⟨hstand ▸ hinhibit, fun g => ?_, fun g => ?_⟩
  · rw [(hgroups g).1, hheld g, hgroupOf, hstand]
  · rw [(hgroups g).2, hrequest g, hgroupOf, hstand]

theorem State.setStand_sameAt (s : State) {j k : StandId} (st : Stand) (hne : j ≠ k) :
    s.SameAt (s.setStand k st) j := ⟨s.stand_setStand_other st hne, fun _ => ⟨.rfl, rfl⟩⟩

theorem State.setGroup_sameAt (s : State) {g : GroupId} {v : Group} {j : StandId}
    (hheld : v.grant = .held j ↔ (s.group g).grant = .held j) (hhas : v.has j = (s.group g).has j) :
    s.SameAt (s.setGroup g v) j := by
  refine ⟨rfl, fun h => ?_⟩
  rw [State.group_setGroup]
  split
  case isTrue heq => exact heq ▸ ⟨hheld, hhas⟩
  case isFalse => exact ⟨.rfl, rfl⟩

/-- A group replaced by one with the same holder and the same requesters. -/
theorem GroupsAgree.setGroup {s : State} (h : GroupsAgree s) {g : GroupId} {v : Group}
    (hheld : ∀ j, v.grant = .held j ↔ (s.group g).grant = .held j)
    (hhas : ∀ j, v.has j = (s.group g).has j) : GroupsAgree (s.setGroup g v) :=
  (groupsAgree_iff _).mpr fun j =>
    (s.setGroup_sameAt (hheld j) (hhas j)).agreesAt ((groupsAgree_iff s).mp h j)

/-! ### All but one stand in agreement -/

/-- Every stand but k agrees, and k neither holds nor requests a group. -/
def State.AgreesWithout (s : State) (k : StandId) : Prop :=
  (∀ j, j ≠ k → s.AgreesAt j) ∧ ∀ g, (s.group g).grant ≠ .held k ∧ (s.group g).has k = false

/-- Every stand but k agrees, k holds what its state gives it, and requests in MATCHED only: whether its
conditions hold has yet to be seen. -/
def State.AgreesBut (s : State) (k : StandId) : Prop :=
  (∀ j, j ≠ k → s.AgreesAt j) ∧ s.HoldsExactly k ∧
    ∀ g, (s.group g).has k = true → s.groupOf k = g ∧ (s.stand k).state = .matched

/-- Neither in FIRING or CONFIRM nor in MATCHED: no claim on the group. -/
def StandState.Idle (x : StandState) : Prop := x.holdsGrant = false ∧ x ≠ .matched

/-- Idle, and not in ACCEL: inhibit does not concern the state either (R98). -/
def StandState.AtRest (x : StandState) : Prop := x.holdsGrant = false ∧ x.watched = false

theorem StandState.AtRest.idle {x : StandState} (h : x.AtRest) : x.Idle := by
  refine ⟨h.1, ?_⟩
  rintro rfl
  cases h.2

theorem GroupsAgree.agreesBut {s : State} (h : GroupsAgree s) (k : StandId) : s.AgreesBut k := by
  have hall := (groupsAgree_iff s).mp h
  refine ⟨fun j _ => hall j, (hall k).2.1, fun g hhas => ?_⟩
  obtain ⟨hgroup, hreq⟩ := ((hall k).2.2 g).mp hhas
  exact ⟨hgroup, Stand.matched_of_requests hreq⟩

theorem GroupsAgree.inhibitAgrees {s : State} (h : GroupsAgree s) (k : StandId) :
    (s.stand k).InhibitAgrees := ((groupsAgree_iff s).mp h k).1

theorem State.AgreesBut.agreesWithout {s : State} {k : StandId} (h : s.AgreesBut k)
    (hidle : (s.stand k).state.Idle) : s.AgreesWithout k := by
  obtain ⟨hothers, hheld, hasked⟩ := h
  obtain ⟨hfree, hnot⟩ := hidle
  refine ⟨hothers, fun g => ⟨fun hg => ?_, ?_⟩⟩
  · rw [hheld g, hfree] at hg
    cases hg.2
  · exact Bool.eq_false_iff.mpr fun hhas => hnot (hasked g hhas).2

/-- A stand without a claim may take any idle state in which it agrees by itself. -/
theorem State.AgreesWithout.setStand {s : State} {k : StandId} {st : Stand} (h : s.AgreesWithout k)
    (hidle : st.state.Idle) (hinhibit : st.InhibitAgrees) : GroupsAgree (s.setStand k st) := by
  obtain ⟨hothers, habsent⟩ := h
  obtain ⟨hfree, hnot⟩ := hidle
  rw [groupsAgree_iff]
  intro j
  by_cases hj : j = k
  · subst hj
    have hreq : st.requests = false := Bool.eq_false_iff.mpr fun h => hnot (Stand.matched_of_requests h)
    refine ⟨?_, fun g => ?_, fun g => ?_⟩
    · rw [State.stand_setStand_same]; exact hinhibit
    · simp [hfree, (habsent g).1]
    · simp [hreq, (habsent g).2]
  · exact (s.setStand_sameAt st hj).agreesAt (hothers j hj)

theorem State.AgreesWithout.setStand_rest {s : State} {k : StandId} {st : Stand} (h : s.AgreesWithout k)
    (hrest : st.state.AtRest) (hpin : st.pinSettled = false → st.pinAsserted = true) :
    GroupsAgree (s.setStand k st) :=
  h.setStand hrest.idle ⟨hpin, fun hwatched => by simp [hrest.2] at hwatched⟩

/-- The stand changes, but neither its group nor its claim. -/
theorem State.AgreesBut.setStand {s : State} {k : StandId} {st : Stand} (h : s.AgreesBut k)
    (hgroup : st.params.group = s.groupOf k)
    (hholds : st.state.holdsGrant = (s.stand k).state.holdsGrant)
    (hmatched : (s.stand k).state = .matched → st.state = .matched) : (s.setStand k st).AgreesBut k := by
  obtain ⟨hothers, hheld, hasked⟩ := h
  have hgroupOf : (s.setStand k st).groupOf k = s.groupOf k := (s.groupOf_setStand_same k st).trans hgroup
  refine ⟨fun j hj => (s.setStand_sameAt st hj).agreesAt (hothers j hj), fun g => ?_, fun g hhas => ?_⟩
  · rw [State.setStand_group, hheld g, hgroupOf, State.stand_setStand_same, hholds]
  · obtain ⟨hk, hstate⟩ := hasked g hhas
    rw [hgroupOf, State.stand_setStand_same]
    exact ⟨hk, hmatched hstate⟩

theorem State.AgreesBut.setStand_sameStanding {s : State} {k : StandId} {st : Stand} (h : s.AgreesBut k)
    (hsame : (s.stand k).SameStanding st) : (s.setStand k st).AgreesBut k :=
  h.setStand (congrArg Params.group hsame.params) (congrArg StandState.holdsGrant hsame.state)
    hsame.state.trans

/-! ### Leaving a group, refreshing a request -/

theorem State.leaveGroup_of_idle {s : State} {k : StandId} (h : (s.stand k).state.Idle) :
    s.leaveGroup k = s := by
  obtain ⟨hfree, hnot⟩ := h
  unfold State.leaveGroup
  split <;> simp_all [StandState.holdsGrant]

theorem State.leaveGroup_of_matched {s : State} {k : StandId} (h : (s.stand k).state = .matched) :
    s.leaveGroup k = s.setGroup (s.groupOf k) ((s.group (s.groupOf k)).remove k) := by
  unfold State.leaveGroup; rw [h]

theorem Group.toSpacing_not_held (v : Group) (waits : Bool) (j : StandId) :
    (v.toSpacing waits).grant ≠ .held j := by
  unfold Group.toSpacing; dsimp only; split <;> nofun

/-- R135, R136: leaving FIRING or CONFIRM frees the group or takes it to SPACING. -/
theorem State.leaveGroup_of_holdsGrant {s : State} {k : StandId}
    (h : (s.stand k).state.holdsGrant = true) :
    ∃ v, s.leaveGroup k = s.setGroup (s.groupOf k) v ∧ (∀ j, v.grant ≠ .held j) ∧
      v.requesters = (s.group (s.groupOf k)).requesters := by
  unfold State.leaveGroup
  dsimp only
  split
  case h_1 hstate => simp [hstate, StandState.holdsGrant] at h
  case h_2 => exact ⟨_, rfl, nofun, rfl⟩
  case h_3 => exact ⟨_, rfl, Group.toSpacing_not_held _ _, rfl⟩
  case h_4 => exact ⟨_, rfl, Group.toSpacing_not_held _ _, rfl⟩
  case h_5 => simp_all [StandState.holdsGrant]

/-- A stand that leaves its state for good loses its claim, and no other stand does. -/
theorem State.AgreesBut.leaveGroup {s : State} {k : StandId} (h : s.AgreesBut k) :
    (s.leaveGroup k).AgreesWithout k := by
  by_cases hidle : (s.stand k).state.Idle
  · rw [State.leaveGroup_of_idle hidle]
    exact h.agreesWithout hidle
  obtain ⟨hothers, hheld, hasked⟩ := h
  by_cases hmatched : (s.stand k).state = .matched
  · rw [State.leaveGroup_of_matched hmatched]
    have hnone : ∀ g, (s.group g).grant ≠ .held k := fun g hg => by
      simp [hheld g, hmatched, StandState.holdsGrant] at hg
    refine ⟨fun j hj => ?_, fun g => ?_⟩
    · refine State.SameAt.agreesAt (s.setGroup_sameAt ?_ ?_) (hothers j hj)
      · rw [Group.remove_grant]
      · simp [Group.has_remove, hj]
    · rw [State.group_setGroup]
      split
      case isTrue hg => exact ⟨hg ▸ hnone g, by simp [Group.has_remove]⟩
      case isFalse hg =>
        exact ⟨hnone g, Bool.eq_false_iff.mpr fun hhas => hg (hasked g hhas).1.symm⟩
  · have hholds : (s.stand k).state.holdsGrant = true := by simpa [StandState.Idle, hmatched] using hidle
    obtain ⟨v, hleft, hfree, hrequesters⟩ := State.leaveGroup_of_holdsGrant hholds
    have hown : (s.group (s.groupOf k)).grant = .held k := (hheld _).mpr ⟨rfl, hholds⟩
    have hhas : ∀ j, v.has j = (s.group (s.groupOf k)).has j := fun j => by
      unfold Group.has; rw [hrequesters]
    rw [hleft]
    refine ⟨fun j hj => ?_, fun g => ?_⟩
    · refine (s.setGroup_sameAt ?_ (hhas j)).agreesAt (hothers j hj)
      simp [hfree j, hown, hj.symm]
    · have hnot : ∀ g, (s.group g).has k = false := fun g =>
        Bool.eq_false_iff.mpr fun hhas => hmatched (hasked g hhas).2
      rw [State.group_setGroup]
      split
      case isTrue hg => exact ⟨hfree k, (hhas k).trans (hnot _)⟩
      case isFalse hg => exact ⟨fun hg' => hg ((hheld g).mp hg').1.symm, hnot g⟩

/-- The request of stand k in its group changes, in MATCHED. -/
theorem State.AgreesBut.setGroup {s : State} {k : StandId} {g : GroupId} {v : Group} (h : s.AgreesBut k)
    (hgroup : s.groupOf k = g) (hmatched : (s.stand k).state = .matched)
    (hgrant : v.grant = (s.group g).grant) (hhas : ∀ j, j ≠ k → v.has j = (s.group g).has j) :
    (s.setGroup g v).AgreesBut k := by
  subst hgroup
  obtain ⟨hothers, hheld, hasked⟩ := h
  refine ⟨fun j hj => ?_, fun g => ?_, fun g => ?_⟩
  · exact State.SameAt.agreesAt (s.setGroup_sameAt (by rw [hgrant]) (hhas j hj)) (hothers j hj)
  · rw [State.setGroup_groupOf, State.setGroup_stand, ← hheld g, State.group_setGroup]
    split
    case isTrue hg => rw [hgrant, hg]
    case isFalse => exact .rfl
  · rw [State.setGroup_groupOf, State.setGroup_stand, State.group_setGroup]
    split
    case isTrue hg => exact fun _ => ⟨hg.symm, hmatched⟩
    case isFalse => exact hasked g

/-- What is left to see: that stand k agrees with its inhibit, and requests while its conditions hold. -/
theorem State.AgreesBut.groupsAgree {s : State} {k : StandId} (h : s.AgreesBut k)
    (hinhibit : (s.stand k).InhibitAgrees)
    (hexact : (s.group (s.groupOf k)).has k = (s.stand k).requests) : GroupsAgree s := by
  obtain ⟨hothers, hheld, hasked⟩ := h
  rw [groupsAgree_iff]
  intro j
  by_cases hj : j = k
  · subst hj
    refine ⟨hinhibit, hheld, fun g => ⟨fun hhas => ?_, ?_⟩⟩
    · obtain ⟨rfl, -⟩ := hasked g hhas
      exact ⟨rfl, hexact ▸ hhas⟩
    · rintro ⟨rfl, hreq⟩
      exact hexact.trans hreq
  · exact hothers j hj

theorem State.AgreesBut.groupsAgree_of_not_matched {s : State} {k : StandId} (h : s.AgreesBut k)
    (hinhibit : (s.stand k).InhibitAgrees) (hnot : (s.stand k).state ≠ .matched) : GroupsAgree s := by
  have hhas : (s.group (s.groupOf k)).has k = false :=
    Bool.eq_false_iff.mpr fun hhas => hnot (h.2.2 _ hhas).2
  have hreq : (s.stand k).requests = false :=
    Bool.eq_false_iff.mpr fun hreq => hnot (Stand.matched_of_requests hreq)
  exact h.groupsAgree hinhibit (hhas.trans hreq.symm)

/-- R91: a refreshed request changes no urgency. -/
theorem State.refreshRequest_urgent (s : State) (k j : StandId) :
    ((s.refreshRequest k).stand j).urgent = (s.stand j).urgent := by
  by_cases hmatched : (s.stand k).state = .matched
  · cases hreq : (s.stand k).requests with
    | true =>
      obtain ⟨st, hrole, hjoin⟩ := s.refreshRequest_joins hmatched hreq
      rw [hjoin, State.setGroup_stand, State.setStand_urgent hrole.urgent]
    | false => rw [s.refreshRequest_of_not_requests k hmatched hreq, State.setGroup_stand]
  · rw [s.refreshRequest_of_not_matched k hmatched]

/-- R129, R130: the refreshed request completes the agreement. -/
theorem State.AgreesBut.refreshRequest {s : State} {k : StandId} (h : s.AgreesBut k)
    (hinhibit : (s.stand k).InhibitAgrees) : GroupsAgree (s.refreshRequest k) := by
  by_cases hmatched : (s.stand k).state = .matched
  · cases hreq : (s.stand k).requests with
    | true =>
      obtain ⟨st, hrole, hjoin⟩ := s.refreshRequest_joins hmatched hreq
      have hgroup : (s.setStand k st).groupOf k = s.groupOf k := hrole.groupOf_setStand
      have hstand : (s.setStand k st).stand k = st := s.stand_setStand_same k st
      have hadded := (h.setStand_sameStanding hrole.toSameStanding).setGroup hgroup
        (by rw [hstand, hrole.state, hmatched]) (Group.add_grant (s.group (s.groupOf k)) k)
        fun j hj => by simp [Group.has_add, hj]
      rw [hjoin]
      refine hadded.groupsAgree ?_ ?_
      · rw [State.setGroup_stand, hstand]
        exact hinhibit.of_sameStanding hrole.toSameStanding
      · rw [State.setGroup_groupOf, hgroup, State.group_setGroup_same, State.setGroup_stand, hstand,
          hrole.requests, hreq]
        simp [Group.has_add]
    | false =>
      rw [s.refreshRequest_of_not_requests k hmatched hreq]
      refine (h.setGroup rfl hmatched (Group.remove_grant _ k) fun j hj => ?_).groupsAgree hinhibit ?_
      · simp [Group.has_remove, hj]
      · simp [Group.has_remove, hreq]
  · rw [s.refreshRequest_of_not_matched k hmatched]
    exact h.groupsAgree_of_not_matched hinhibit hmatched

end Sys2Proof.Machine
end

section
/-!
SUPPORT. Grant decisions keep the agreement and leave no decision due (R131, R133, R134); the relations between
the part before and after a command, or a part of one, from which O58 is put together.
-/
namespace Sys2Proof.Machine

/-! ### A grant (R133) -/

theorem State.grantTo_sameAt {s : State} {g : GroupId} {j k : StandId} (hk : s.mayGrant g k = true)
    (hne : j ≠ k) : s.SameAt (s.grantTo g k) j := by
  refine ⟨by rw [State.grantTo_stand, if_neg hne], fun h => ?_⟩
  rw [State.grantTo_group]
  split
  case isTrue heq =>
    subst heq
    refine ⟨iff_of_false ?_ (State.not_held_of_mayGrant hk j), ?_⟩
    · exact fun hheld => hne (GrantState.held.inj hheld).symm
    · exact ((s.group h).has_remove k j).trans (by simp [hne])
  case isFalse => exact ⟨.rfl, rfl⟩

theorem State.grantTo_agreesAt {s : State} {g : GroupId} {k : StandId} (h : GroupsAgree s)
    (hk : s.mayGrant g k = true) : (s.grantTo g k).AgreesAt k := by
  obtain ⟨hinhibit, hheld, hrequest⟩ := (groupsAgree_iff s).mp h k
  obtain ⟨hgroup, hreq⟩ := (hrequest g).mp (State.has_of_mayGrant hk)
  have hmatched := Stand.matched_of_requests hreq
  have hgroupOf : (s.grantTo g k).groupOf k = g := by
    unfold State.groupOf; rw [State.grantTo_stand, if_pos rfl]; exact hgroup
  refine ⟨?_, fun h => ?_, fun h => ?_⟩
  · rw [State.grantTo_stand, if_pos rfl]
    exact hinhibit.of_sameSetting ⟨rfl, rfl, rfl, rfl⟩ fun _ => by rw [hmatched]; rfl
  · rw [hgroupOf, State.grantTo_group, State.grantTo_stand, if_pos rfl]
    split
    case isTrue heq => simp [heq, StandState.holdsGrant]
    case isFalse hne =>
      refine iff_of_false (fun hold => ?_) fun hholds => hne hholds.1.symm
      simp [hheld h, hmatched, StandState.holdsGrant] at hold
  · rw [hgroupOf, State.grantTo_group, State.grantTo_stand, if_pos rfl]
    refine iff_of_false ?_ fun hreq' => nomatch Stand.matched_of_requests hreq'.2
    split
    case isTrue heq =>
      have hremoved := (s.group g).has_remove k k
      simp_all [Group.has]
    case isFalse hne => exact fun hhas => hne (((hrequest h).mp hhas).1.symm.trans hgroup)

theorem GroupsAgree.grantTo {s : State} {g : GroupId} {k : StandId} (h : GroupsAgree s)
    (hk : s.mayGrant g k = true) : GroupsAgree (s.grantTo g k) := by
  rw [groupsAgree_iff]
  intro j
  by_cases hj : j = k
  · subst hj; exact State.grantTo_agreesAt h hk
  · exact (State.grantTo_sameAt hk hj).agreesAt ((groupsAgree_iff s).mp h j)

theorem State.grantTo_urgent (s : State) (g : GroupId) (k j : StandId) :
    ((s.grantTo g k).stand j).urgent = (s.stand j).urgent := by
  unfold State.grantTo
  exact State.setStand_urgent (s := s.setGroup g _) (Stand.urgent_congr (by rfl) (by rfl)) j

/-! ### A grant decision (R131) -/

theorem GroupsAgree.decideGroup {s : State} (h : GroupsAgree s) (g : GroupId) :
    GroupsAgree (s.decideGroup g) := by
  rcases s.decideGroup_cases g with ⟨-, heq⟩ | ⟨k, hk, heq⟩
  · rwa [heq]
  · rw [heq]; exact h.grantTo (s.chosen_mayGrant g k hk)

theorem State.decideGroup_urgent (s : State) (g : GroupId) (k : StandId) :
    ((s.decideGroup g).stand k).urgent = (s.stand k).urgent := by
  rcases s.decideGroup_cases g with ⟨-, heq⟩ | ⟨j, -, heq⟩
  · rw [heq]
  · rw [heq, State.grantTo_urgent]

theorem State.decideGroup_group_other (s : State) {g h : GroupId} (hne : h ≠ g) :
    (s.decideGroup g).group h = s.group h := by
  rcases s.decideGroup_cases g with ⟨-, heq⟩ | ⟨k, -, heq⟩
  · rw [heq]
  · rw [heq, State.grantTo_group, if_neg hne]

/-- A stand in MATCHED after a decision was so before it. -/
theorem State.matched_of_decideGroup {s : State} {g : GroupId} {k : StandId}
    (h : ((s.decideGroup g).stand k).state = .matched) : (s.stand k).state = .matched := by
  rcases s.decideGroup_cases g with ⟨-, heq⟩ | ⟨j, -, heq⟩
  · rwa [heq] at h
  · rw [heq, State.grantTo_stand] at h
    split at h
    case isTrue => cases h
    case isFalse => exact h

/-- What a decision may grant depends on the group's grant and requesters, and on their urgency. -/
theorem State.mayGrant_congr {s t : State} {g : GroupId} (hgrant : (t.group g).grant = (s.group g).grant)
    (hrequesters : (t.group g).requesters = (s.group g).requesters) {k : StandId}
    (hurgent : (s.group g).has k = true → (t.stand k).urgent = (s.stand k).urgent) :
    t.mayGrant g k = s.mayGrant g k := by
  have hhas : (t.group g).has k = (s.group g).has k := by unfold Group.has; rw [hrequesters]
  unfold State.mayGrant
  rw [hhas, hgrant]
  cases hold : (s.group g).has k with
  | false => rfl
  | true => rw [hurgent hold]

theorem State.chosen_none_congr {s t : State} {g : GroupId}
    (hgrant : (t.group g).grant = (s.group g).grant)
    (hrequesters : (t.group g).requesters = (s.group g).requesters)
    (hurgent : ∀ k, (s.group g).has k = true → (t.stand k).urgent = (s.stand k).urgent)
    (h : s.chosen g = none) : t.chosen g = none := by
  rw [State.chosen_eq_none_iff] at *
  intro k
  rw [State.mayGrant_congr hgrant hrequesters (hurgent k)]
  exact h k

theorem State.decideGroup_chosen (s : State) (g : GroupId) : (s.decideGroup g).chosen g = none := by
  rcases s.decideGroup_cases g with ⟨hnone, heq⟩ | ⟨k, -, heq⟩
  · rw [heq, hnone]
  · rw [heq, State.chosen_eq_none_iff]
    exact State.mayGrant_of_held (j := k) (by rw [State.grantTo_group, if_pos rfl])

/-- A decision of one group leaves none due that was not. -/
theorem State.decideGroup_keeps_chosen (s : State) (g : GroupId) {h : GroupId}
    (hnone : s.chosen h = none) : (s.decideGroup g).chosen h = none := by
  by_cases heq : h = g
  · rw [heq, State.decideGroup_chosen]
  · have hsame := s.decideGroup_group_other heq
    exact State.chosen_none_congr (by rw [hsame]) (by rw [hsame]) (fun k _ => s.decideGroup_urgent g k) hnone

/-! ### The decisions at the end of an event -/

theorem GroupsAgree.decideAll {s : State} (h : GroupsAgree s) : GroupsAgree s.decideAll :=
  .foldl (fun _ g hs => hs.decideGroup g) allGroups h

theorem State.foldl_decideGroup_chosen (l : List GroupId) (s : State) {g : GroupId}
    (h : g ∈ l ∨ s.chosen g = none) : (l.foldl State.decideGroup s).chosen g = none := by
  induction l generalizing s with
  | nil => simpa using h
  | cons a l ih =>
    refine ih _ ?_
    rcases h with hmem | hnone
    · rcases List.mem_cons.mp hmem with rfl | hmem
      · exact .inr (s.decideGroup_chosen g)
      · exact .inl hmem
    · exact .inr (s.decideGroup_keeps_chosen a hnone)

/-- R131, point 1: the decisions after the steps of a cycle leave none due. -/
theorem State.decideAll_decisionsMade (s : State) : DecisionsMade s.decideAll :=
  fun g => State.foldl_decideGroup_chosen allGroups s (.inl (mem_allGroups g))

theorem GroupsAgree.decideChangedGroup {s : State} (h : GroupsAgree s) (before : State) (g : GroupId) :
    GroupsAgree (State.decideChangedGroup before s g) := by
  unfold State.decideChangedGroup
  split
  · exact h
  · exact h.decideGroup g

theorem GroupsAgree.decideChanged {s : State} (h : GroupsAgree s) (before : State) :
    GroupsAgree (State.decideChanged before s) :=
  .foldl (fun _ g hs => hs.decideChangedGroup before g) allGroups h

/-- A group whose grant and requesters are those before the event has no decision due. -/
def State.UnchangedDecided (before s : State) (g : GroupId) : Prop :=
  (before.group g).grant = (s.group g).grant → (before.group g).requesters = (s.group g).requesters →
    s.chosen g = none

theorem State.decideChangedGroup_chosen {before s : State} {g : GroupId}
    (h : before.UnchangedDecided s g) : (State.decideChangedGroup before s g).chosen g = none := by
  unfold State.decideChangedGroup
  split
  case isTrue hsame => exact h hsame.1 hsame.2
  case isFalse => exact s.decideGroup_chosen g

theorem State.decideChangedGroup_keeps_chosen (before s : State) (g : GroupId) {h : GroupId}
    (hnone : s.chosen h = none) : (State.decideChangedGroup before s g).chosen h = none := by
  unfold State.decideChangedGroup
  split
  · exact hnone
  · exact s.decideGroup_keeps_chosen g hnone

theorem State.decideChangedGroup_group_other (before s : State) {g h : GroupId} (hne : h ≠ g) :
    (State.decideChangedGroup before s g).group h = s.group h := by
  unfold State.decideChangedGroup
  split
  · rfl
  · exact s.decideGroup_group_other hne

theorem State.UnchangedDecided.decideChangedGroup {before s : State}
    (h : ∀ g, before.UnchangedDecided s g) (a g : GroupId) :
    before.UnchangedDecided (State.decideChangedGroup before s a) g := by
  by_cases hga : g = a
  · intro _ _
    rw [hga]
    exact State.decideChangedGroup_chosen (h a)
  · unfold State.UnchangedDecided
    rw [State.decideChangedGroup_group_other before s hga]
    exact fun hgrant hreq => State.decideChangedGroup_keeps_chosen before s a (h g hgrant hreq)

theorem State.foldl_decideChangedGroup_chosen {before : State} (l : List GroupId) (s : State)
    (hdecided : ∀ g, before.UnchangedDecided s g) {g : GroupId} (h : g ∈ l ∨ s.chosen g = none) :
    (l.foldl (State.decideChangedGroup before) s).chosen g = none := by
  induction l generalizing s with
  | nil => simpa using h
  | cons a l ih =>
    refine ih _ (State.UnchangedDecided.decideChangedGroup hdecided a) ?_
    rcases h with hmem | hnone
    · rcases List.mem_cons.mp hmem with rfl | hmem
      · exact .inr (State.decideChangedGroup_chosen (hdecided g))
      · exact .inl hmem
    · exact .inr (State.decideChangedGroup_keeps_chosen before s a hnone)

/-! ### From a state to a later one -/

/-- What O58 asks of a command, or of a part of one, that takes s to t. -/
def State.KeepsAgreement (s t : State) : Prop :=
  GroupsAgree s → GroupsAgree t ∧ (DecisionsMade s → DecisionsMade t)

/-- The event has taken s to t, and its decisions (R131, points 2 to 4) are still to come: t agrees, and the
stands in MATCHED have the urgency they had. -/
def State.Prepares (s t : State) : Prop :=
  GroupsAgree t ∧ ∀ k, (t.stand k).state = .matched → (t.stand k).urgent = (s.stand k).urgent

/-- Every stand keeps its role, every group its grant and requesters. -/
def State.SameRoles (s t : State) : Prop :=
  (∀ k, (s.stand k).SameRole (t.stand k)) ∧ ∀ g, t.group g = s.group g

theorem State.KeepsAgreement.refl (s : State) : s.KeepsAgreement s := fun h => ⟨h, id⟩

theorem State.KeepsAgreement.trans {s t u : State} (h : s.KeepsAgreement t) (h' : t.KeepsAgreement u) :
    s.KeepsAgreement u := fun hs =>
  have ⟨ht, hmade⟩ := h hs
  have ⟨hu, hmade'⟩ := h' ht
  ⟨hu, hmade' ∘ hmade⟩

theorem State.KeepsAgreement.foldl {α : Type} {f : State → α → State}
    (h : ∀ (s : State) (a : α), s.KeepsAgreement (f s a)) (l : List α) (s : State) :
    s.KeepsAgreement (l.foldl f s) := by
  induction l generalizing s with
  | nil => exact .refl s
  | cons a l ih => exact (h s a).trans (ih _)

/-- The end of an event that takes no step of a cycle (R131, points 2 to 4, R175). -/
theorem State.Prepares.decideChanged {s t : State} (h : s.Prepares t) (hmade : DecisionsMade s) :
    DecisionsMade (State.decideChanged s t) := by
  obtain ⟨hagree, hurgent⟩ := h
  intro g
  refine State.foldl_decideChangedGroup_chosen allGroups t (fun g hgrant hreq => ?_) (.inl (mem_allGroups g))
  refine State.chosen_none_congr hgrant.symm hreq.symm (fun k hhas => hurgent k ?_) (hmade g)
  refine hagree.matched_of_has (g := g) ?_
  unfold Group.has at hhas ⊢
  rwa [← hreq]

theorem State.KeepsAgreement.of_prepares {s t : State} (h : GroupsAgree s → s.Prepares t) :
    s.KeepsAgreement (State.decideChanged s t) :=
  fun hs => ⟨(h hs).1.decideChanged s, (h hs).decideChanged⟩

/-- With every group as it was there is nothing to decide. -/
theorem State.KeepsAgreement.of_same_groups {s t : State} (h : GroupsAgree s → s.Prepares t)
    (hgroups : ∀ g, t.group g = s.group g) : s.KeepsAgreement t := by
  have hkeeps := State.KeepsAgreement.of_prepares h
  rwa [State.decideChanged_of_same s t fun g => (hgroups g).symm] at hkeeps

/-- The end of the steps of a cycle, and of an event of those steps (R131, point 1, R162). -/
theorem State.KeepsAgreement.of_decideAll {s t : State} (h : GroupsAgree s → GroupsAgree t) (n : Nat) :
    s.KeepsAgreement { t.decideAll.joinLog with freeIndex := n } := by
  rw [State.joinLog_frame]
  exact fun hs => ⟨(h hs).decideAll, fun _ => t.decideAll_decisionsMade⟩

theorem State.joinLog_keepsAgreement (s : State) : s.KeepsAgreement s.joinLog := by
  rw [State.joinLog_frame]; exact .refl s

theorem State.Prepares.decideGroup {s t : State} (h : s.Prepares t) (g : GroupId) :
    s.Prepares (t.decideGroup g) := by
  obtain ⟨hagree, hurgent⟩ := h
  refine ⟨hagree.decideGroup g, fun k hmatched => ?_⟩
  rw [State.decideGroup_urgent]
  exact hurgent k (State.matched_of_decideGroup hmatched)

/-! ### Roles kept -/

theorem State.SameRoles.refl (s : State) : s.SameRoles s := ⟨fun _ => .refl _, fun _ => rfl⟩

theorem State.SameRoles.trans {s t u : State} (h : s.SameRoles t) (h' : t.SameRoles u) : s.SameRoles u :=
  ⟨fun k => (h.1 k).trans (h'.1 k), fun g => (h'.2 g).trans (h.2 g)⟩

theorem State.SameRoles.groupsAgree {s t : State} (h : s.SameRoles t) (hs : GroupsAgree s) :
    GroupsAgree t := by
  obtain ⟨hstands, hgroups⟩ := h
  rw [groupsAgree_iff] at *
  intro k
  obtain ⟨hinhibit, hheld, hrequest⟩ := hs k
  have hgroupOf : t.groupOf k = s.groupOf k := congrArg Params.group (hstands k).params
  refine ⟨hinhibit.of_sameStanding (hstands k).toSameStanding, fun g => ?_, fun g => ?_⟩
  · rw [hgroups, hgroupOf, (hstands k).state]; exact hheld g
  · rw [hgroups, hgroupOf, (hstands k).requests]; exact hrequest g

theorem State.SameRoles.prepares {s t : State} (h : s.SameRoles t) (hs : GroupsAgree s) : s.Prepares t :=
  ⟨h.groupsAgree hs, fun k _ => (h.1 k).urgent⟩

theorem State.SameRoles.keepsAgreement {s t : State} (h : s.SameRoles t) : s.KeepsAgreement t :=
  .of_same_groups h.prepares h.2

theorem State.setStand_sameRoles {s : State} {k : StandId} {st : Stand} (h : (s.stand k).SameRole st) :
    s.SameRoles (s.setStand k st) := by
  refine ⟨fun j => ?_, fun _ => rfl⟩
  rw [State.stand_setStand]
  split
  case isTrue hj => exact hj ▸ h
  case isFalse => exact .refl _

theorem State.modStand_sameRoles {f : Stand → Stand} (h : ∀ st : Stand, st.SameRole (f st)) (s : State)
    (k : StandId) : s.SameRoles (s.modStand k f) := State.setStand_sameRoles (h _)

theorem State.foldl_modStand_sameRoles {f : Stand → Stand} (h : ∀ st : Stand, st.SameRole (f st))
    (l : List StandId) (s : State) : s.SameRoles (l.foldl (fun t k => t.modStand k f) s) := by
  induction l generalizing s with
  | nil => exact .refl s
  | cons k l ih => exact (State.modStand_sameRoles h s k).trans (ih _)

/-- A stand that is not in MATCHED is no requester. -/
theorem State.Prepares.of_not_matched {s : State} {k : StandId} {st : Stand}
    (h : GroupsAgree (s.setStand k st)) (hnot : st.state ≠ .matched) : s.Prepares (s.setStand k st) := by
  refine ⟨h, fun j hmatched => ?_⟩
  rw [State.stand_setStand] at hmatched ⊢
  split at hmatched
  case isTrue => exact absurd hmatched hnot
  case isFalse hne => rw [if_neg hne]

/-- A stand goes from an idle state to one at rest. -/
theorem State.Prepares.setStand_rest {s : State} {k : StandId} {st : Stand} (h : GroupsAgree s)
    (hold : (s.stand k).state.Idle) (hrest : st.state.AtRest)
    (hpin : st.pinSettled = false → st.pinAsserted = true) : s.Prepares (s.setStand k st) :=
  .of_not_matched (((h.agreesBut k).agreesWithout hold).setStand_rest hrest hpin) hrest.idle.2

end Sys2Proof.Machine
end

section
/-!
SUPPORT. What the operations on one stand keep of its parameters, its inhibit and its state.
-/
namespace Sys2Proof.Machine

/-! ### States at rest -/

/-- R183: a state in which the parameters can be written. -/
theorem StandState.atRest_of_not_locksParams {x : StandState} (h : x.locksParams = false) : x.AtRest := by
  cases x <;> simp_all [StandState.locksParams, StandState.AtRest, StandState.holdsGrant, StandState.watched]

/-- R103: a state in which STAND-OFFLINE is accepted. -/
theorem StandState.idle_of_mayLeave {x : StandState} (h : x.mayLeave = true) : x.Idle := by
  cases x <;> simp_all [StandState.mayLeave, StandState.Idle, StandState.holdsGrant]

/-! ### Reel contexts -/

theorem Stand.returnToHead_sameRole (st : Stand) : st.SameRole st.returnToHead := by
  rw [Stand.returnToHead_frame]; exact ⟨⟨⟨rfl, rfl, rfl, rfl⟩, rfl⟩, rfl, rfl⟩

theorem Stand.bindHead_sameSetting (st : Stand) (waits : Bool) : st.SameSetting (st.bindHead waits) := by
  unfold Stand.bindHead; split <;> exact ⟨rfl, rfl, rfl, rfl⟩

/-- Binding takes a stand from RUNNING to CHECKING, or does nothing (R71). -/
theorem Stand.tryBind_standing (st : Stand) (waits : Bool) :
    st.SameSetting (st.tryBind waits) ∧
      (st.tryBind waits = st ∨ st.state = .running ∧ (st.tryBind waits).state = .checking) := by
  rcases st.tryBind_cases waits with ⟨-, h⟩ | ⟨q, rest, hstate, -, -, -, h⟩
  · rw [h]; exact ⟨.refl st, .inl rfl⟩
  · rw [h]; exact ⟨⟨rfl, rfl, rfl, rfl⟩, .inr ⟨hstate, rfl⟩⟩

theorem Stand.tryBind_atRest {st : Stand} (waits : Bool) (h : st.state = .running) :
    (st.tryBind waits).state.AtRest := by
  rcases (st.tryBind_standing waits).2 with heq | ⟨-, hchecking⟩
  · rw [heq, h]; exact ⟨rfl, rfl⟩
  · rw [hchecking]; exact ⟨rfl, rfl⟩

theorem Stand.dropReady_standing (st : Stand) (waits : Bool) :
    st.SameSetting (st.dropReady waits) ∧ (st.dropReady waits).state.AtRest := by
  have hdrop : st.SameSetting
      { st with
        ready := none, sNew := none, gaugeWindow := none, state := .running
        mountPending := st.mountPending || st.level st.readyArm } := ⟨rfl, rfl, rfl, rfl⟩
  exact ⟨hdrop.trans (Stand.tryBind_standing _ waits).1, Stand.tryBind_atRest waits rfl⟩

theorem Stand.markUnload_sameRole (st : Stand) (x : Arm) : st.SameRole (st.markUnload x) := by
  rw [Stand.markUnload_frame]; exact ⟨⟨⟨rfl, rfl, rfl, rfl⟩, rfl⟩, rfl, rfl⟩

theorem Stand.transfer_sameSetting (st : Stand) (grades : Vector Grade 16) :
    st.SameSetting (st.transfer grades) := by
  have hmark := (st.markUnload_sameRole st.runningArm).toSameSetting
  unfold Stand.transfer
  split
  · exact hmark.trans ⟨rfl, rfl, rfl, rfl⟩
  · exact .refl st

theorem Stand.discardReady_sameSetting (st : Stand) : st.SameSetting st.discardReady := by
  have hmark := (st.markUnload_sameRole st.readyArm).toSameSetting
  exact hmark.trans ⟨rfl, rfl, rfl, rfl⟩

/-! ### Faults, clears and inhibit -/

theorem Stand.markFurther_sameRole (st : Stand) : st.SameRole st.markFurther := by
  unfold Stand.markFurther; split <;> exact ⟨⟨⟨rfl, rfl, rfl, rfl⟩, rfl⟩, rfl, rfl⟩

/-- Entry to FAULT keeps parameters, inhibit and running context (R104). -/
theorem Stand.enterFault_standing (st : Stand) (kind : FaultKind) (c : Word) (sig : Option StaleSignal) :
    st.SameSetting (st.enterFault kind c sig) ∧ (st.enterFault kind c sig).running = st.running := by
  have hreturn := st.returnToHead_sameRole
  unfold Stand.enterFault
  dsimp only
  split
  · exact ⟨hreturn.toSameSetting.trans ⟨rfl, rfl, rfl, rfl⟩, hreturn.running⟩
  · exact ⟨⟨rfl, rfl, rfl, rfl⟩, rfl⟩

theorem Stand.enterUnready_sameSetting (st : Stand) (waits : Bool) :
    st.SameSetting (st.enterUnready waits) := by
  unfold Stand.enterUnready
  split
  · exact st.bindHead_sameSetting waits
  · exact ⟨rfl, rfl, rfl, rfl⟩

theorem Stand.enterCleared_sameSetting (st : Stand) (waits : Bool) :
    st.SameSetting (st.enterCleared waits) := by
  unfold Stand.enterCleared
  split
  · split
    · exact st.returnToHead_sameRole.toSameSetting.trans (Stand.enterUnready_sameSetting _ waits)
    · split
      · exact ⟨rfl, rfl, rfl, rfl⟩
      · exact st.enterUnready_sameSetting waits
  · exact st.enterUnready_sameSetting waits

/-- A cleared stand is at rest, with its parameters and its inhibit (R152, R153). -/
theorem Stand.clearFault_standing (st : Stand) (waits : Bool) :
    st.SameSetting (st.clearFault waits) ∧ (st.clearFault waits).state.AtRest := by
  have hdrop : st.SameSetting st.dropFault := ⟨rfl, rfl, rfl, rfl⟩
  refine ⟨hdrop.trans (Stand.enterCleared_sameSetting _ waits), ?_⟩
  unfold Stand.clearFault
  obtain h | h | h := st.dropFault.enterCleared_state waits <;> rw [h] <;> exact ⟨rfl, rfl⟩

theorem Stand.nameArm_sameSetting (st : Stand) (x : Arm) (grades : Vector Grade 16) :
    st.SameSetting (st.nameArm x grades) := by
  unfold Stand.nameArm
  split
  · exact st.discardReady_sameSetting.trans ⟨rfl, rfl, rfl, rfl⟩
  · exact (st.transfer_sameSetting grades).trans ⟨rfl, rfl, rfl, rfl⟩

/-- A return to READY by inhibit leaves the stand at rest, with its running context (R99). -/
theorem Stand.returnReady_standing (st : Stand) :
    st.SameSetting st.returnReady ∧ st.returnReady.state.AtRest ∧ st.returnReady.running = st.running := by
  rcases st.returnReady_cases with ⟨-, h⟩ | ⟨-, h⟩
  · rw [h]; exact ⟨⟨rfl, rfl, rfl, rfl⟩, ⟨rfl, rfl⟩, rfl⟩
  · have hreturn := Stand.returnToHead_sameRole
      { st with braking := true, accelTimer := none, sched := st.sched.stopped, state := .ready }
    rw [h]
    exact ⟨⟨hreturn.params, hreturn.pinAsserted, hreturn.pinSettled, hreturn.requestInhibit⟩, ⟨rfl, rfl⟩,
      hreturn.running⟩

/-! ### Capture and measurement -/

theorem Stand.captureStep_sameRole (st : Stand) (samples : Option (Vector Slot 96)) (passedOver : Bool) :
    st.SameRole (st.captureStep samples passedOver).1 := ⟨⟨⟨rfl, rfl, rfl, rfl⟩, rfl⟩, rfl, rfl⟩

theorem Stand.staleWindow_sameRole (st : Stand) (h : StandHand) (lh : LineHand) :
    st.SameRole (st.staleWindow h lh) := by
  unfold Stand.staleWindow; split <;> exact ⟨⟨⟨rfl, rfl, rfl, rfl⟩, rfl⟩, rfl, rfl⟩

theorem Stand.watchStep_sameRole (st : Stand) (lineStale : Bool) : st.SameRole (st.watchStep lineStale) :=
  ⟨⟨⟨rfl, rfl, rfl, rfl⟩, rfl⟩, rfl, rfl⟩

theorem Stand.acceptTest_sameStanding (st : Stand) (d : Nat) (grades : Vector Grade 16) :
    st.SameStanding (st.acceptTest d grades) := by
  unfold Stand.acceptTest; split <;> exact ⟨⟨rfl, rfl, rfl, rfl⟩, rfl⟩

theorem Stand.advanceWindow_sameStanding (st : Stand) (w : DiameterWindow) (inc : Nat) (travel : Angle)
    (grades : Vector Grade 16) : st.SameStanding (st.advanceWindow w inc travel grades) := by
  unfold Stand.advanceWindow
  dsimp only
  split
  · exact Stand.SameStanding.trans (st' := { st with window := some ⟨0, 0, (w.advance inc travel).angle⟩ })
      ⟨⟨rfl, rfl, rfl, rfl⟩, rfl⟩ (Stand.acceptTest_sameStanding _ _ grades)
  · exact ⟨⟨rfl, rfl, rfl, rfl⟩, rfl⟩

theorem Stand.windowStep_sameStanding (st : Stand) (lineLive passedOver : Bool) (inc : Nat)
    (grades : Vector Grade 16) : st.SameStanding (st.windowStep lineLive passedOver inc grades) := by
  unfold Stand.windowStep
  dsimp only
  split
  · split
    · exact st.advanceWindow_sameStanding _ inc _ grades
    · split <;> exact ⟨⟨rfl, rfl, rfl, rfl⟩, rfl⟩
    · exact ⟨⟨rfl, rfl, rfl, rfl⟩, rfl⟩
  · exact ⟨⟨rfl, rfl, rfl, rfl⟩, rfl⟩

theorem Stand.countReading_sameRole (st : Stand) (w : GaugeWindow) (d : Nat) :
    st.SameRole (st.countReading w d).1 := by
  unfold Stand.countReading; split <;> exact ⟨⟨⟨rfl, rfl, rfl, rfl⟩, rfl⟩, rfl, rfl⟩

theorem Stand.gaugeStep_sameRole (st : Stand) (h : StandHand) : st.SameRole (st.gaugeStep h).1 := by
  unfold Stand.gaugeStep
  split
  · split
    · exact ⟨⟨⟨rfl, rfl, rfl, rfl⟩, rfl⟩, rfl, rfl⟩
    · split
      · exact st.countReading_sameRole _ _
      · exact .refl st
  · exact .refl st

theorem Stand.advanceAnchor_sameStanding (st : Stand) (inc : Nat) :
    st.SameStanding (st.advanceAnchor inc) := ⟨⟨rfl, rfl, rfl, rfl⟩, rfl⟩

theorem Stand.measureLength_sameStanding (st : Stand) (speed : Nat) :
    st.SameStanding (st.measureLength speed) := ⟨⟨rfl, rfl, rfl, rfl⟩, rfl⟩

/-- A measurement step may change what the stand requests, not its state or its inhibit. -/
theorem Stand.measureStep_sameStanding (st : Stand) (h : StandHand) (lineLive passedOver : Bool)
    (inc speed : Nat) (grades : Vector Grade 16) :
    st.SameStanding (st.measureStep h lineLive passedOver inc speed grades).1 := by
  have hwindow := (st.measureRates.advanceAnchor inc).windowStep_sameStanding lineLive passedOver inc grades
  have hgauge := Stand.gaugeStep_sameRole
    (((st.measureRates.advanceAnchor inc).windowStep lineLive passedOver inc grades).measureLength speed) h
  have hrates : st.SameStanding st.measureRates := ⟨⟨rfl, rfl, rfl, rfl⟩, rfl⟩
  have hready : ∀ u : Stand, u.SameStanding u.measureReady := fun _ => ⟨⟨rfl, rfl, rfl, rfl⟩, rfl⟩
  have hanchor := hrates.trans (st.measureRates.advanceAnchor_sameStanding inc)
  have hlength := (hanchor.trans hwindow).trans (Stand.measureLength_sameStanding _ speed)
  exact (hlength.trans hgauge.toSameStanding).trans (hready _)

/-! ### The scheduler and the controller -/

theorem Stand.trackTape_sameStanding (st : Stand) (h : ArmHand) (first : Nat) :
    st.SameStanding (st.trackTape h first) := by
  unfold Stand.trackTape
  dsimp only
  split <;> exact ⟨⟨rfl, rfl, rfl, rfl⟩, rfl⟩

/-- The scheduler's work after tape tracking; a stand enters MATCHED from ACCEL, and leaves the band in a
watched state (R110, R111). -/
theorem Stand.schedulerRest_standing (st : Stand) (h : StandHand) (lineStale : Bool) (c : Word) :
    st.SameStanding (st.schedulerRest h lineStale c).1 ∧
      ((st.schedulerRest h lineStale c).2 = .enterMatched → st.state = .accel) ∧
      ((st.schedulerRest h lineStale c).2 = .leaveBand → st.state.watched = true) := by
  have hself : st.SameStanding st := ⟨.refl st, rfl⟩
  unfold Stand.schedulerRest
  split
  case h_1 hstate =>
    have htick : st.SameStanding st.tickAccel := ⟨⟨rfl, rfl, rfl, rfl⟩, rfl⟩
    unfold Stand.accelWork
    dsimp only
    split
    · exact ⟨htick, nofun, nofun⟩
    · split
      · exact ⟨htick, fun _ => hstate, nofun⟩
      · exact ⟨htick, nofun, nofun⟩
  case h_2 hstate =>
    split
    · exact ⟨hself, nofun, fun _ => by rw [hstate]; rfl⟩
    · exact ⟨hself, nofun, nofun⟩
  case h_3 hstate =>
    unfold Stand.pendingWork
    split
    · exact ⟨hself, nofun, fun _ => by rw [hstate]; rfl⟩
    · split
      · exact ⟨⟨⟨rfl, rfl, rfl, rfl⟩, rfl⟩, nofun, nofun⟩
      · exact ⟨hself, nofun, nofun⟩
  case h_4 =>
    unfold Stand.confirmWork
    split
    · split
      · exact ⟨⟨⟨rfl, rfl, rfl, rfl⟩, rfl⟩, nofun, nofun⟩
      · split <;> exact ⟨hself, nofun, nofun⟩
    · exact ⟨hself, nofun, nofun⟩
  case h_5 => exact ⟨hself, nofun, nofun⟩

theorem Stand.schedulerStep_standing (st : Stand) (h : StandHand) (lineStale : Bool) (speed : Nat)
    (c : Word) (first : Nat) :
    st.SameStanding (st.schedulerStep h lineStale speed c first).1 ∧
      ((st.schedulerStep h lineStale speed c first).2 = .enterMatched → st.state = .accel) ∧
      ((st.schedulerStep h lineStale speed c first).2 = .leaveBand → st.state.watched = true) := by
  have htrack : st.SameStanding
      (if st.state.watched then st.trackTape (h.arm st.readyArm) first else st) := by
    split
    · exact st.trackTape_sameStanding _ first
    · exact ⟨.refl st, rfl⟩
  unfold Stand.schedulerStep
  dsimp only
  generalize (if st.state.watched then st.trackTape (h.arm st.readyArm) first else st) = tracked
    at htrack ⊢
  have htick : tracked.SameStanding tracked.tickAccel := ⟨⟨rfl, rfl, rfl, rfl⟩, rfl⟩
  have htarget : tracked.SameStanding (tracked.formTarget speed) := ⟨⟨rfl, rfl, rfl, rfl⟩, rfl⟩
  split
  · split
    · exact ⟨htrack.trans htick, nofun, nofun⟩
    · exact ⟨htrack, nofun, nofun⟩
  · obtain ⟨hrest, hmatched, hleave⟩ := (tracked.formTarget speed).schedulerRest_standing h lineStale c
    have hstate := (htrack.trans htarget).state
    rw [hstate] at hmatched hleave
    exact ⟨(htrack.trans htarget).trans hrest, hmatched, hleave⟩

/-- A stand keeps its state in the changes of reel-present, or leaves CHECKING or READY for RUNNING
(R73). -/
theorem Stand.reelChanges_standing (st : Stand) (h : StandHand) :
    st.SameSetting (st.reelChanges h) ∧
      ((st.reelChanges h).state = st.state ∨ st.state.AtRest ∧ (st.reelChanges h).state = .running) := by
  have hreturn := Stand.returnToHead_sameRole { st with mountPending := false }
  have hsetting : st.SameSetting (Stand.returnToHead { st with mountPending := false }) :=
    ⟨hreturn.params, hreturn.pinAsserted, hreturn.pinSettled, hreturn.requestInhibit⟩
  unfold Stand.reelChanges
  dsimp only
  split
  · unfold Stand.unmount
    dsimp only
    split
    case h_1 hstate => exact ⟨hsetting.trans ⟨rfl, rfl, rfl, rfl⟩, .inr ⟨hstate ▸ ⟨rfl, rfl⟩, rfl⟩⟩
    case h_2 hstate => exact ⟨hsetting.trans ⟨rfl, rfl, rfl, rfl⟩, .inr ⟨hstate ▸ ⟨rfl, rfl⟩, rfl⟩⟩
    case h_3 => exact ⟨hsetting, .inl hreturn.state⟩
    case h_4 => exact ⟨⟨rfl, rfl, rfl, rfl⟩, .inl rfl⟩
  · split <;> exact ⟨⟨rfl, rfl, rfl, rfl⟩, .inl rfl⟩

theorem Stand.brakingStep_sameRole (st : Stand) : st.SameRole st.brakingStep := by
  unfold Stand.brakingStep; split <;> exact ⟨⟨⟨rfl, rfl, rfl, rfl⟩, rfl⟩, rfl, rfl⟩

/-- R88: only a stand that is not inhibited arms. -/
theorem Stand.not_inhibited_of_arms {st : Stand} (h : st.arms = true) : st.inhibited = false := by
  simp only [Stand.arms, Bool.and_eq_true, Bool.not_eq_true'] at h
  exact h.1.1.1

theorem Stand.settleWork_standing {st : Stand} (h : st.state = .settle) :
    st.SameSetting st.settleWork ∧ st.settleWork.state.AtRest := by
  unfold Stand.settleWork
  split
  · have hrun : st.SameSetting { st with state := .running, forced := false } := ⟨rfl, rfl, rfl, rfl⟩
    exact ⟨hrun.trans (Stand.tryBind_standing _ false).1, Stand.tryBind_atRest false rfl⟩
  · exact ⟨.refl st, h ▸ ⟨rfl, rfl⟩⟩

/-! ### Signals, flags and the link -/

theorem Stand.restart_sameRole (st : Stand) : st.SameRole st.restart :=
  ⟨⟨⟨rfl, rfl, rfl, rfl⟩, rfl⟩, rfl, rfl⟩

theorem Stand.dropFire_sameRole (st : Stand) : st.SameRole st.dropFire :=
  ⟨⟨⟨rfl, rfl, rfl, rfl⟩, rfl⟩, rfl, rfl⟩

theorem Stand.tickAccel_sameRole (st : Stand) : st.SameRole st.tickAccel :=
  ⟨⟨⟨rfl, rfl, rfl, rfl⟩, rfl⟩, rfl, rfl⟩

theorem Stand.claimLost_sameRole (st : Stand) : st.SameRole { st with claimLost := true } :=
  ⟨⟨⟨rfl, rfl, rfl, rfl⟩, rfl⟩, rfl, rfl⟩

theorem Stand.linkLoss_sameRole (st : Stand) : st.SameRole { st with linkLoss := true } :=
  ⟨⟨⟨rfl, rfl, rfl, rfl⟩, rfl⟩, rfl, rfl⟩

theorem Stand.counts_sameRole (st : Stand) : st.SameRole { st with counts := st.counts.advance } :=
  ⟨⟨⟨rfl, rfl, rfl, rfl⟩, rfl⟩, rfl, rfl⟩

theorem Stand.map_sameRole (st : Stand) (m : SlotMap) : st.SameRole { st with map := m } :=
  ⟨⟨⟨rfl, rfl, rfl, rfl⟩, rfl⟩, rfl, rfl⟩

theorem Stand.queue_sameRole (st : Stand) (q : List ReelRecord) : st.SameRole { st with queue := q } :=
  ⟨⟨⟨rfl, rfl, rfl, rfl⟩, rfl⟩, rfl, rfl⟩

theorem Stand.noWindow_sameRole (st : Stand) : st.SameRole { st with window := none } :=
  ⟨⟨⟨rfl, rfl, rfl, rfl⟩, rfl⟩, rfl, rfl⟩

theorem Stand.setArm_sameRole (st : Stand) (x : Arm) (v : ArmState) : st.SameRole (st.setArm x v) := by
  cases x <;> exact ⟨⟨⟨rfl, rfl, rfl, rfl⟩, rfl⟩, rfl, rfl⟩

theorem Stand.spindleStale_sameRole (st : Stand) (x : Arm) : st.SameRole (st.spindleStale x) := by
  unfold Stand.spindleStale
  dsimp only
  split
  · have harm := st.setArm_sameRole x
      { st.arm x with spindle := (st.arm x).spindle.goStale (st.map.spindle x) }
    split
    · exact harm.trans ⟨⟨⟨rfl, rfl, rfl, rfl⟩, rfl⟩, rfl, rfl⟩
    · exact harm
  · exact .refl st

theorem Stand.gaugeStale_sameRole (st : Stand) (x : Arm) : st.SameRole (st.gaugeStale x) := by
  unfold Stand.gaugeStale
  dsimp only
  split
  · exact st.setArm_sameRole x _
  · exact .refl st

theorem Stand.statusStale_sameRole (st : Stand) : st.SameRole st.statusStale := by
  unfold Stand.statusStale; split <;> exact ⟨⟨⟨rfl, rfl, rfl, rfl⟩, rfl⟩, rfl, rfl⟩

end Sys2Proof.Machine
end

section
/-!
SUPPORT. The operations of the part keep groups and stands in agreement: faults, inhibit, the step of a cycle, the
press link, the events of a step, pins.
-/
namespace Sys2Proof.Machine

/-! ### Leaving a state for good -/

/-- The stand leaves its group and takes an idle state. -/
theorem State.AgreesBut.leaveFor {s : State} {k : StandId} {f : Stand → Stand} (h : s.AgreesBut k)
    (hidle : (f (s.stand k)).state.Idle) (hinhibit : (f (s.stand k)).InhibitAgrees) :
    GroupsAgree ((s.leaveGroup k).modStand k f) := by
  rw [State.modStand_eq, State.leaveGroup_stand]
  exact h.leaveGroup.setStand hidle hinhibit

theorem Stand.InhibitAgrees.of_atRest {st st' : Stand} (h : st.InhibitAgrees) (hsame : st.SameSetting st')
    (hrest : st'.state.AtRest) : st'.InhibitAgrees :=
  h.of_sameSetting hsame fun hw => by simp [hrest.2] at hw

/-! ### Faults -/

theorem State.AgreesBut.takeFault {s : State} {k : StandId} (h : s.AgreesBut k)
    (hinhibit : (s.stand k).InhibitAgrees) (kind : FaultKind) (sig : Option StaleSignal) :
    GroupsAgree (s.takeFault k kind sig) := by
  by_cases hoffline : (s.stand k).state = .offline
  · rw [s.takeFault_of_offline k kind sig hoffline]
    exact h.groupsAgree_of_not_matched hinhibit (by rw [hoffline]; nofun)
  by_cases hfault : (s.stand k).state = .fault
  · rw [s.takeFault_of_fault k kind sig hfault]
    exact (State.modStand_sameRoles Stand.markFurther_sameRole s k).groupsAgree
      (h.groupsAgree_of_not_matched hinhibit (by rw [hfault]; nofun))
  rw [s.takeFault_of_service k kind sig hoffline hfault]
  have hformed : (if (s.stand k).state.afterFire then s.formEntry k kind.outcome else s).AgreesBut k ∧
      (if (s.stand k).state.afterFire then s.formEntry k kind.outcome else s).stand k = s.stand k := by
    split <;> exact ⟨h, rfl⟩
  obtain ⟨hbut, hstand⟩ := hformed
  refine hbut.leaveFor ⟨rfl, nofun⟩ ?_
  rw [hstand]
  exact hinhibit.of_atRest (Stand.enterFault_standing _ kind s.cycle sig).1 ⟨rfl, rfl⟩

theorem GroupsAgree.takeFault {s : State} (h : GroupsAgree s) (k : StandId) (kind : FaultKind)
    (sig : Option StaleSignal) : GroupsAgree (s.takeFault k kind sig) :=
  (h.agreesBut k).takeFault (h.inhibitAgrees k) kind sig

/-- A fault changes no urgency: parameters and running context stay (R104). -/
theorem State.takeFault_urgent (s : State) (k : StandId) (kind : FaultKind) (sig : Option StaleSignal)
    (j : StandId) : ((s.takeFault k kind sig).stand j).urgent = (s.stand j).urgent := by
  by_cases hoffline : (s.stand k).state = .offline
  · rw [s.takeFault_of_offline k kind sig hoffline]
  by_cases hfault : (s.stand k).state = .fault
  · rw [s.takeFault_of_fault k kind sig hfault]
    exact ((State.modStand_sameRoles Stand.markFurther_sameRole s k).1 j).urgent
  have hformed : ∀ i, (if (s.stand k).state.afterFire then s.formEntry k kind.outcome else s).stand i =
      s.stand i := fun i => by split <;> rfl
  have hfaulted : ∀ st : Stand, (st.enterFault kind s.cycle sig).urgent = st.urgent := fun st =>
    have ⟨hsame, hrunning⟩ := st.enterFault_standing kind s.cycle sig
    Stand.urgent_congr hsame.params hrunning
  rw [s.takeFault_of_service k kind sig hoffline hfault, State.modStand_eq,
    State.setStand_urgent (hfaulted _), State.leaveGroup_stand, hformed]

theorem GroupsAgree.linkLossAt {s : State} (h : GroupsAgree s) (k : StandId) :
    GroupsAgree (s.linkLossAt k) := by
  unfold State.linkLossAt
  split
  · exact (State.modStand_sameRoles Stand.linkLoss_sameRole _ k).groupsAgree (h.takeFault k .linkLoss none)
  · exact h

theorem State.linkLossAt_urgent (s : State) (k j : StandId) :
    ((s.linkLossAt k).stand j).urgent = (s.stand j).urgent := by
  unfold State.linkLossAt
  split
  · have hflag := State.modStand_sameRoles Stand.linkLoss_sameRole (s.takeFault k .linkLoss none) k
    exact (hflag.1 j).urgent.trans (s.takeFault_urgent k .linkLoss none j)
  · rfl

theorem GroupsAgree.foldl_linkLossAt {s : State} (h : GroupsAgree s) (l : List StandId) :
    GroupsAgree (l.foldl State.linkLossAt s) ∧
      ∀ j, ((l.foldl State.linkLossAt s).stand j).urgent = (s.stand j).urgent := by
  induction l generalizing s with
  | nil => exact ⟨h, fun _ => rfl⟩
  | cons k l ih =>
    obtain ⟨hagree, hurgent⟩ := ih (h.linkLossAt k)
    exact ⟨hagree, fun j => (hurgent j).trans (s.linkLossAt_urgent k j)⟩

/-! ### Inhibit -/

theorem State.becomeInhibited_of_not_watched {s : State} {k : StandId}
    (h : (s.stand k).state.watched = false) : s.becomeInhibited k = s := by
  simp [State.becomeInhibited, h]

theorem State.becomeInhibited_of_watched {s : State} {k : StandId}
    (h : (s.stand k).state.watched = true) :
    s.becomeInhibited k = (s.leaveGroup k).modStand k Stand.returnReady := by
  simp [State.becomeInhibited, h]

theorem State.AgreesBut.groupsAgree_of_not_watched {s : State} {k : StandId} (h : s.AgreesBut k)
    (hpin : (s.stand k).pinSettled = false → (s.stand k).pinAsserted = true)
    (hnot : (s.stand k).state.watched = false) : GroupsAgree s :=
  h.groupsAgree_of_not_matched ⟨hpin, fun hw => by simp [hnot] at hw⟩ fun hmatched => by
    simp [hmatched, StandState.watched] at hnot

/-- R98: the stand that has become inhibited unwinds, where its state is a watched one. -/
theorem State.AgreesBut.becomeInhibited {s : State} {k : StandId} (h : s.AgreesBut k)
    (hpin : (s.stand k).pinSettled = false → (s.stand k).pinAsserted = true) :
    GroupsAgree (s.becomeInhibited k) := by
  cases hwatched : (s.stand k).state.watched with
  | false =>
    rw [State.becomeInhibited_of_not_watched hwatched]
    exact h.groupsAgree_of_not_watched hpin hwatched
  | true =>
    obtain ⟨hsame, hrest, -⟩ := (s.stand k).returnReady_standing
    rw [State.becomeInhibited_of_watched hwatched]
    refine h.leaveFor hrest.idle ⟨?_, fun hw => by simp [hrest.2] at hw⟩
    rwa [hsame.pinSettled, hsame.pinAsserted]

theorem State.becomeInhibited_urgent (s : State) (k j : StandId) :
    ((s.becomeInhibited k).stand j).urgent = (s.stand j).urgent := by
  cases hwatched : (s.stand k).state.watched with
  | false => rw [State.becomeInhibited_of_not_watched hwatched]
  | true =>
    obtain ⟨hsame, -, hrunning⟩ := ((s.leaveGroup k).stand k).returnReady_standing
    rw [State.becomeInhibited_of_watched hwatched, State.modStand_eq,
      State.setStand_urgent (Stand.urgent_congr hsame.params hrunning), State.leaveGroup_stand]

/-- R98, R100: an inhibit comes upon stand k, by its pin or by a request; a stand inhibited already is not
changed by it. -/
theorem State.Prepares.inhibit {s : State} {k : StandId} {st : Stand} (h : GroupsAgree s)
    (hstate : st.state = (s.stand k).state) (hparams : st.params = (s.stand k).params)
    (hrunning : st.running = (s.stand k).running)
    (hpin : st.pinSettled = false → st.pinAsserted = true) :
    s.Prepares (if (s.stand k).inhibited then s.setStand k st else (s.setStand k st).becomeInhibited k) := by
  have hurgent := State.setStand_urgent (Stand.urgent_congr hparams hrunning)
  have hbut : (s.setStand k st).AgreesBut k :=
    (h.agreesBut k).setStand (congrArg Params.group hparams) (congrArg _ hstate) hstate.trans
  have hpin' : ((s.setStand k st).stand k).pinSettled = false →
      ((s.setStand k st).stand k).pinAsserted = true := by
    rwa [State.stand_setStand_same]
  split
  case isTrue hinhibited =>
    refine ⟨hbut.groupsAgree_of_not_watched hpin' ?_, fun j _ => hurgent j⟩
    rw [State.stand_setStand_same, hstate, Bool.eq_false_iff]
    intro hwatched
    simp [(h.inhibitAgrees k).2 hwatched] at hinhibited
  case isFalse =>
    exact ⟨hbut.becomeInhibited hpin', fun j _ => (State.becomeInhibited_urgent _ k j).trans (hurgent j)⟩

/-! ### The controller -/

theorem State.AgreesBut.enterMatched {s : State} {k : StandId} (h : s.AgreesBut k)
    (hinhibit : (s.stand k).InhibitAgrees) (haccel : (s.stand k).state = .accel) :
    GroupsAgree (s.enterMatched k) := by
  unfold State.enterMatched
  rw [State.modStand_eq]
  refine State.AgreesBut.refreshRequest
    (h.setStand rfl (by rw [haccel]; rfl) fun hmatched => by simp [haccel] at hmatched) ?_
  rw [State.stand_setStand_same]
  exact hinhibit.of_sameSetting ⟨rfl, rfl, rfl, rfl⟩ fun _ => by rw [haccel]; rfl

theorem State.AgreesBut.leaveBand {s : State} {k : StandId} (h : s.AgreesBut k)
    (hinhibit : (s.stand k).InhibitAgrees) (hwatched : (s.stand k).state.watched = true) :
    GroupsAgree (s.leaveBand k) :=
  h.leaveFor ⟨rfl, nofun⟩ (hinhibit.of_sameSetting ⟨rfl, rfl, rfl, rfl⟩ fun _ => hwatched)

theorem State.AgreesBut.enterSettle {s : State} {k : StandId} (h : s.AgreesBut k)
    (hinhibit : (s.stand k).InhibitAgrees) : GroupsAgree (s.enterSettle k) := by
  have hformed : (s.formEntry k .spliced).AgreesBut k := h
  have htransfer := (s.stand k).transfer_sameSetting s.grades
  exact hformed.leaveFor ⟨rfl, nofun⟩ (hinhibit.of_atRest
    (htransfer.trans ⟨rfl, rfl, rfl, rfl⟩) ⟨rfl, rfl⟩)

theorem State.AgreesBut.applyVerdict {s : State} {k : StandId} (h : s.AgreesBut k)
    (hinhibit : (s.stand k).InhibitAgrees) {v : Verdict}
    (hmatched : v = .enterMatched → (s.stand k).state = .accel)
    (hleave : v = .leaveBand → (s.stand k).state.watched = true) : GroupsAgree (s.applyVerdict k v) := by
  cases v with
  | stay => exact h.refreshRequest hinhibit
  | fault kind further =>
    unfold State.applyVerdict
    dsimp only
    split
    · exact (h.takeFault hinhibit kind none).takeFault k .accelTimeout none
    · exact h.takeFault hinhibit kind none
  | enterMatched => exact h.enterMatched hinhibit (hmatched rfl)
  | leaveBand => exact h.leaveBand hinhibit (hleave rfl)
  | confirmed => exact h.enterSettle hinhibit

/-- An idle stand at rest goes to another state at rest. -/
theorem State.AgreesBut.setStand_rest {s : State} {k : StandId} {st : Stand} (h : s.AgreesBut k)
    (hinhibit : (s.stand k).InhibitAgrees) (hold : (s.stand k).state.Idle)
    (hsame : (s.stand k).SameSetting st) (hrest : st.state.AtRest) : GroupsAgree (s.setStand k st) :=
  (h.agreesWithout hold).setStand hrest.idle (hinhibit.of_atRest hsame hrest)

theorem State.AgreesBut.gaugeDone {s : State} {k : StandId} (h : s.AgreesBut k)
    (hinhibit : (s.stand k).InhibitAgrees) (hchecking : (s.stand k).state = .checking) (dg : Nat) :
    GroupsAgree (s.gaugeDone k dg) := by
  unfold State.gaugeDone
  split
  · exact h.setStand_rest hinhibit (by rw [hchecking]; exact ⟨rfl, nofun⟩) ⟨rfl, rfl, rfl, rfl⟩ ⟨rfl, rfl⟩
  · exact h.takeFault hinhibit .reelMismatch none

theorem State.AgreesBut.transitions {s : State} {k : StandId} (h : s.AgreesBut k)
    (hinhibit : (s.stand k).InhibitAgrees) (hand : StandHand) (lineStale : Bool) (dg : Option Nat)
    (unmounted : Bool) : GroupsAgree (s.transitions k hand lineStale dg unmounted) := by
  have hself : (s.stand k).state ≠ .matched → GroupsAgree s := h.groupsAgree_of_not_matched hinhibit
  unfold State.transitions
  dsimp only
  split
  case h_1 hstate => exact hself (by rw [hstate]; nofun)
  case h_2 hstate =>
    split
    · exact hself (by rw [hstate]; nofun)
    · exact h.setStand_rest hinhibit (by rw [hstate]; exact ⟨rfl, nofun⟩)
        (Stand.tryBind_standing _ false).1 (Stand.tryBind_atRest false hstate)
  case h_3 hstate =>
    split
    · exact h.gaugeDone hinhibit hstate _
    · exact hself (by rw [hstate]; nofun)
  case h_4 hstate =>
    split
    case isTrue harms =>
      have hnot : (s.stand k).inhibited = false := Stand.not_inhibited_of_arms harms
      exact (h.agreesWithout (by rw [hstate]; exact ⟨rfl, nofun⟩)).setStand ⟨rfl, nofun⟩
        ⟨hinhibit.1, fun _ => hnot⟩
    case isFalse => exact hself (by rw [hstate]; nofun)
  case h_5 hstate =>
    obtain ⟨hsame, hrest⟩ := Stand.settleWork_standing hstate
    exact h.setStand_rest hinhibit (by rw [hstate]; exact ⟨rfl, nofun⟩) hsame hrest
  case h_6 hstate => exact hself (by rw [hstate]; nofun)
  case h_7 =>
    obtain ⟨hsame, hmatched, hleave⟩ := (s.stand k).schedulerStep_standing hand lineStale s.lineSpeed s.cycle
      (Config.firstTravel s.freeIndex k)
    refine (h.setStand_sameStanding hsame).applyVerdict ?_ ?_ ?_ <;> rw [State.stand_setStand_same]
    · exact hinhibit.of_sameStanding hsame
    · rwa [hsame.state]
    · rwa [hsame.state]

theorem State.AgreesBut.controllerStep {s : State} {k : StandId} (h : s.AgreesBut k)
    (hinhibit : (s.stand k).InhibitAgrees) (hand : StandHand) (lineStale : Bool) (dg : Option Nat) :
    GroupsAgree (s.controllerStep k hand lineStale dg) := by
  obtain ⟨hchanges, hstate⟩ := (s.stand k).reelChanges_standing hand
  have hbraking := ((s.stand k).reelChanges hand).brakingStep_sameRole
  have hsame := hchanges.trans hbraking.toSameSetting
  rw [← hbraking.state] at hstate
  have hbut : (s.setStand k ((s.stand k).reelChanges hand).brakingStep).AgreesBut k := by
    refine h.setStand (congrArg Params.group hsame.params) ?_ ?_
    · rcases hstate with heq | ⟨hrest, hrunning⟩
      · rw [heq]
      · rw [hrunning, hrest.1]; rfl
    · rcases hstate with heq | ⟨hrest, -⟩
      · exact heq.trans
      · exact fun hmatched => absurd hmatched hrest.idle.2
  refine hbut.transitions ?_ hand lineStale dg _
  rw [State.stand_setStand_same]
  refine hinhibit.of_sameSetting hsame fun hwatched => ?_
  rcases hstate with heq | ⟨-, hrunning⟩
  · exact heq ▸ hwatched
  · simp [hrunning, StandState.watched] at hwatched

/-! ### The step of a cycle -/

theorem GroupsAgree.watchStand {s : State} (h : GroupsAgree s) (k : StandId) (lineStale : Bool) :
    GroupsAgree (s.watchStand k lineStale) := by
  have hwatch := (State.setStand_sameRoles (s := s) ((s.stand k).watchStep_sameRole lineStale)).groupsAgree h
  unfold State.watchStand
  dsimp only
  split
  · exact hwatch.takeFault k _ _
  · exact hwatch

/-- R39, R85: the measurement of stand k may change what it requests; its controller step follows. -/
theorem GroupsAgree.measureAndControl {s : State} (h : GroupsAgree s) (k : StandId) (hand : StandHand)
    (lineStale passedOver : Bool) (inc speed : Nat) (grades : Vector Grade 16) (dg : Option Nat) :
    GroupsAgree ((s.setStand k
      ((s.stand k).measureStep hand (!lineStale) passedOver inc speed grades).1).controllerStep k hand
        lineStale dg) := by
  have hmeasure := (s.stand k).measureStep_sameStanding hand (!lineStale) passedOver inc speed grades
  refine ((h.agreesBut k).setStand_sameStanding hmeasure).controllerStep ?_ hand lineStale dg
  rw [State.stand_setStand_same]
  exact (h.inhibitAgrees k).of_sameStanding hmeasure

theorem GroupsAgree.standStep {s : State} (h : GroupsAgree s) (samples : Option (Vector Slot 96))
    (passedOver : Bool) (lh : LineHand) (k : StandId) :
    GroupsAgree (State.standStep samples passedOver lh s k) := by
  unfold State.standStep
  split
  · have hcapture := ((s.stand k).captureStep_sameRole samples passedOver).trans
      (Stand.staleWindow_sameRole _ ((s.stand k).captureStep samples passedOver).2 lh)
    have hwatched := ((State.setStand_sameRoles hcapture).groupsAgree h).watchStand k lh.stale
    exact hwatched.measureAndControl k _ lh.stale passedOver lh.increment s.lineSpeed s.grades _
  · exact h

/-- R137: a spacing counted down is held by no stand, before and after. -/
theorem Group.countDown_keeps (v : Group) (inc : Nat) :
    (v.countDown inc).requesters = v.requesters ∧
      ∀ j, (v.countDown inc).grant = .held j ↔ v.grant = .held j := by
  unfold Group.countDown
  split
  case h_1 h => exact ⟨rfl, fun j => by simp [h]⟩
  case h_2 h => split <;> exact ⟨rfl, fun j => by simp [h]⟩
  case h_3 => exact ⟨rfl, fun _ => .rfl⟩

theorem GroupsAgree.countDownGroup {s : State} (h : GroupsAgree s) (inc : Nat) (g : GroupId) :
    GroupsAgree (s.countDownGroup inc g) := by
  obtain ⟨hrequesters, hheld⟩ := (s.group g).countDown_keeps inc
  exact h.setGroup hheld fun j => by unfold Group.has; rw [hrequesters]

theorem GroupsAgree.countDown {s : State} (h : GroupsAgree s) (inc : Nat) :
    GroupsAgree (s.countDown inc) :=
  .foldl (fun _ g hs => hs.countDownGroup inc g) allGroups h

theorem GroupsAgree.lineStep {s : State} (h : GroupsAgree s) (samples : Option (Vector Slot 96))
    (passedOver : Bool) : GroupsAgree (s.lineStep samples passedOver).1 := by
  unfold State.lineStep; split <;> exact h

theorem State.cycleStep_keepsAgreement (s : State) (samples : Option (Vector Slot 96)) (passedOver : Bool) :
    s.KeepsAgreement (s.cycleStep samples passedOver) := by
  have hline : GroupsAgree s → GroupsAgree (s.lineStep samples passedOver).1 :=
    fun h => h.lineStep samples passedOver
  unfold State.cycleStep
  generalize s.lineStep samples passedOver = captured at hline ⊢
  obtain ⟨s1, lh⟩ := captured
  exact .of_decideAll (fun h => .foldl (fun _ k ht => ht.standStep samples passedOver lh k) allStands
    ((hline h).countDown lh.increment)) _

/-! ### The press link -/

theorem State.pendingStep_keepsAgreement (s : State) : s.KeepsAgreement s.pendingStep := by
  unfold State.pendingStep
  split
  · exact State.cycleStep_keepsAgreement { s with stepPending := false } none false
  · exact .refl s

theorem State.passOver_keepsAgreement (n : Nat) (s : State) : s.KeepsAgreement (State.passOver n s) := by
  induction n generalizing s with
  | zero => exact .refl s
  | succ n ih =>
    have hstep := State.cycleStep_keepsAgreement { s with engineCycle := some (s.cycle + 1) } none true
    exact State.KeepsAgreement.trans hstep (ih _)

theorem State.dropFires_keepsAgreement (s : State) : s.KeepsAgreement s.dropFires :=
  (State.foldl_modStand_sameRoles Stand.dropFire_sameRole allStands s).keepsAgreement

theorem State.restart_keepsAgreement (s : State) : s.KeepsAgreement s.restart :=
  (State.foldl_modStand_sameRoles Stand.restart_sameRole allStands
     { s with line := { s.line with hist := [] } }).keepsAgreement

theorem State.advanceCycle_keepsAgreement (s : State) (c : Word) (d : Nat) :
    s.KeepsAgreement (s.advanceCycle c d) := by
  have hdrop : s.KeepsAgreement (if d = 1 then s else s.dropFires) := by
    split
    · exact .refl s
    · exact s.dropFires_keepsAgreement
  have hrestart : ∀ t : State, t.KeepsAgreement (if s.breaks d then t.restart else t) := by
    intro t
    split
    · exact t.restart_keepsAgreement
    · exact .refl t
  exact ((hdrop.trans (State.pendingStep_keepsAgreement _)).trans (hrestart _)).trans
    (State.passOver_keepsAgreement (d - 1) _)

theorem State.beginCycle_keepsAgreement (s : State) (num : BitVec 16) :
    s.KeepsAgreement (s.beginCycle num) := by
  have hdiscard : s.KeepsAgreement { s.discardSamples with heldReply := none } := .refl s
  unfold State.beginCycle
  generalize { s.discardSamples with heldReply := none } = s0 at hdiscard ⊢
  dsimp only
  split
  case h_1 => exact hdiscard
  case h_2 c _ => exact hdiscard.trans (s0.advanceCycle_keepsAgreement c _)

theorem State.claimConflict_keepsAgreement (s : State) (k : StandId) :
    s.KeepsAgreement (s.claimConflict k) := by
  have hclaim := State.modStand_sameRoles Stand.claimLost_sameRole s k
  refine .trans (.of_prepares fun h => ⟨(hclaim.groupsAgree h).takeFault k .claimConflict none, ?_⟩)
    (State.joinLog_keepsAgreement _)
  exact fun j _ => (State.takeFault_urgent _ k .claimConflict none j).trans (hclaim.1 j).urgent

theorem State.checkClaims_keepsAgreement (s : State) (slots : Vector Slot 48) :
    s.KeepsAgreement (s.checkClaims slots) :=
  State.KeepsAgreement.foldl State.claimConflict_keepsAgreement _ s

/-- R93, R94: the write of a fire or of a knife takes the stand to the next state that holds the group. -/
theorem State.setStand_keepsAgreement_of_holdsGrant {s : State} {k : StandId} {st : Stand}
    (hold : (s.stand k).state.holdsGrant = true) (hnew : st.state.holdsGrant = true)
    (hwatched : st.state.watched = false) (hsame : (s.stand k).SameSetting st) :
    s.KeepsAgreement (s.setStand k st) := by
  have hnot : st.state ≠ .matched := fun hmatched => by simp [hmatched, StandState.watched] at hwatched
  have hbefore : (s.stand k).state ≠ .matched := fun hmatched => by
    simp [hmatched, StandState.holdsGrant] at hold
  refine .of_same_groups (fun h => .of_not_matched ?_ hnot) fun _ => rfl
  have hbut := (h.agreesBut k).setStand (st := st) (congrArg Params.group hsame.params)
    (hnew.trans hold.symm) fun hmatched => absurd hmatched hbefore
  refine hbut.groupsAgree_of_not_matched ?_ ?_ <;> rw [State.stand_setStand_same]
  · exact (h.inhibitAgrees k).of_sameSetting hsame fun hw => by simp [hwatched] at hw
  · exact hnot

theorem State.fireStep_keepsAgreement (s : State) (k : StandId) (m : Word) :
    s.KeepsAgreement (s.fireStep k m).1 := by
  unfold State.fireStep
  dsimp only
  split
  · split
    case isTrue hfire =>
      exact State.setStand_keepsAgreement_of_holdsGrant (by rw [hfire.1]; rfl) rfl rfl ⟨rfl, rfl, rfl, rfl⟩
    case isFalse => exact (State.setStand_sameRoles (s.stand k).dropFire_sameRole).keepsAgreement
  · exact .refl s

theorem State.knifeStep_keepsAgreement (s : State) (k : StandId) (m : Word) :
    s.KeepsAgreement (s.knifeStep k m).1 := by
  unfold State.knifeStep
  dsimp only
  split
  · split
    case isTrue hknife =>
      exact State.setStand_keepsAgreement_of_holdsGrant (by rw [hknife.1]; rfl) rfl rfl ⟨rfl, rfl, rfl, rfl⟩
    case isFalse => exact .refl s
  · exact .refl s

theorem State.writeStand_keepsAgreement (m : Word) (acc : State × Vector Slot 48) (k : StandId) :
    acc.1.KeepsAgreement (State.writeStand m acc k).1 := by
  unfold State.writeStand
  split
  · have hcounts : ∀ t : State, t.KeepsAgreement
        (t.modStand k fun st => { st with counts := st.counts.advance }) := fun t =>
      (State.modStand_sameRoles Stand.counts_sameRole t k).keepsAgreement
    exact ((State.fireStep_keepsAgreement acc.1 k m).trans (State.knifeStep_keepsAgreement _ k m)).trans
      (hcounts _)
  · exact .refl acc.1

theorem State.foldl_writeStand_keepsAgreement (m : Word) (l : List StandId)
    (acc : State × Vector Slot 48) : acc.1.KeepsAgreement (l.foldl (State.writeStand m) acc).1 := by
  induction l generalizing acc with
  | nil => exact .refl acc.1
  | cons k l ih => exact (State.writeStand_keepsAgreement m acc k).trans (ih _)

theorem State.passOutbound_keepsAgreement (s : State) (f : OutFrame) :
    s.KeepsAgreement (s.passOutbound f) := by
  have hwritten := (s.checkClaims_keepsAgreement f.slots).trans
    (State.foldl_writeStand_keepsAgreement s.cycle allStands (s.checkClaims f.slots, f.slots))
  unfold State.passOutbound
  split
  · generalize allStands.foldl (State.writeStand s.cycle) (s.checkClaims f.slots, f.slots) = written
      at hwritten ⊢
    exact hwritten
  · exact .refl s

theorem State.startMarker_keepsAgreement (s : State) (f : OutFrame) :
    s.KeepsAgreement (s.startMarker f) := by
  unfold State.startMarker
  split
  · exact .refl s
  · exact (s.beginCycle_keepsAgreement f.cycle).trans (State.passOutbound_keepsAgreement _ f)

theorem State.endReturn_keepsAgreement (s : State) : s.KeepsAgreement s.endReturn := by
  unfold State.endReturn
  dsimp only
  split
  · split
    · exact State.cycleStep_keepsAgreement
        { s with inFlight := none, retFrame := s.replyWritten, stepPending := false } _ false
    · exact .refl s
  · exact .refl s

theorem State.matchReturn_keepsAgreement (s : State) (f : RetFrame) :
    s.KeepsAgreement (s.matchReturn f) := by
  unfold State.matchReturn; split <;> exact .refl s

theorem State.beginReturn_keepsAgreement (s : State) (f : RetFrame) :
    s.KeepsAgreement (s.beginReturn f) := by
  refine s.endReturn_keepsAgreement.trans ?_
  unfold State.beginReturn
  dsimp only
  split
  · exact .refl _
  · split
    · split
      · exact State.matchReturn_keepsAgreement { s.endReturn with outPassing := false } f
      · exact .refl _
    · exact .refl _

theorem State.returnEvent_keepsAgreement (s : State) (e : RetEvent) :
    s.KeepsAgreement (s.returnEvent e) := by
  have hpass : ∀ (f : RetFrame) (t : State), s.KeepsAgreement t →
      s.KeepsAgreement (if s.inReset then s.passReturn f else t) := by
    intro f t ht
    split
    · exact .refl s
    · exact ht
  cases e with
  | whole f => exact hpass f _ ((s.beginReturn_keepsAgreement f).trans (State.endReturn_keepsAgreement _))
  | head f => exact hpass f _ (s.beginReturn_keepsAgreement f)
  | tail =>
    unfold State.returnEvent
    dsimp only
    split
    · exact .refl s
    · exact s.endReturn_keepsAgreement
  | early f => exact hpass f _ s.endReturn_keepsAgreement

theorem State.watchExpiry_keepsAgreement (s : State) : s.KeepsAgreement s.watchExpiry := by
  unfold State.watchExpiry
  split
  · exact .refl s
  · have hloss : s.KeepsAgreement (State.decideChanged s (allStands.foldl State.linkLossAt
        { s with watchArmed := false, linkLost := true, outPassing := false })) := by
      refine .of_prepares fun h => ?_
      have hlost : GroupsAgree { s with watchArmed := false, linkLost := true, outPassing := false } := h
      obtain ⟨hagree, hurgent⟩ := hlost.foldl_linkLossAt allStands
      exact ⟨hagree, fun k _ => hurgent k⟩
    exact hloss.trans (State.joinLog_keepsAgreement _)

/-! ### Events within a step -/

theorem State.lineStale_keepsAgreement (s : State) : s.KeepsAgreement s.lineStale := by
  unfold State.lineStale
  split
  case h_1 e _ =>
    split
    · exact (State.foldl_modStand_sameRoles Stand.noWindow_sameRole allStands
        { s with line := { s.line with cap := s.line.cap.age e.divisor.limit, hist := [] } }).keepsAgreement
    · exact .refl s
  case h_2 => exact .refl s

theorem State.signalStaleLimit_keepsAgreement (s : State) (g : SignalName) :
    s.KeepsAgreement (s.signalStaleLimit g) := by
  unfold State.signalStaleLimit
  split
  · exact .refl s
  · cases g with
    | line => exact s.lineStale_keepsAgreement
    | spindle k x =>
      exact (State.modStand_sameRoles (fun st => st.spindleStale_sameRole x) s k).keepsAgreement
    | gauge k x => exact (State.modStand_sameRoles (fun st => st.gaugeStale_sameRole x) s k).keepsAgreement
    | status k => exact (State.modStand_sameRoles Stand.statusStale_sameRole s k).keepsAgreement

theorem State.signalStale_keepsAgreement (s : State) (k : StandId) :
    s.KeepsAgreement (s.signalStale k) := by
  unfold State.signalStale
  split
  · exact .of_decideAll (fun h => h.watchStand k _) _
  · exact .refl s

theorem State.windowComplete_keepsAgreement (s : State) (k : StandId) (inc : BitVec 23) (travel : Angle) :
    s.KeepsAgreement (s.windowComplete k inc travel) := by
  unfold State.windowComplete
  split
  case h_1 w _ =>
    split
    · refine .of_decideAll (fun h => ?_) _
      have hwindow := ((s.stand k).advanceAnchor_sameStanding inc.toNat).trans
        (Stand.advanceWindow_sameStanding _ w inc.toNat travel s.grades)
      have hlength := hwindow.trans (Stand.measureLength_sameStanding _ s.lineSpeed)
      refine ((h.agreesBut k).setStand_sameStanding hlength).refreshRequest ?_
      rw [State.stand_setStand_same]
      exact (h.inhibitAgrees k).of_sameStanding hlength
    · exact .refl s
  case h_2 => exact .refl s

theorem State.completeGauge_keepsAgreement (s : State) (k : StandId) (w : GaugeWindow) (d : Nat) :
    s.KeepsAgreement (s.completeGauge k w d) := by
  have hrole := (s.stand k).countReading_sameRole w d
  refine .of_decideAll (fun h => ?_) _
  have hcount := (State.setStand_sameRoles hrole).groupsAgree h
  split
  case isTrue hchecking =>
    refine (hcount.agreesBut k).gaugeDone (hcount.inhibitAgrees k) ?_ _
    rw [State.stand_setStand_same, hrole.state, hchecking]
  case isFalse => exact hcount

theorem State.gaugeComplete_keepsAgreement (s : State) (k : StandId) (reading : BitVec 14) :
    s.KeepsAgreement (s.gaugeComplete k reading) := by
  unfold State.gaugeComplete
  split
  · split
    · exact s.completeGauge_keepsAgreement k _ _
    · exact .refl s
  · exact .refl s

theorem State.tapeLost_keepsAgreement (s : State) (k : StandId) (travel : Angle) :
    s.KeepsAgreement (s.tapeLost k travel) := by
  unfold State.tapeLost
  dsimp only
  split
  · unfold State.loseTape
    dsimp only
    refine .of_decideAll (fun h => ?_) _
    have hticked : (s.stand k).SameStanding
        (if ((s.stand k).addTapeTravel travel.toNat).state = .accel then
          ((s.stand k).addTapeTravel travel.toNat).tickAccel
        else (s.stand k).addTapeTravel travel.toNat) := by
      split <;> exact ⟨⟨rfl, rfl, rfl, rfl⟩, rfl⟩
    refine ((h.agreesBut k).setStand_sameStanding hticked).applyVerdict ?_ nofun nofun
    rw [State.stand_setStand_same]
    exact (h.inhibitAgrees k).of_sameStanding hticked
  · exact .refl s

theorem State.accelTimeout_keepsAgreement (s : State) (k : StandId) :
    s.KeepsAgreement (s.accelTimeout k) := by
  have htick : s.SameRoles (s.setStand k (s.stand k).tickAccel) :=
    State.setStand_sameRoles (s.stand k).tickAccel_sameRole
  unfold State.accelTimeout
  dsimp only
  split
  · exact .of_decideAll (fun h => (htick.groupsAgree h).takeFault k .accelTimeout none) _
  · exact .refl s

theorem State.confirmTimeout_keepsAgreement (s : State) (k : StandId) :
    s.KeepsAgreement (s.confirmTimeout k) := by
  unfold State.confirmTimeout
  split
  · exact .of_decideAll (fun h => h.takeFault k .confirmTimeout none) _
  · exact .refl s

theorem State.spacingEnd_keepsAgreement (s : State) (g : GroupId) (inc : BitVec 23) :
    s.KeepsAgreement (s.spacingEnd g inc) := by
  unfold State.spacingEnd
  split
  · exact .of_decideAll (fun h => h.countDownGroup inc.toNat g) _
  · exact .refl s

/-! ### Pins -/

/-- R187: with the reset values no stand holds or requests a group. -/
theorem agreement_of_afterReset {t : State} {addr : BitVec 5}
    (hstands : t.stands = (State.afterReset addr).stands)
    (hgroups : t.groups = (State.afterReset addr).groups) : GroupsAgree t ∧ DecisionsMade t := by
  have hstand : ∀ k, t.stand k = .afterReset := fun k => by
    simp [State.stand, hstands, State.afterReset]
  have hgroup : ∀ g, t.group g = .afterReset := fun g => by
    simp [State.group, hgroups, State.afterReset]
  have hhas : ∀ k, Group.afterReset.has k = false := by decide
  refine ⟨(groupsAgree_iff t).mpr fun k => ⟨?_, fun g => ?_, fun g => ?_⟩, fun g => ?_⟩
  · rw [hstand]; exact ⟨fun _ => rfl, nofun⟩
  · rw [hgroup, hstand]; exact iff_of_false nofun fun h => nomatch h.2
  · rw [hgroup, hstand, hhas]; exact iff_of_false nofun fun h => nomatch h.2
  · rw [State.chosen_eq_none_iff]
    intro k
    rw [State.mayGrant_of_free (by rw [hgroup]; rfl), hgroup, hhas]

theorem State.assertReset_keepsAgreement (s : State) (outPassed retPassed : Passed) :
    s.KeepsAgreement (s.assertReset outPassed retPassed) := by
  unfold State.assertReset
  split
  · exact .refl s
  · intro _
    obtain ⟨hagree, hmade⟩ := agreement_of_afterReset (t := { State.afterReset 0 with
      inReset := true, outFrame := s.outCut outPassed, outArrived := s.outArrived
      retFrame := s.retCut retPassed, retArrived := s.retArrived, freeIndex := s.freeIndex + 1
      pending := s.pending }) (addr := 0) rfl rfl
    exact ⟨hagree, fun _ => hmade⟩

theorem State.releaseReset_keepsAgreement (s : State) (addr : BitVec 5) :
    s.KeepsAgreement (s.releaseReset addr) := by
  unfold State.releaseReset
  split
  · intro _
    obtain ⟨hagree, hmade⟩ := agreement_of_afterReset (t := State.afterReset addr) (addr := addr) rfl rfl
    exact ⟨hagree, fun _ => hmade⟩
  · exact .refl s

/-- R189: a filter settles only while its level is held asserted, and so in no watched state. -/
theorem State.settlePin_keepsAgreement (s : State) (k : StandId) (steady high : Bool) :
    s.KeepsAgreement (s.modStand k fun st => st.settlePin steady high) := by
  rw [State.modStand_eq]
  unfold Stand.settlePin
  split
  case isTrue hsettles =>
    simp only [Bool.and_eq_true, Bool.not_eq_true'] at hsettles
    refine .of_same_groups (fun h => ?_) fun _ => rfl
    have hpin := (h.inhibitAgrees k).1 hsettles.2
    have hwatched : (s.stand k).state.watched = false := Bool.eq_false_iff.mpr fun hw => by
      simpa [Stand.inhibited, hpin] using (h.inhibitAgrees k).2 hw
    refine ⟨?_, fun j _ => ?_⟩
    · have hsettled := (h.agreesBut k).setStand
        (st := { s.stand k with pinAsserted := !high, pinSettled := true }) rfl rfl id
      refine hsettled.groupsAgree_of_not_watched ?_ ?_ <;> rw [State.stand_setStand_same]
      · nofun
      · exact hwatched
    · exact State.setStand_urgent (Stand.urgent_congr (by rfl) (by rfl)) j
  case isFalse => rw [State.setStand_stand]; exact .refl s

theorem State.settlePins_keepsAgreement (s : State) (steady high : BitVec 8) :
    s.KeepsAgreement (s.settlePins steady high) := by
  unfold State.settlePins
  split
  · exact .refl s
  · exact .foldl (fun t k => t.settlePin_keepsAgreement k _ _) allStands s

theorem State.pinAssertion_keepsAgreement (s : State) (k : StandId) :
    s.KeepsAgreement (s.pinAssertion k) := by
  unfold State.pinAssertion
  split
  · exact .refl s
  · exact .of_prepares fun h =>
      State.Prepares.inhibit (st := { s.stand k with pinAsserted := true }) h rfl rfl rfl fun _ => rfl

end Sys2Proof.Machine
end

section
/-!
SUPPORT. The release edge of a pin, the requests, and O58: every command keeps groups and stands in agreement and
leaves no decision due.
-/
namespace Sys2Proof.Machine

/-! ### The end of an inhibit -/

/-- R100, R102, R129, R151: stand k changes what its request depends on, but neither its state nor its running
context, and the request is refreshed. -/
theorem State.Prepares.refresh {s : State} {k : StandId} {st : Stand} (h : GroupsAgree s)
    (hstate : st.state = (s.stand k).state) (hparams : st.params = (s.stand k).params)
    (hrunning : st.running = (s.stand k).running) (hinhibit : st.InhibitAgrees) :
    s.Prepares ((s.setStand k st).refreshRequest k) := by
  have hbut : (s.setStand k st).AgreesBut k :=
    (h.agreesBut k).setStand (congrArg Params.group hparams) (congrArg _ hstate) hstate.trans
  refine ⟨hbut.refreshRequest (by rwa [State.stand_setStand_same]), fun j _ => ?_⟩
  rw [State.refreshRequest_urgent, State.setStand_urgent (Stand.urgent_congr hparams hrunning)]

/-- A clear takes a stand from FAULT to a state at rest (R152, R153). -/
theorem State.Prepares.clearFault {s : State} {k : StandId} {st : Stand} (h : GroupsAgree s)
    (hfault : (s.stand k).state = .fault) (hpin : st.pinSettled = false → st.pinAsserted = true)
    (waits : Bool) : s.Prepares (s.setStand k (st.clearFault waits)) := by
  obtain ⟨hsame, hrest⟩ := st.clearFault_standing waits
  refine State.Prepares.setStand_rest h (by rw [hfault]; exact ⟨rfl, nofun⟩) hrest ?_
  rwa [hsame.pinSettled, hsame.pinAsserted]

theorem State.pinRelease_keepsAgreement (s : State) (k : StandId) : s.KeepsAgreement (s.pinRelease k) := by
  unfold State.pinRelease
  split
  case isTrue => exact .refl s
  case isFalse hedge =>
    simp only [Bool.or_eq_true, Bool.not_eq_true', not_or, Bool.not_eq_false] at hedge
    obtain ⟨⟨-, hsettled⟩, hasserted⟩ := hedge
    refine .of_prepares fun h => ?_
    have hnot : (s.stand k).state.watched = false := Bool.eq_false_iff.mpr fun hw => by
      simpa [Stand.inhibited, hasserted] using (h.inhibitAgrees k).2 hw
    have hreleased : Stand.InhibitAgrees
        { s.stand k with pinAsserted := false, awaitsRelease := false } :=
      ⟨fun hunsettled => by simp [hsettled] at hunsettled, fun hw => by simp [hnot] at hw⟩
    split
    case isTrue hfault =>
      split
      · refine State.Prepares.setStand_rest h (by rw [hfault]; exact ⟨rfl, nofun⟩) ?_ hreleased.1
        exact hfault ▸ ⟨rfl, rfl⟩
      · rw [State.modStand_eq, State.modStand_eq, State.setStand_setStand, State.stand_setStand_same]
        exact State.Prepares.clearFault h hfault hreleased.1 false
    case isFalse =>
      exact State.Prepares.refresh h rfl rfl rfl hreleased

/-! ### Requests -/

theorem State.answer_keepsAgreement {s : State} (r : Request) (kind : BitVec 4) {a : Answer}
    (h : GroupsAgree s → s.Prepares a.state) : s.KeepsAgreement (s.answer r kind a) :=
  State.KeepsAgreement.of_prepares h

theorem State.Prepares.refl {s : State} (h : GroupsAgree s) : s.Prepares s := ⟨h, fun _ _ => rfl⟩

/-- A request keeps the agreement when each stand's answer prepares it (R131, R167, R175). -/
theorem State.serve_keepsAgreement {s : State} (r : Request) (kind : BitVec 4) (ok : Bool)
    {f : StandId → Answer} (h : GroupsAgree s → ∀ k, s.Prepares (f k).state) :
    s.KeepsAgreement (s.serve r kind ok f) := by
  have hbad : s.KeepsAgreement (s.answer r kind (refuse s .badRequest)) :=
    State.answer_keepsAgreement r kind State.Prepares.refl
  unfold State.serve
  split
  · split
    · split
      · exact State.answer_keepsAgreement r kind fun hs => h hs _
      · exact hbad
    · exact hbad
  · exact .refl s

section
variable {s : State} (h : GroupsAgree s) (k : StandId)
include h

theorem readItemAnswer_prepares (sel : BitVec 16) : s.Prepares (readItemAnswer sel s k).state := by
  unfold readItemAnswer; split <;> exact .refl h

/-- R183: a parameter, the folder group among them, is written only in a state at rest. -/
theorem parameterAnswer_prepares (sel : BitVec 16) (p : Payload) :
    s.Prepares (parameterAnswer sel p s k).state := by
  unfold parameterAnswer
  dsimp only
  split
  · exact .refl h
  case isFalse hunlocked =>
    have hrest : (s.stand k).state.AtRest := StandState.atRest_of_not_locksParams (by simpa using hunlocked)
    split
    · exact .refl h
    · split
      · exact .refl h
      · exact State.Prepares.setStand_rest h hrest.idle hrest (h.inhibitAgrees k).1

theorem mapEntryAnswer_prepares (sel : BitVec 16) (p : Payload) :
    s.Prepares (mapEntryAnswer sel p s k).state := by
  unfold mapEntryAnswer
  dsimp only
  split
  · exact .refl h
  · split
    · exact (State.setStand_sameRoles ((s.stand k).map_sameRole _)).prepares h
    · exact .refl h

theorem lineMapAnswer_prepares (sel : BitVec 16) (p : Payload) :
    s.Prepares (lineMapAnswer sel p s k).state := by
  unfold lineMapAnswer
  split
  · exact .refl h
  · split <;> exact State.Prepares.refl h

theorem imageMapAnswer_prepares (sel : BitVec 16) (p : Payload) :
    s.Prepares (imageMapAnswer sel p s k).state := by
  unfold imageMapAnswer
  split
  · exact .refl h
  · split <;> exact State.Prepares.refl h

theorem gradeAnswer_prepares (sel : BitVec 16) (p : Payload) :
    s.Prepares (gradeAnswer sel p s k).state := by
  unfold gradeAnswer; split <;> exact State.Prepares.refl h

/-- R138: a stagger length changes neither holder nor requesters. -/
theorem groupAnswer_prepares (sel : BitVec 16) (p : Payload) :
    s.Prepares (groupAnswer sel p s k).state :=
  ⟨h.setGroup (fun _ => .rfl) fun _ => rfl, fun _ _ => rfl⟩

theorem readLogAnswer_prepares (sel : BitVec 16) : s.Prepares (readLogAnswer sel s).state := by
  unfold readLogAnswer; split <;> exact .refl h

theorem ackLogAnswer_prepares : s.Prepares (ackLogAnswer s).state := by
  unfold ackLogAnswer; split <;> exact State.Prepares.refl h

/-- R62, R71: the record joins the queue, and the head is bound where it can be. -/
theorem queueReelAnswer_prepares (p : Payload) : s.Prepares (queueReelAnswer p s k).state := by
  unfold queueReelAnswer
  dsimp only
  split
  case h_1 => exact .refl h
  case h_2 rec _ =>
    split
    · exact .refl h
    split
    · exact .refl h
    have hrole := (s.stand k).queue_sameRole ((s.stand k).queue ++ [rec])
    generalize { s.stand k with queue := (s.stand k).queue ++ [rec] } = st at hrole ⊢
    obtain ⟨hsame, heq | ⟨hrunning, hchecking⟩⟩ := st.tryBind_standing s.stepPending
    · rw [heq]
      exact (State.setStand_sameRoles hrole).prepares h
    · refine State.Prepares.setStand_rest h ?_ (by rw [hchecking]; exact ⟨rfl, rfl⟩) ?_
      · rw [← hrole.state, hrunning]; exact ⟨rfl, nofun⟩
      · rw [hsame.pinSettled, hsame.pinAsserted, hrole.pinSettled, hrole.pinAsserted]
        exact (h.inhibitAgrees k).1

theorem withdrawAnswer_prepares (p : Payload) : s.Prepares (withdrawAnswer p s k).state := by
  unfold withdrawAnswer
  dsimp only
  split
  · exact .refl h
  split
  · exact (State.setStand_sameRoles ((s.stand k).queue_sameRole _)).prepares h
  split
  · split
    case isTrue hstate =>
      have hidle : (s.stand k).state.Idle := by
        rcases hstate with hstate | hstate <;> rw [hstate] <;> exact ⟨rfl, nofun⟩
      obtain ⟨hsame, hrest⟩ := (s.stand k).dropReady_standing s.stepPending
      refine State.Prepares.setStand_rest h hidle hrest ?_
      rw [hsame.pinSettled, hsame.pinAsserted]
      exact (h.inhibitAgrees k).1
    case isFalse => exact .refl h
  split <;> exact .refl h

theorem standOnlineAnswer_prepares (sel : BitVec 16) (p : Payload) :
    s.Prepares (standOnlineAnswer sel p s k).state := by
  unfold standOnlineAnswer
  dsimp only
  split
  · exact .refl h
  case isFalse hservice =>
    have hoffline : (s.stand k).state = .offline := by simpa [Stand.inService_iff] using hservice
    split
    · exact .refl h
    split
    · split
      · exact State.Prepares.setStand_rest h (by rw [hoffline]; exact ⟨rfl, nofun⟩) ⟨rfl, rfl⟩
          (h.inhibitAgrees k).1
      · exact .refl h
    · exact .refl h

theorem standOfflineAnswer_prepares : s.Prepares (standOfflineAnswer s k).state := by
  unfold standOfflineAnswer
  dsimp only
  split
  · exact .refl h
  split
  case isTrue hleave =>
    have hsame := (s.stand k).returnToHead_sameRole
    refine State.Prepares.setStand_rest h (StandState.idle_of_mayLeave hleave) ⟨rfl, rfl⟩ fun hsettled => ?_
    exact hsame.pinAsserted.trans ((h.inhibitAgrees k).1 (hsame.pinSettled.symm.trans hsettled))
  case isFalse => exact .refl h

theorem inhibitAnswer_prepares : s.Prepares (inhibitAnswer s k).state := by
  unfold inhibitAnswer
  dsimp only
  split
  · exact State.Prepares.inhibit (st := { s.stand k with requestInhibit := true }) h rfl rfl rfl
      (h.inhibitAgrees k).1
  · exact .refl h

theorem releaseAnswer_prepares : s.Prepares (releaseAnswer s k).state := by
  unfold releaseAnswer
  dsimp only
  split
  · obtain ⟨hpin, hinhibited⟩ := h.inhibitAgrees k
    refine State.Prepares.refresh (st := { s.stand k with requestInhibit := false }) h rfl rfl rfl
      ⟨hpin, fun hw => ?_⟩
    have hnot := hinhibited hw
    simp_all [Stand.inhibited]
  · exact .refl h

/-- R102: a forced splice is kept in READY and ACCEL, and requested in MATCHED. -/
theorem spliceNowAnswer_prepares : s.Prepares (spliceNowAnswer s k).state := by
  have hkeep : (s.stand k).state ≠ .matched →
      s.Prepares (s.setStand k { s.stand k with forced := true }) := fun hnot => by
    have hforced := State.Prepares.refresh (st := { s.stand k with forced := true }) h rfl rfl rfl
      (h.inhibitAgrees k)
    rwa [State.refreshRequest_of_not_matched _ k (by rwa [State.stand_setStand_same])] at hforced
  unfold spliceNowAnswer
  dsimp only
  split
  case h_1 => exact .refl h
  case h_2 => exact .refl h
  case h_3 => exact .refl h
  case h_4 hstate => exact hkeep (by rw [hstate]; nofun)
  case h_5 hstate => exact hkeep (by rw [hstate]; nofun)
  case h_6 => exact State.Prepares.refresh h rfl rfl rfl (h.inhibitAgrees k)
  case h_7 => exact .refl h

theorem clearFaultAnswer_prepares (sel : BitVec 16) : s.Prepares (clearFaultAnswer sel s k).state := by
  have hpin := (h.inhibitAgrees k).1
  unfold clearFaultAnswer
  dsimp only
  split
  · exact .refl h
  split
  · exact .refl h
  split
  case isTrue hfault =>
    split
    · split
      case h_1 => exact .refl h
      case h_2 x _ =>
        have hname := (s.stand k).nameArm_sameSetting x s.grades
        refine State.Prepares.decideGroup (State.Prepares.clearFault h hfault ?_ s.stepPending) _
        rwa [hname.pinSettled, hname.pinAsserted]
    · exact (State.Prepares.clearFault h hfault hpin s.stepPending).decideGroup _
  case isFalse => exact .refl h

end

/-! ### Every command -/

theorem exec_keepsAgreement (i : Instr) (s : State) : ∃ t, exec i s = .next t ∧ s.KeepsAgreement t := by
  cases i with
  | outboundStartMarker f => exact ⟨_, rfl, s.startMarker_keepsAgreement f⟩
  | returnFrame e => exact ⟨_, rfl, s.returnEvent_keepsAgreement e⟩
  | signalStaleLimit g => exact ⟨_, rfl, s.signalStaleLimit_keepsAgreement g⟩
  | signalStale k => exact ⟨_, rfl, s.signalStale_keepsAgreement k⟩
  | runningDiameterWindowComplete k inc travel =>
    exact ⟨_, rfl, s.windowComplete_keepsAgreement k inc travel⟩
  | gaugeWindowComplete k reading => exact ⟨_, rfl, s.gaugeComplete_keepsAgreement k reading⟩
  | tapeLost k travel => exact ⟨_, rfl, s.tapeLost_keepsAgreement k travel⟩
  | accelTimeout k => exact ⟨_, rfl, s.accelTimeout_keepsAgreement k⟩
  | confirmTimeout k => exact ⟨_, rfl, s.confirmTimeout_keepsAgreement k⟩
  | spacingEnd g inc => exact ⟨_, rfl, s.spacingEnd_keepsAgreement g inc⟩
  | linkLoss => exact ⟨_, rfl, s.watchExpiry_keepsAgreement⟩
  | resetAssertion => exact ⟨_, rfl, s.assertReset_keepsAgreement _ _⟩
  | resetRelease addr => exact ⟨_, rfl, s.releaseReset_keepsAgreement addr⟩
  | inhibitFilterSettle steady high => exact ⟨_, rfl, s.settlePins_keepsAgreement steady high⟩
  | inhibitPinAssertion k => exact ⟨_, rfl, s.pinAssertion_keepsAgreement k⟩
  | inhibitPinRelease k => exact ⟨_, rfl, s.pinRelease_keepsAgreement k⟩
  | readItem r sel =>
    exact ⟨_, rfl, State.serve_keepsAgreement r 1 _ fun h k => readItemAnswer_prepares h k sel⟩
  | writeStandParameter r sel p =>
    exact ⟨_, rfl, State.serve_keepsAgreement r 2 _ fun h k => parameterAnswer_prepares h k sel p⟩
  | writeSlotMapEntry r sel p =>
    exact ⟨_, rfl, State.serve_keepsAgreement r 2 _ fun h k => mapEntryAnswer_prepares h k sel p⟩
  | writeLineMap r sel p =>
    exact ⟨_, rfl, State.serve_keepsAgreement r 2 _ fun h k => lineMapAnswer_prepares h k sel p⟩
  | writeImageMap r sel p =>
    exact ⟨_, rfl, State.serve_keepsAgreement r 2 _ fun h k => imageMapAnswer_prepares h k sel p⟩
  | writeGradeTableEntry r sel p =>
    exact ⟨_, rfl, State.serve_keepsAgreement r 2 _ fun h k => gradeAnswer_prepares h k sel p⟩
  | writeGroupTableEntry r sel p =>
    exact ⟨_, rfl, State.serve_keepsAgreement r 2 _ fun h k => groupAnswer_prepares h k sel p⟩
  | queueReel r p =>
    exact ⟨_, rfl, State.serve_keepsAgreement r 3 _ fun h k => queueReelAnswer_prepares h k p⟩
  | withdrawReel r p =>
    exact ⟨_, rfl, State.serve_keepsAgreement r 4 _ fun h k => withdrawAnswer_prepares h k p⟩
  | standOnline r sel p =>
    exact ⟨_, rfl, State.serve_keepsAgreement r 5 _ fun h k => standOnlineAnswer_prepares h k sel p⟩
  | standOffline r => exact ⟨_, rfl, State.serve_keepsAgreement r 6 _ standOfflineAnswer_prepares⟩
  | inhibit r => exact ⟨_, rfl, State.serve_keepsAgreement r 7 _ inhibitAnswer_prepares⟩
  | release r => exact ⟨_, rfl, State.serve_keepsAgreement r 8 _ releaseAnswer_prepares⟩
  | spliceNow r => exact ⟨_, rfl, State.serve_keepsAgreement r 9 _ spliceNowAnswer_prepares⟩
  | clearFault r sel =>
    exact ⟨_, rfl, State.serve_keepsAgreement r 10 _ fun h k => clearFaultAnswer_prepares h k sel⟩
  | readLog r sel =>
    exact ⟨_, rfl, State.serve_keepsAgreement r 11 _ fun h _ => readLogAnswer_prepares h sel⟩
  | ackLog r => exact ⟨_, rfl, State.serve_keepsAgreement r 12 _ fun h _ => ackLogAnswer_prepares h⟩
  | unknownKindRequest r kind => exact ⟨_, rfl, State.serve_keepsAgreement r kind _ fun h _ => .refl h⟩

theorem step_keepsAgreement {s t : State} (h : step s = .next t) : s.KeepsAgreement t := by
  unfold step at h
  split at h
  case h_1 c rest _ =>
    obtain ⟨u, hu, hkeeps⟩ := exec_keepsAgreement c { s with pending := rest }
    cases hu.symm.trans h
    exact hkeeps
  case h_2 =>
    cases h
    exact .refl s

/-- Settles O58: a step keeps the agreement, and two stands of one group in FIRING or CONFIRM would both hold
it. -/
theorem stepKeepsGroupsAgree : Obligations.StepKeepsGroupsAgree := by
  intro s t hs hstep
  obtain ⟨ht, hmade⟩ := step_keepsAgreement hstep hs
  refine ⟨ht, fun j k hj hk hgroup => ?_, hmade⟩
  exact ht.eq_of_holdsGrant (StandState.holdsGrant_of_mem hj) (StandState.holdsGrant_of_mem hk) hgroup

end Sys2Proof.Machine
end

section
/-!
SUPPORT. Where the fields of a packed payload stand (R20, R172), the layout of a log entry's two halves
(section 1.11), READ-LOG and ACK-LOG of a part that takes them, and O46.
-/
namespace Sys2Proof.Machine

/-! ### Fields of a packed payload -/

/-- The number of bytes that a list of fields fills. -/
def packWidth (fields : List (Nat × Nat)) : Nat := (fields.map Prod.fst).sum

/-- From the first byte after the first i fields on, a packed number holds the others. -/
theorem packNat_div_packWidth (fields : List (Nat × Nat)) (i : Nat) :
    packNat fields / 256 ^ packWidth (fields.take i) = packNat (fields.drop i) := by
  induction fields generalizing i with
  | nil => simp [packWidth, packNat]
  | cons field rest ih =>
    obtain ⟨n, v⟩ := field
    cases i with
    | zero => simp [packWidth]
    | succ i =>
      have hpos : 0 < 256 ^ n := by positivity
      have hwidth : packWidth (((n, v) :: rest).take (i + 1)) = n + packWidth (rest.take i) := by
        simp [packWidth]
      rw [hwidth, pow_add, ← Nat.div_div_eq_div_mul, packNat, Nat.add_mul_div_left _ _ hpos,
        Nat.div_eq_of_lt (Nat.mod_lt v hpos), Nat.zero_add, ih, List.drop_succ_cons]

theorem bytes_pack (fields : List (Nat × Nat)) {b n : Nat} (hfit : b + n ≤ 16) :
    Payload.bytes (pack fields) b n = packNat fields / 256 ^ b % 256 ^ n := by
  have hpow (m : Nat) : 256 ^ m = 2 ^ (8 * m) := by rw [Nat.pow_mul]
  rw [hpow, hpow, Payload.bytes, pack, ← Nat.shiftRight_eq_div_pow]
  apply Nat.eq_of_testBit_eq
  intro j
  simp only [BitVec.extractLsb'_toNat, BitVec.toNat_ofNat, Nat.testBit_mod_two_pow,
    Nat.testBit_shiftRight]
  grind

/-- R20: from byte b on, where the first i fields end, a packed payload holds the fields after them. -/
theorem bytes_pack_drop (fields : List (Nat × Nat)) (i : Nat) {b n : Nat}
    (hb : packWidth (fields.take i) = b) (hfit : b + n ≤ 16) :
    Payload.bytes (pack fields) b n = packNat (fields.drop i) % 256 ^ n := by
  rw [bytes_pack fields hfit, ← hb, packNat_div_packWidth]

/-- R20: field i of a packed payload stands where the fields before it end. -/
theorem bytes_pack_field {fields : List (Nat × Nat)} (i : Nat) {b n v : Nat}
    (hi : fields[i]? = some (n, v)) (hb : packWidth (fields.take i) = b) (hfit : b + n ≤ 16) :
    Payload.bytes (pack fields) b n = v % 256 ^ n := by
  obtain ⟨hlt, hget⟩ := List.getElem?_eq_some_iff.mp hi
  rw [bytes_pack_drop fields i hb hfit, List.drop_eq_getElem_cons hlt, hget, packNat,
    Nat.add_mul_mod_self_left, Nat.mod_mod]

/-- Bits within bytes: so many bits from bit i of the bytes on. -/
theorem toNat_extractLsb'_of_bytes (p : Payload) {b n i w : Nat} (h : i + w ≤ 8 * n) :
    (p.extractLsb' (8 * b + i) w).toNat = Payload.bytes p b n / 2 ^ i % 2 ^ w := by
  rw [Payload.bytes, ← Nat.shiftRight_eq_div_pow]
  apply Nat.eq_of_testBit_eq
  intro j
  simp only [BitVec.extractLsb'_toNat, Nat.testBit_mod_two_pow, Nat.testBit_shiftRight]
  grind

/-- A bit within bytes, by the flag that stands in their number there. -/
theorem getLsbD_of_bytes {p : Payload} {b n : Nat} (i : Nat) {flag : Bool} (hi : i < 8 * n)
    (hflag : Payload.bytes p b n / 2 ^ i % 2 = bit flag) : p.getLsbD (8 * b + i) = flag := by
  have hbit : (Payload.bytes p b n).testBit i = p.getLsbD (8 * b + i) := by
    rw [Payload.bytes, BitVec.testBit_toNat, BitVec.getLsbD_extractLsb', decide_eq_true hi, Bool.true_and]
  rw [← hbit, Nat.testBit_eq_decide_div_mod_eq, hflag]
  cases flag <;> rfl

/-! ### The layout of a log entry (section 1.11) -/

theorem bit_le_one (b : Bool) : bit b ≤ 1 := by cases b <;> decide

theorem LogOutcome.code_lt (o : LogOutcome) : o.code < 4 := by cases o <;> decide

namespace LogEntry

variable (e : LogEntry)

/-- The byte of half 0 that the stand, the outcome and three flags share. -/
def half0Flags : Nat :=
  e.stand.val + 8 * e.outcome.code + 32 * bit e.clamped + 64 * bit e.late + 128 * bit e.urgent

/-- What the shared byte is made of: stand and outcome fit their places below the flags. -/
theorem half0Flags_parts :
    e.half0Flags % 8 = e.stand.val ∧ e.half0Flags / 8 % 4 = e.outcome.code ∧
      e.half0Flags / 32 % 2 = bit e.clamped ∧ e.half0Flags / 64 % 2 = bit e.late ∧
      e.half0Flags / 128 % 2 = bit e.urgent ∧ e.half0Flags < 256 := by
  have hout := e.outcome.code_lt
  have hclamped := bit_le_one e.clamped
  have hlate := bit_le_one e.late
  have hurgent := bit_le_one e.urgent
  unfold half0Flags
  omega

theorem bytes_half0 :
    Payload.bytes e.half0 0 4 = e.expiring.toNat % 256 ^ 4 ∧
      Payload.bytes e.half0 4 4 = e.newRoll.toNat % 256 ^ 4 ∧
      Payload.bytes e.half0 8 4 = e.fire.cycle.toNat % 256 ^ 4 ∧
      Payload.bytes e.half0 12 1 = e.fire.offset % 256 ^ 1 ∧
      Payload.bytes e.half0 13 1 = e.half0Flags % 256 ^ 1 ∧
      Payload.bytes e.half0 14 2 = e.width % 256 ^ 2 :=
  ⟨bytes_pack_field 0 rfl rfl (by decide), bytes_pack_field 1 rfl rfl (by decide),
    bytes_pack_field 2 rfl rfl (by decide), bytes_pack_field 3 rfl rfl (by decide),
    bytes_pack_field 4 rfl rfl (by decide), bytes_pack_field 5 rfl rfl (by decide)⟩

theorem bytes_half1 :
    Payload.bytes e.half1 0 4 = e.delay % 256 ^ 4 ∧
      Payload.bytes e.half1 4 2 = e.dRun % 256 ^ 2 ∧
      Payload.bytes e.half1 6 4 = e.lag.getD 0 % 256 ^ 4 ∧
      Payload.bytes e.half1 10 4 = e.wait % 256 ^ 4 ∧
      Payload.bytes e.half1 14 2 = bit e.forced + 2 * bit e.lag.isSome := by
  refine ⟨bytes_pack_field 0 rfl rfl (by decide), bytes_pack_field 1 rfl rfl (by decide),
    bytes_pack_field 2 rfl rfl (by decide), bytes_pack_field 3 rfl rfl (by decide), ?last⟩
  have hforced := bit_le_one e.forced
  have hlag := bit_le_one e.lag.isSome
  refine (bytes_pack_drop _ 4 (b := 14) rfl (by decide)).trans ?_
  simp only [List.drop, packNat]
  omega

theorem half0_layout :
    e.half0.extractLsb' 0 32 = e.expiring ∧ e.half0.extractLsb' 32 32 = e.newRoll ∧
      e.half0.extractLsb' 64 32 = e.fire.cycle ∧
      (e.half0.extractLsb' 96 8).toNat = e.fire.offset % 2 ^ 8 ∧
      (e.half0.extractLsb' 104 3).toNat = e.stand.val ∧
      e.half0.extractLsb' 107 2 =
        (match e.outcome with | .spliced => 0#2 | .noConfirm => 1#2 | .aborted => 2#2) ∧
      e.half0.getLsbD 109 = e.clamped ∧ e.half0.getLsbD 110 = e.late ∧ e.half0.getLsbD 111 = e.urgent ∧
      (e.half0.extractLsb' 112 16).toNat = e.width % 2 ^ 16 := by
  obtain ⟨hexpiring, hnew, hcycle, hoffset, hshared, hwidth⟩ := e.bytes_half0
  obtain ⟨hstand, hout, hclamped, hlate, hurgent, hfits⟩ := e.half0Flags_parts
  rw [Nat.pow_one, Nat.mod_eq_of_lt hfits] at hshared
  refine ⟨BitVec.eq_of_toNat_eq (hexpiring.trans (Nat.mod_eq_of_lt e.expiring.isLt)),
    BitVec.eq_of_toNat_eq (hnew.trans (Nat.mod_eq_of_lt e.newRoll.isLt)),
    BitVec.eq_of_toNat_eq (hcycle.trans (Nat.mod_eq_of_lt e.fire.cycle.isLt)), hoffset, ?stand, ?outcome,
    getLsbD_of_bytes (b := 13) 5 (by decide) (hshared ▸ hclamped),
    getLsbD_of_bytes (b := 13) 6 (by decide) (hshared ▸ hlate),
    getLsbD_of_bytes (b := 13) 7 (by decide) (hshared ▸ hurgent), hwidth⟩
  case stand =>
    rw [toNat_extractLsb'_of_bytes e.half0 (b := 13) (n := 1) (i := 0) (by decide), hshared, Nat.pow_zero,
      Nat.div_one]
    exact hstand
  case outcome =>
    apply BitVec.eq_of_toNat_eq
    rw [toNat_extractLsb'_of_bytes e.half0 (b := 13) (n := 1) (i := 3) (by decide), hshared]
    refine hout.trans ?_
    cases e.outcome <;> rfl

theorem half1_layout :
    (e.half1.extractLsb' 0 32).toNat = e.delay % 2 ^ 32 ∧
      (e.half1.extractLsb' 32 16).toNat = e.dRun % 2 ^ 16 ∧
      (e.half1.extractLsb' 48 32).toNat = e.lag.getD 0 % 2 ^ 32 ∧
      (e.half1.extractLsb' 80 32).toNat = e.wait % 2 ^ 32 ∧
      e.half1.getLsbD 112 = e.forced ∧ e.half1.getLsbD 113 = e.lag.isSome ∧
      e.half1.extractLsb' 114 14 = 0#14 := by
  obtain ⟨hdelay, hrun, hlag, hwait, hflags⟩ := e.bytes_half1
  have hforced := bit_le_one e.forced
  have hsome := bit_le_one e.lag.isSome
  refine ⟨hdelay, hrun, hlag, hwait, getLsbD_of_bytes (b := 14) (n := 2) 0 (by decide) (by omega),
    getLsbD_of_bytes (b := 14) (n := 2) 1 (by decide) (by omega), BitVec.eq_of_toNat_eq ?rest⟩
  rw [toNat_extractLsb'_of_bytes e.half1 (b := 14) (n := 2) (i := 2) (by decide), hflags,
    BitVec.toNat_ofNat]
  omega

end LogEntry

/-! ### READ-LOG and ACK-LOG of a part that takes them (R165, R180) -/

theorem logPosition_ofNat {half pos : Nat} (hpos : pos < 256) :
    logPosition (BitVec.ofNat 16 (256 * half + pos)) = pos := itemIndex_ofNat hpos

theorem logHalf_ofNat {half pos : Nat} (hhalf : half < 256) (hpos : pos < 256) :
    logHalf (BitVec.ofNat 16 (256 * half + pos)) = half := itemClass_ofNat hhalf hpos

/-- A request that leaves the groups and the node address takes no grant decision (R175). -/
theorem State.answer_doneWith {s t : State} (r : Request) (kind : BitVec 4) (p : Payload)
    (hgroups : t.groups = s.groups) (haddr : t.nodeAddr = s.nodeAddr) :
    s.answer r kind (doneWith t p) = t.replied r kind .done p := by
  have hsame : State.decideChanged s t = t :=
    State.decideChanged_of_same s t fun g => by simp only [State.group, hgroups]
  simp only [State.answer, doneWith, hsame, State.replied, haddr]

section
variable {s : State} {r : Request} {k : StandId} {sel : BitVec 16}

theorem exec_readLog_of_bad (h : s.takesAt r k) (hsel : 31 < logPosition sel ∨ 1 < logHalf sel) :
    exec (.readLog r sel) s = .next (s.replied r 11 .badRequest 0) := by
  have hbad : logSelectorOk sel = false := by
    rw [logSelectorOk, ← Bool.not_eq_true, Bool.and_eq_true, decide_eq_true_iff, decide_eq_true_iff]
    omega
  obtain ⟨htakes, -⟩ := h
  exact congrArg _ (State.serve_of_bad s r 11 _ _ htakes (.inr hbad))

theorem exec_readLog_of_taken (h : s.takesAt r k) (hpos : logPosition sel ≤ 31)
    (hhalf : logHalf sel ≤ 1) :
    exec (.readLog r sel) s = .next (s.answer r 11 (readLogAnswer sel s)) := by
  have hok : logSelectorOk sel = true := by simp [logSelectorOk, hpos, hhalf]
  change Host.Outcome.next (s.serve r 11 _ _) = _
  rw [hok, State.serve_of_taken s r 11 _ k h]

theorem exec_readLog_of_beyond (h : s.takesAt r k) (hpos : logPosition sel ≤ 31) (hhalf : logHalf sel ≤ 1)
    (hlen : s.log.length ≤ logPosition sel) :
    exec (.readLog r sel) s = .next (s.replied r 11 .noSuch 0) := by
  rw [exec_readLog_of_taken h hpos hhalf, readLogAnswer, List.getElem?_eq_none hlen, State.answer_refuse]

theorem exec_readLog_of_entry {e : LogEntry} (h : s.takesAt r k) (hpos : logPosition sel ≤ 31)
    (hhalf : logHalf sel ≤ 1) (he : s.log[logPosition sel]? = some e) :
    exec (.readLog r sel) s = .next (s.replied r 11 .done (e.half (logHalf sel))) := by
  rw [exec_readLog_of_taken h hpos hhalf, readLogAnswer, he]
  exact congrArg _ (State.answer_doneWith r 11 _ rfl rfl)

theorem exec_ackLog_of_taken (h : s.takesAt r k) :
    exec (.ackLog r) s = .next (s.answer r 12 (ackLogAnswer s)) :=
  congrArg _ (State.serve_of_taken s r 12 _ k h)

theorem exec_ackLog_of_empty (h : s.takesAt r k) (hlog : s.log = []) :
    exec (.ackLog r) s = .next (s.replied r 12 .noSuch 0) := by
  rw [exec_ackLog_of_taken h, ackLogAnswer, hlog, State.answer_refuse]

/-- R165: the oldest entry goes, and the overrun flag stays where entries do. -/
theorem exec_ackLog_of_entry {e : LogEntry} {rest : List LogEntry} (h : s.takesAt r k)
    (hlog : s.log = e :: rest) :
    exec (.ackLog r) s =
      .next (State.replied { s with log := rest, overrun := s.overrun && !rest.isEmpty } r 12 .done 0) := by
  rw [exec_ackLog_of_taken h, ackLogAnswer, hlog]
  exact congrArg _ (State.answer_doneWith r 12 0 rfl rfl)

end

/-- Settles O46: the layout from the bytes of the two halves, the requests by what the selector names and by
how long the log is. -/
theorem readLogReadsNamedHalf : Obligations.ReadLogReadsNamedHalf := by
  refine ⟨?layout, ?requests⟩
  case layout =>
    intro e
    obtain ⟨hexpiring, hnew, hcycle, hoffset, hstand, hout, hclamped, hlate, hurgent, hwidth⟩ :=
      e.half0_layout
    exact ⟨hexpiring, hnew, hcycle, hoffset, hstand, hout, hclamped, hlate, hurgent, hwidth,
      e.half1_layout⟩
  case requests =>
    intro s r k h
    refine ⟨?read, exec_ackLog_of_empty h, ?last, ?more⟩
    case read =>
      intro pos half hpos hhalf sel
      have hposition : logPosition sel = pos := logPosition_ofNat hpos
      have hnamed : logHalf sel = half := logHalf_ofNat hhalf hpos
      rw [← hposition, ← hnamed]
      refine ⟨exec_readLog_of_bad h, exec_readLog_of_beyond h, fun e hin he => ⟨?zero, ?one⟩⟩
      case zero =>
        intro hzero
        rw [exec_readLog_of_entry h hin (by omega) he, LogEntry.half, if_pos hzero]
      case one =>
        intro hone
        rw [exec_readLog_of_entry h hin (by omega) he, LogEntry.half, if_neg (by omega)]
    case last =>
      intro e hlog
      rw [exec_ackLog_of_entry h hlog, List.isEmpty_nil, Bool.not_true, Bool.and_false]
    case more =>
      intro e e' rest hlog
      rw [exec_ackLog_of_entry h hlog, List.isEmpty_cons, Bool.not_false, Bool.and_true]

end Sys2Proof.Machine
end

section
/-!
SUPPORT. The checks of a parameter write (R182 to R184), what a write leaves of the other parameters, and O49.
-/
namespace Sys2Proof.Machine

/-! ### The checks (R183, R184) -/

theorem StandState.locksParams_iff (x : StandState) :
    x.locksParams = true ↔
      x ∈ [StandState.accel, .matched, .firingPending, .firingIssued, .confirm, .settle] := by
  cases x <;> decide

theorem paramInRange_iff (i v : Nat) :
    paramInRange i v = true ↔ (paramRange i).1 ≤ v ∧ v ≤ (paramRange i).2 := by
  simp [paramInRange]

theorem Params.linked_iff (q : Params) :
    q.linked = true ↔ q.dEmerg ≤ q.dS ∧ q.minGap ≤ q.maxGap := by
  simp [Params.linked]

/-- R184: in a set that keeps both relations, the check against the other parameter of the pair is what the
relations ask of the set after the write. -/
theorem Params.linkOk_iff_linked_set {q : Params} (h : q.linked = true) (i : Fin 18) (v : Nat) :
    q.linkOk i v = true ↔ (q.set i v).linked = true := by
  obtain ⟨hdiameters, hgaps⟩ := q.linked_iff.mp h
  rw [Params.linked_iff]
  fin_cases i <;> simp [Params.set, Params.linkOk, hdiameters, hgaps]

/-! ### The parameters as a vector -/

/-- The parameters in the order of R182. -/
def Params.values (q : Params) : Vector Nat 18 :=
  #v[q.dS, q.dEmerg, q.tLead, q.tMatchMax, q.ovs, q.tol, q.hyst, q.sensorLead, q.tPaste, q.lKnife,
    q.tKnife, q.minGap, q.maxGap, q.tConfirm, q.mismatchTol, q.riseTol, q.group.val, q.defaultGrade.val]

theorem Params.get_eq_values (q : Params) (i : Fin 18) : q.get i = q.values[i] := by
  fin_cases i <;> rfl

/-- What a write of v leaves in parameter i: folder group and default grade hold the low bits alone. -/
def storedValue (i v : Nat) : Nat :=
  match i with
  | 16 => v % 4
  | 17 => v % 16
  | _ => v

theorem storedValue_of_inRange {i v : Nat} (h : paramInRange i v = true) : storedValue i v = v := by
  obtain ⟨-, hhigh⟩ := (paramInRange_iff i v).mp h
  unfold storedValue
  split
  · exact Nat.mod_eq_of_lt (Nat.lt_succ_of_le hhigh)
  · exact Nat.mod_eq_of_lt (Nat.lt_succ_of_le hhigh)
  · rfl

theorem Params.values_set (q : Params) (i : Fin 18) (v : Nat) :
    (q.set i v).values = q.values.set i (storedValue i v) := by
  fin_cases i <;> rfl

theorem Params.get_set_same (q : Params) {i : Fin 18} {v : Nat} (h : paramInRange i v = true) :
    (q.set i v).get i = v := by
  rw [Params.get_eq_values, Params.values_set, storedValue_of_inRange h]
  exact Vector.getElem_set_self i.isLt

theorem Params.get_set_other (q : Params) {i j : Fin 18} (v : Nat) (h : j ≠ i) :
    (q.set i v).get j = q.get j := by
  rw [Params.get_eq_values, Params.get_eq_values, Params.values_set]
  exact Vector.getElem_set_ne i.isLt j.isLt (Fin.val_ne_of_ne h.symm)

/-- R168, R172: a parameter is read as its value in bytes 0 to 3. -/
theorem parameterItem_of_lt {st : Stand} {i v : Nat} (h : st.params.get i = v) (hv : v < 2 ^ 32) :
    parameterItem st i = BitVec.ofNat 128 v := by
  have hmod : v % 256 ^ 4 = v := Nat.mod_eq_of_lt (by omega)
  simp only [parameterItem, h, pack, packNat, hmod, Nat.mul_zero, Nat.add_zero]

/-! ### The write of a parameter (R183) -/

section
variable {s : State} {r : Request} {k : StandId} (i : Fin 18) (p : Payload)

/-- R171: the selector of parameter i names an item of class 1. -/
theorem parameterSelector_fields :
    itemClass (BitVec.ofNat 16 (256 + i.val)) = 1 ∧ itemIndex (BitVec.ofNat 16 (256 + i.val)) = i.val :=
  ⟨itemClass_ofNat (c := 1) (by omega) (by omega), itemIndex_ofNat (c := 1) (by omega)⟩

theorem exec_writeStandParameter_of_taken (h : s.takesAt r k) :
    exec (.writeStandParameter r (BitVec.ofNat 16 (256 + i.val)) p) s =
      .next (s.answer r 2 (parameterAnswer (BitVec.ofNat 16 (256 + i.val)) p s k)) := by
  obtain ⟨hclass, hindex⟩ := parameterSelector_fields i
  have hwritable : writable 1 (BitVec.ofNat 16 (256 + i.val)) = true := by
    simp [writable, hclass, hindex, classSize]
  change Host.Outcome.next (s.serve r 2 _ _) = _
  rw [hwritable, State.serve_of_taken s r 2 _ k h]

theorem exec_writeStandParameter_of_locked (h : s.takesAt r k)
    (hst : (s.stand k).state.locksParams = true) :
    exec (.writeStandParameter r (BitVec.ofNat 16 (256 + i.val)) p) s = .next (s.replied r 2 .busy 0) := by
  rw [exec_writeStandParameter_of_taken i p h, parameterAnswer, if_pos hst, State.answer_refuse]

theorem exec_writeStandParameter_of_refused (h : s.takesAt r k)
    (hst : ¬ (s.stand k).state.locksParams = true)
    (hbad : ¬ (paramInRange i (Payload.bytes p 0 4) = true ∧
      (s.stand k).params.linkOk i (Payload.bytes p 0 4) = true)) :
    exec (.writeStandParameter r (BitVec.ofNat 16 (256 + i.val)) p) s =
      .next (s.replied r 2 .badValue 0) := by
  have hanswer : parameterAnswer (BitVec.ofNat 16 (256 + i.val)) p s k = refuse s .badValue := by
    rw [parameterAnswer, (parameterSelector_fields i).2, if_neg hst]
    split
    case isTrue => rfl
    case isFalse hrange =>
      exact if_pos (by simpa using fun hlink => hbad ⟨by simpa using hrange, hlink⟩)
  rw [exec_writeStandParameter_of_taken i p h, hanswer, State.answer_refuse]

theorem exec_writeStandParameter_of_accepted (h : s.takesAt r k)
    (hst : ¬ (s.stand k).state.locksParams = true)
    (hrange : paramInRange i (Payload.bytes p 0 4) = true)
    (hlink : (s.stand k).params.linkOk i (Payload.bytes p 0 4) = true) :
    exec (.writeStandParameter r (BitVec.ofNat 16 (256 + i.val)) p) s =
      .next ((s.setStand k { s.stand k with
          params := (s.stand k).params.set i (Payload.bytes p 0 4) }).replied r 2 .done
        (BitVec.ofNat 128 (Payload.bytes p 0 4))) := by
  obtain ⟨hclass, hindex⟩ := parameterSelector_fields i
  rw [exec_writeStandParameter_of_taken i p h, parameterAnswer, hindex, if_neg hst, if_neg (by simp [hrange]),
    if_neg (by simp [hlink])]
  refine congrArg _ (State.answer_wrote r 2 rfl rfl ?_)
  rw [hclass, hindex, State.item, State.stand_setStand_same]
  exact congrArg some (parameterItem_of_lt (Params.get_set_same _ hrange) (BitVec.isLt _))

end

/-- Settles O49, by whether the state locks the parameters, and else by the range and the relations. -/
theorem parameterWriteIsChecked : Obligations.ParameterWriteIsChecked := by
  intro s r k i p h hlinked ranges sel st v kept locked
  have htable (j : Fin 18) : paramRange j = ranges[j] := by fin_cases j <;> rfl
  have hrange : paramInRange i v = true ↔ ranges[i].1 ≤ v ∧ v ≤ ranges[i].2 := by
    rw [← htable, paramInRange_iff]
  have hkept : st.params.linkOk i v = true ↔ kept :=
    (Params.linkOk_iff_linked_set hlinked i v).trans (Params.linked_iff _)
  have hlocked : st.state.locksParams = true ↔ locked := st.state.locksParams_iff
  rw [← hlocked]
  refine ⟨exec_writeStandParameter_of_locked i p h, ?refused, ?accepted⟩
  case refused =>
    intro hfree hbad
    refine exec_writeStandParameter_of_refused i p h hfree fun hgood => ?_
    obtain ⟨⟨hlow, hhigh⟩, hkeeps⟩ := (and_congr hrange hkept).mp hgood
    rcases hbad with hbad | hbad | hbad
    · omega
    · omega
    · exact hbad hkeeps
  case accepted =>
    intro hfree hlow hhigh hkeeps
    have hin := hrange.mpr ⟨hlow, hhigh⟩
    exact ⟨exec_writeStandParameter_of_accepted i p h hfree hin (hkept.mpr hkeeps),
      Params.get_set_same _ hin, fun _ hj => Params.get_set_other _ v hj⟩

end Sys2Proof.Machine
end

section
/-!
SUPPORT. The moves of a stand: everything a command, or a part of one, can make of one stand, each with the
condition under which the model makes it. What a move keeps is proved move by move; what a command keeps of every
stand then follows from the moves it is made of.
-/
namespace Sys2Proof.Machine

/-! ### The moves -/

/-- What the standing promises about a plan look at: the state of its knife, and whether its confirm window is
open. -/
def FirePlan.phase (p : FirePlan) : KnifeState × Bool := (p.knifeState, p.windowEnd.isSome)

/-- Two stands that differ at most in fields no bound and no agreement of contexts looks at. -/
structure Stand.SameCore (st st' : Stand) : Prop where
  params : st'.params = st.params
  map : st'.map = st.map
  awaitsRelease : st'.awaitsRelease = st.awaitsRelease
  queue : st'.queue = st.queue
  state : st'.state = st.state
  runningArm : st'.runningArm = st.runningArm
  armA : st'.armA = st.armA
  armB : st'.armB = st.armB
  running : st'.running = st.running
  ready : st'.ready = st.ready
  kept : st'.kept = st.kept
  record : st'.record = st.record
  plan : st'.sched.plan.map FirePlan.phase = st.sched.plan.map FirePlan.phase

/-- An arm that keeps its bounds: its history (R36) and its spindle rate (R41). -/
structure ArmState.KeepsBounds (v v' : ArmState) : Prop where
  hist : v.spindle.hist.length ≤ 17 → v'.spindle.hist.length ≤ 17
  rate : v.rate ≤ 4095 → v'.rate ≤ 4095

/-- A move of stand k at command `cmd`, in a part with the given grade table. `agree` says whether groups and
stands are known to agree, so that a grant goes to a stand in MATCHED (R129, R133). -/
inductive Stand.Move (cmd : Instr) (agree : Prop) (grades : Vector Grade 16) (k : StandId) :
    Stand → Stand → Prop where
  | quiet {st st' : Stand} (h : st.SameCore st') : Move cmd agree grades k st st'
  | arm {st : Stand} (x : Arm) (v : ArmState) (h : (st.arm x).KeepsBounds v) :
    Move cmd agree grades k st (st.setArm x v)
  | anchor {st : Stand} (inc : Nat) : Move cmd agree grades k st (st.advanceAnchor inc)
  | accept {st : Stand} (d : Nat) :
    Move cmd agree grades k st { st with running := st.running.map (·.accept d grades) }
  | latch {st : Stand} (x : Angle) : Move cmd agree grades k st (st.latchTape x)
  | unmount {st : Stand} : Move cmd agree grades k st st.unmount
  | bind {st : Stand} (waits : Bool) : Move cmd agree grades k st (st.tryBind waits)
  | gauged {st : Stand} (dg : Nat) (h : st.state = .checking) :
    Move cmd agree grades k st (st.enterReady dg)
  | accel {st : Stand} (speed : Nat) (h : st.state = .ready) :
    Move cmd agree grades k st (st.enterAccel speed)
  | settled {st : Stand} (h : st.state = .settle) : Move cmd agree grades k st st.settleWork
  | matched {st : Stand} (h : st.state = .accel) :
    Move cmd agree grades k st { st with state := .matched, accelTimer := none }
  | outOfBand {st : Stand} (h : st.state.watched = true) :
    Move cmd agree grades k st
      { st with state := .accel, accelTimer := some 0, sched := { st.sched with prepared := none } }
  | settle {st : Stand} (h : st.state = .confirm) : Move cmd agree grades k st (st.enterSettle grades)
  | grant {st : Stand} (g : GrantRecord) (h : agree → st.state = .matched) :
    Move cmd agree grades k st { st with state := .firingPending, grant := some g }
  | fault {st : Stand} (kind : FaultKind) (c : Word) (sig : Option StaleSignal)
    (hoffline : st.state ≠ .offline) (hfault : st.state ≠ .fault) :
    Move cmd agree grades k st (st.enterFault kind c sig)
  | further {st : Stand} : Move cmd agree grades k st st.markFurther
  | fire {st : Stand} (speed : Nat) (i : Instant) (h : st.state = .firingPending) :
    Move cmd agree grades k st (st.issueFire speed i)
  | knife {st : Stand} (p : FirePlan) (m : Word) (h : st.state = .firingIssued)
    (hp : st.sched.plan = some p) : Move cmd agree grades k st (st.issueKnife p m)
  | clear {st : Stand} (waits : Bool) (h : st.state = .fault) (harm : st.needsArm = false) :
    Move cmd agree grades k st (st.clearFault waits)
  | clearNamed {st : Stand} (x : Arm) (waits : Bool) (h : st.state = .fault) (harm : st.needsArm = true) :
    Move cmd agree grades k st ((st.nameArm x grades).clearFault waits)
  | unwind {st : Stand} (h : st.state.watched = true) : Move cmd agree grades k st st.returnReady
  | edge {st : Stand} (h : cmd = .inhibitPinRelease k) :
    Move cmd agree grades k st { st with pinAsserted := false, awaitsRelease := false }
  | enqueue {st : Stand} (rec : ReelRecord) (hroom : st.occupancy < 6)
    (hcaliper : rec.caliperInRange = true) :
    Move cmd agree grades k st { st with queue := st.queue ++ [rec] }
  | dequeue {st : Stand} (p : ReelRecord → Bool) :
    Move cmd agree grades k st { st with queue := st.queue.eraseP p }
  | drop {st : Stand} (waits : Bool) (h : st.state = .checking ∨ st.state = .ready) :
    Move cmd agree grades k st (st.dropReady waits)
  | param {st : Stand} (i : Fin 18) (v : Nat) (hcmd : ∃ r sel p, cmd = .writeStandParameter r sel p)
    (hrange : paramInRange i v = true) (hlink : st.params.linkOk i v = true) :
    Move cmd agree grades k st { st with params := st.params.set i v }
  | map {st : Stand} (m : SlotMap) (hcmd : ∃ r sel p, cmd = .writeSlotMapEntry r sel p) :
    Move cmd agree grades k st { st with map := m }
  | online {st : Stand} (x : Arm) (mounted : Bool) (rec : Option ReelRecord)
    (hcmd : ∃ r sel p, cmd = .standOnline r sel p)
    (hcaliper : ∀ r, rec = some r → r.caliperInRange = true) :
    Move cmd agree grades k st (st.goOnline x mounted rec grades)
  | offline {st : Stand} (hcmd : ∃ r, cmd = .standOffline r) : Move cmd agree grades k st st.goOffline

/-! ### What the shared operations leave of a stand's configuration and arms -/

/-- Two stands with the parameters, the map and the release edge seen in common, and each arm within its bounds. -/
structure Stand.SameSetup (st st' : Stand) : Prop where
  params : st'.params = st.params
  map : st'.map = st.map
  awaitsRelease : st'.awaitsRelease = st.awaitsRelease
  arms : ∀ x, (st.arm x).KeepsBounds (st'.arm x)

theorem ArmState.KeepsBounds.refl (v : ArmState) : v.KeepsBounds v := ⟨id, id⟩

theorem Stand.SameSetup.of_arms {st st' : Stand} (hparams : st'.params = st.params) (hmap : st'.map = st.map)
    (hawaits : st'.awaitsRelease = st.awaitsRelease) (ha : st'.armA = st.armA) (hb : st'.armB = st.armB) :
    st.SameSetup st' :=
  ⟨hparams, hmap, hawaits, fun x => by
    cases x
    · exact (show st'.arm .a = st.arm .a from ha) ▸ .refl _
    · exact (show st'.arm .b = st.arm .b from hb) ▸ .refl _⟩

theorem Stand.SameSetup.refl (st : Stand) : st.SameSetup st := .of_arms rfl rfl rfl rfl rfl

theorem Stand.SameSetup.trans {st st' st'' : Stand} (h : st.SameSetup st') (h' : st'.SameSetup st'') :
    st.SameSetup st'' :=
  ⟨h'.params.trans h.params, h'.map.trans h.map, h'.awaitsRelease.trans h.awaitsRelease, fun x =>
    ⟨(h'.arms x).hist ∘ (h.arms x).hist, (h'.arms x).rate ∘ (h.arms x).rate⟩⟩

theorem Stand.SameSetup.after {st st' st'' : Stand} (h : st'.SameSetup st'') (hparams : st'.params = st.params)
    (hmap : st'.map = st.map) (hawaits : st'.awaitsRelease = st.awaitsRelease) (ha : st'.armA = st.armA)
    (hb : st'.armB = st.armB) : st.SameSetup st'' :=
  (Stand.SameSetup.of_arms hparams hmap hawaits ha hb).trans h

theorem Stand.SameCore.sameSetup {st st' : Stand} (h : st.SameCore st') : st.SameSetup st' :=
  .of_arms h.params h.map h.awaitsRelease h.armA h.armB

theorem Stand.setArm_sameSetup {st : Stand} (x : Arm) {v : ArmState} (h : (st.arm x).KeepsBounds v) :
    st.SameSetup (st.setArm x v) := by
  cases x <;> refine ⟨rfl, rfl, rfl, fun y => ?_⟩ <;> cases y
  · exact h
  · exact .refl _
  · exact .refl _
  · exact h

theorem Stand.returnToHead_sameSetup (st : Stand) : st.SameSetup st.returnToHead := by
  rw [Stand.returnToHead_frame]; exact .of_arms rfl rfl rfl rfl rfl

theorem Stand.bindHead_sameSetup (st : Stand) (waits : Bool) : st.SameSetup (st.bindHead waits) := by
  unfold Stand.bindHead; split <;> exact .of_arms rfl rfl rfl rfl rfl

theorem Stand.tryBind_sameSetup (st : Stand) (waits : Bool) : st.SameSetup (st.tryBind waits) := by
  unfold Stand.tryBind
  split
  · exact st.bindHead_sameSetup waits
  · exact .refl st

theorem Stand.markUnload_sameSetup (st : Stand) (x : Arm) : st.SameSetup (st.markUnload x) := by
  unfold Stand.markUnload
  split
  · exact Stand.setArm_sameSetup x ⟨id, id⟩
  · exact .refl st

theorem Stand.transfer_sameSetup (st : Stand) (grades : Vector Grade 16) : st.SameSetup (st.transfer grades) := by
  unfold Stand.transfer
  split
  · exact (st.markUnload_sameSetup st.runningArm).trans (.of_arms rfl rfl rfl rfl rfl)
  · exact .refl st

theorem Stand.nameArm_sameSetup (st : Stand) (x : Arm) (grades : Vector Grade 16) :
    st.SameSetup (st.nameArm x grades) := by
  unfold Stand.nameArm
  split
  · exact (st.markUnload_sameSetup st.readyArm).trans (.of_arms rfl rfl rfl rfl rfl)
  · exact (st.transfer_sameSetup grades).trans (.of_arms rfl rfl rfl rfl rfl)

theorem Stand.enterUnready_sameSetup (st : Stand) (waits : Bool) : st.SameSetup (st.enterUnready waits) := by
  unfold Stand.enterUnready
  split
  · exact st.bindHead_sameSetup waits
  · exact .of_arms rfl rfl rfl rfl rfl

theorem Stand.clearFault_sameSetup (st : Stand) (waits : Bool) : st.SameSetup (st.clearFault waits) := by
  have hdrop : st.SameSetup st.dropFault := .of_arms rfl rfl rfl rfl rfl
  refine hdrop.trans ?_
  unfold Stand.clearFault Stand.enterCleared
  split
  · split
    · exact (Stand.returnToHead_sameSetup _).trans (Stand.enterUnready_sameSetup _ waits)
    · split
      · exact .of_arms rfl rfl rfl rfl rfl
      · exact Stand.enterUnready_sameSetup _ waits
  · exact Stand.enterUnready_sameSetup _ waits

theorem Stand.enterFault_sameSetup (st : Stand) (kind : FaultKind) (c : Word) (sig : Option StaleSignal) :
    st.SameSetup (st.enterFault kind c sig) := by
  unfold Stand.enterFault
  dsimp only
  split
  · exact st.returnToHead_sameSetup.trans (.of_arms rfl rfl rfl rfl rfl)
  · exact .of_arms rfl rfl rfl rfl rfl

theorem Stand.markFurther_sameSetup (st : Stand) : st.SameSetup st.markFurther := by
  unfold Stand.markFurther; split <;> exact .of_arms rfl rfl rfl rfl rfl

theorem Stand.unmount_sameSetup (st : Stand) : st.SameSetup st.unmount := by
  have hreturn : st.SameSetup (Stand.returnToHead { st with mountPending := false }) :=
    (Stand.returnToHead_sameSetup _).after rfl rfl rfl rfl rfl
  unfold Stand.unmount
  dsimp only
  split
  · exact hreturn.trans (.of_arms rfl rfl rfl rfl rfl)
  · exact hreturn.trans (.of_arms rfl rfl rfl rfl rfl)
  · exact hreturn
  · exact .of_arms rfl rfl rfl rfl rfl

theorem Stand.settleWork_sameSetup (st : Stand) : st.SameSetup st.settleWork := by
  unfold Stand.settleWork
  split
  · exact (Stand.tryBind_sameSetup _ false).after rfl rfl rfl rfl rfl
  · exact .refl st

theorem Stand.returnReady_sameSetup (st : Stand) : st.SameSetup st.returnReady := by
  rcases st.returnReady_cases with ⟨-, h⟩ | ⟨-, h⟩
  · rw [h]; exact .of_arms rfl rfl rfl rfl rfl
  · have hreturn : st.SameSetup (Stand.returnToHead
        { st with braking := true, accelTimer := none, sched := st.sched.stopped, state := .ready }) :=
      (Stand.returnToHead_sameSetup _).after rfl rfl rfl rfl rfl
    rw [h]
    exact hreturn.trans (.of_arms rfl rfl rfl rfl rfl)

/-! ### What a move leaves of a stand's configuration and arms -/

section
variable {cmd : Instr} {agree : Prop} {grades : Vector Grade 16} {k : StandId} {st st' : Stand}

/-- Every move keeps parameters, map, the release edge seen and the arms' bounds, but those of a parameter write, a
map write, a release edge, a STAND-ONLINE and a STAND-OFFLINE. -/
theorem Stand.Move.setup (h : st.Move cmd agree grades k st') :
    st.SameSetup st' ∨
      (∃ (i : Fin 18) (v : Nat), (∃ r sel p, cmd = .writeStandParameter r sel p) ∧
        paramInRange i v = true ∧ st.params.linkOk i v = true ∧
        st' = { st with params := st.params.set i v }) ∨
      (∃ m, (∃ r sel p, cmd = .writeSlotMapEntry r sel p) ∧ st' = { st with map := m }) ∨
      (cmd = .inhibitPinRelease k ∧ st' = { st with pinAsserted := false, awaitsRelease := false }) ∨
      (∃ x mounted rec, (∃ r sel p, cmd = .standOnline r sel p) ∧
        st' = st.goOnline x mounted rec grades) ∨
      (∃ r, cmd = .standOffline r) ∧ st' = st.goOffline := by
  cases h with
  | quiet h => exact .inl h.sameSetup
  | arm x v h => exact .inl (Stand.setArm_sameSetup x h)
  | anchor => exact .inl (.of_arms rfl rfl rfl rfl rfl)
  | accept => exact .inl (.of_arms rfl rfl rfl rfl rfl)
  | latch => exact .inl (.of_arms rfl rfl rfl rfl rfl)
  | unmount => exact .inl st.unmount_sameSetup
  | bind waits => exact .inl (st.tryBind_sameSetup waits)
  | gauged => exact .inl (.of_arms rfl rfl rfl rfl rfl)
  | accel => exact .inl (.of_arms rfl rfl rfl rfl rfl)
  | settled => exact .inl st.settleWork_sameSetup
  | matched => exact .inl (.of_arms rfl rfl rfl rfl rfl)
  | outOfBand => exact .inl (.of_arms rfl rfl rfl rfl rfl)
  | settle => exact .inl ((st.transfer_sameSetup grades).trans (.of_arms rfl rfl rfl rfl rfl))
  | grant => exact .inl (.of_arms rfl rfl rfl rfl rfl)
  | fault kind c sig => exact .inl (st.enterFault_sameSetup kind c sig)
  | further => exact .inl st.markFurther_sameSetup
  | fire => exact .inl (.of_arms rfl rfl rfl rfl rfl)
  | knife => exact .inl (.of_arms rfl rfl rfl rfl rfl)
  | clear waits => exact .inl (st.clearFault_sameSetup waits)
  | clearNamed x waits => exact .inl ((st.nameArm_sameSetup x grades).trans (Stand.clearFault_sameSetup _ waits))
  | unwind => exact .inl st.returnReady_sameSetup
  | edge h => exact .inr (.inr (.inr (.inl ⟨h, rfl⟩)))
  | enqueue => exact .inl (.of_arms rfl rfl rfl rfl rfl)
  | dequeue => exact .inl (.of_arms rfl rfl rfl rfl rfl)
  | drop waits =>
    unfold Stand.dropReady
    exact .inl ((Stand.tryBind_sameSetup _ waits).after rfl rfl rfl rfl rfl)
  | param i v hcmd hrange hlink => exact .inr (.inl ⟨i, v, hcmd, hrange, hlink, rfl⟩)
  | map m hcmd => exact .inr (.inr (.inl ⟨m, hcmd, rfl⟩))
  | online x mounted rec hcmd => exact .inr (.inr (.inr (.inr (.inl ⟨x, mounted, rec, hcmd, rfl⟩))))
  | offline hcmd => exact .inr (.inr (.inr (.inr (.inr ⟨hcmd, rfl⟩))))

/-- R182: only a parameter write changes a parameter, to a value in its range that keeps the relations. -/
theorem Stand.Move.params_cases (h : st.Move cmd agree grades k st') :
    st'.params = st.params ∨
      ∃ (i : Fin 18) (v : Nat), (∃ r sel p, cmd = .writeStandParameter r sel p) ∧
        paramInRange i v = true ∧ st.params.linkOk i v = true ∧ st'.params = st.params.set i v := by
  rcases h.setup with h | ⟨i, v, hcmd, hrange, hlink, rfl⟩ | ⟨m, -, rfl⟩ | ⟨-, rfl⟩ | ⟨x, y, z, -, rfl⟩ |
    ⟨-, rfl⟩
  · exact .inl h.params
  · exact .inr ⟨i, v, hcmd, hrange, hlink, rfl⟩
  · exact .inl rfl
  · exact .inl rfl
  · exact .inl rfl
  · exact .inl st.returnToHead_sameSetup.params

/-- R22: only a map write changes a slot map. -/
theorem Stand.Move.map_cases (h : st.Move cmd agree grades k st') :
    st'.map = st.map ∨ ∃ r sel p, cmd = .writeSlotMapEntry r sel p := by
  rcases h.setup with h | ⟨i, v, -, -, -, rfl⟩ | ⟨m, hcmd, rfl⟩ | ⟨-, rfl⟩ | ⟨x, y, z, -, rfl⟩ | ⟨-, rfl⟩
  · exact .inl h.map
  · exact .inl rfl
  · exact .inr hcmd
  · exact .inl rfl
  · exact .inl rfl
  · exact .inl st.returnToHead_sameSetup.map

/-- R189: only a release edge, a STAND-ONLINE and a STAND-OFFLINE change what a stand knows of a release edge. -/
theorem Stand.Move.awaitsRelease_cases (h : st.Move cmd agree grades k st') :
    st'.awaitsRelease = st.awaitsRelease ∨ cmd = .inhibitPinRelease k ∨
      (∃ r sel p, cmd = .standOnline r sel p) ∨ ∃ r, cmd = .standOffline r := by
  rcases h.setup with h | ⟨i, v, -, -, -, rfl⟩ | ⟨m, -, rfl⟩ | ⟨hcmd, -⟩ | ⟨x, y, z, hcmd, -⟩ | ⟨hcmd, -⟩
  · exact .inl h.awaitsRelease
  · exact .inl rfl
  · exact .inl rfl
  · exact .inr (.inl hcmd)
  · exact .inr (.inr (.inl hcmd))
  · exact .inr (.inr (.inr hcmd))

/-- R36, R41: every move keeps the bounds of both arms. -/
theorem Stand.Move.arms (h : st.Move cmd agree grades k st') (x : Arm) : (st.arm x).KeepsBounds (st'.arm x) := by
  have hfresh (v v' : ArmState) (hhist : v'.spindle.hist = []) (hrate : v'.rate = 0) : v.KeepsBounds v' :=
    ⟨fun _ => by simp [hhist], fun _ => by simp [hrate]⟩
  rcases h.setup with h | ⟨i, v, -, -, -, rfl⟩ | ⟨m, -, rfl⟩ | ⟨-, rfl⟩ | ⟨y, mounted, rec, -, rfl⟩ | ⟨-, rfl⟩
  · exact h.arms x
  · cases x <;> exact .refl _
  · cases x <;> exact .refl _
  · cases x <;> exact .refl _
  · cases x <;> exact hfresh _ _ rfl rfl
  · cases x <;> exact hfresh _ _ rfl rfl

end

end Sys2Proof.Machine
end

section
/-!
SUPPORT. What each move of a stand keeps: its occupancy (R64), its calipers (R48), and the contexts, record and
plan of its state (R66, R67, R72, R149, R150).
-/
namespace Sys2Proof.Machine

/-! ### Occupancy (R64) -/

theorem Stand.occupancy_le {st st' : Stand} (hqueue : st'.queue.length ≤ st.queue.length)
    (hready : st'.holdsReturnable = true → st.holdsReturnable = true) : st'.occupancy ≤ st.occupancy := by
  unfold Stand.occupancy
  cases h' : st'.holdsReturnable with
  | false => exact hqueue.trans (Nat.le_add_right _ _)
  | true => simp [hready h', hqueue]

/-- Without a ready context a stand's occupancy is the length of its queue. -/
theorem Stand.occupancy_of_ready_none {st : Stand} (h : st.ready = none) : st.occupancy = st.queue.length := by
  simp [Stand.occupancy, Stand.holdsReturnable, h]

theorem Stand.queue_le_occupancy (st : Stand) : st.queue.length ≤ st.occupancy := Nat.le_add_right _ _

theorem Stand.holdsReturnable_congr {st st' : Stand}
    (h : st'.ready.map (·.spent) = st.ready.map (·.spent)) : st'.holdsReturnable = st.holdsReturnable := by
  unfold Stand.holdsReturnable
  cases hr : st.ready <;> cases hr' : st'.ready <;> simp_all

theorem Stand.occupancy_congr {st st' : Stand} (hqueue : st'.queue = st.queue)
    (hready : st'.ready.map (·.spent) = st.ready.map (·.spent)) : st'.occupancy = st.occupancy := by
  simp [Stand.occupancy, hqueue, Stand.holdsReturnable_congr hready]

theorem Stand.occupancy_of_map {st st' : Stand} (f : ReadyContext → ReadyContext) (hqueue : st'.queue = st.queue)
    (hready : st'.ready = st.ready.map f) (hspent : ∀ r, (f r).spent = r.spent) :
    st'.occupancy = st.occupancy :=
  Stand.occupancy_congr hqueue (by rw [hready]; cases st.ready <;> simp [hspent])

/-- R71: the bound record leaves the queue, so the occupancy does not grow. -/
theorem Stand.bindHead_occupancy_le (st : Stand) (waits : Bool) : (st.bindHead waits).occupancy ≤ st.occupancy := by
  unfold Stand.bindHead
  split
  · rename_i r rest hqueue
    simp [Stand.occupancy, Stand.holdsReturnable, hqueue]
  · exact le_rfl

theorem Stand.tryBind_occupancy_le (st : Stand) (waits : Bool) : (st.tryBind waits).occupancy ≤ st.occupancy := by
  unfold Stand.tryBind
  split
  · exact st.bindHead_occupancy_le waits
  · exact le_rfl

@[simp] theorem Stand.markUnload_queue (st : Stand) (x : Arm) : (st.markUnload x).queue = st.queue := by
  rw [Stand.markUnload_frame]

@[simp] theorem Stand.markUnload_ready (st : Stand) (x : Arm) : (st.markUnload x).ready = st.ready := by
  rw [Stand.markUnload_frame]

theorem Stand.transfer_queue (st : Stand) (grades : Vector Grade 16) : (st.transfer grades).queue = st.queue := by
  unfold Stand.transfer; split <;> simp

theorem Stand.transfer_ready (st : Stand) (grades : Vector Grade 16) : (st.transfer grades).ready = none := by
  unfold Stand.transfer
  split
  · rfl
  · assumption

theorem Stand.nameArm_queue (st : Stand) (x : Arm) (grades : Vector Grade 16) :
    (st.nameArm x grades).queue = st.queue := by
  unfold Stand.nameArm
  split
  · exact st.markUnload_queue _
  · exact st.transfer_queue grades

theorem Stand.nameArm_ready (st : Stand) (x : Arm) (grades : Vector Grade 16) :
    (st.nameArm x grades).ready = none := by
  unfold Stand.nameArm
  split
  · rfl
  · exact st.transfer_ready grades

theorem Stand.enterUnready_occupancy_le (st : Stand) (waits : Bool) :
    (st.enterUnready waits).occupancy ≤ st.occupancy := by
  unfold Stand.enterUnready
  split
  · exact st.bindHead_occupancy_le waits
  · exact le_rfl

theorem Stand.clearFault_occupancy_le (st : Stand) (waits : Bool) :
    (st.clearFault waits).occupancy ≤ st.occupancy := by
  have hdrop : st.dropFault.occupancy = st.occupancy := rfl
  rw [← hdrop]
  unfold Stand.clearFault Stand.enterCleared
  split
  · split
    · exact (Stand.enterUnready_occupancy_le _ waits).trans (Stand.returnToHead_occupancy _).le
    · split
      · exact le_rfl
      · exact Stand.enterUnready_occupancy_le _ waits
  · exact Stand.enterUnready_occupancy_le _ waits

theorem Stand.enterFault_occupancy (st : Stand) (kind : FaultKind) (c : Word) (sig : Option StaleSignal) :
    (st.enterFault kind c sig).occupancy = st.occupancy := by
  unfold Stand.enterFault
  dsimp only
  split
  · exact st.returnToHead_occupancy
  · rfl

theorem Stand.unmount_occupancy (st : Stand) : st.unmount.occupancy = st.occupancy := by
  have hreturn : (Stand.returnToHead { st with mountPending := false }).occupancy = st.occupancy :=
    Stand.returnToHead_occupancy _
  unfold Stand.unmount
  dsimp only
  split
  · exact hreturn
  · exact hreturn
  · exact hreturn
  · rfl

theorem Stand.returnReady_occupancy (st : Stand) : st.returnReady.occupancy = st.occupancy := by
  rcases st.returnReady_cases with ⟨-, h⟩ | ⟨-, h⟩
  · rw [h]; rfl
  · rw [h]; exact Stand.returnToHead_occupancy { st with
      braking := true, accelTimer := none, sched := st.sched.stopped, state := .ready }

theorem Stand.settleWork_occupancy_le (st : Stand) : st.settleWork.occupancy ≤ st.occupancy := by
  unfold Stand.settleWork
  split
  · exact Stand.tryBind_occupancy_le { st with state := .running, forced := false } false
  · exact le_rfl

theorem Stand.dropReady_occupancy_le (st : Stand) (waits : Bool) : (st.dropReady waits).occupancy ≤ st.occupancy :=
  (Stand.tryBind_occupancy_le _ waits).trans (Stand.occupancy_le le_rfl fun h => by cases h)

theorem Stand.latchTape_occupancy (st : Stand) (x : Angle) : (st.latchTape x).occupancy = st.occupancy :=
  Stand.occupancy_of_map (fun r => { r with tape := some x }) rfl rfl fun _ => rfl

theorem Stand.enterReady_occupancy (st : Stand) (dg : Nat) : (st.enterReady dg).occupancy = st.occupancy :=
  Stand.occupancy_of_map (fun r => { r with dNew := some dg }) rfl rfl fun _ => rfl

theorem Stand.enterAccel_occupancy (st : Stand) (speed : Nat) : (st.enterAccel speed).occupancy = st.occupancy :=
  Stand.occupancy_of_map (fun r => { r with tape := none }) rfl rfl fun _ => rfl

theorem Stand.goOffline_occupancy_le (st : Stand) : st.goOffline.occupancy ≤ st.occupancy := by
  rw [← st.returnToHead_occupancy]
  exact Stand.occupancy_le le_rfl fun h => by cases h

section
variable {cmd : Instr} {agree : Prop} {grades : Vector Grade 16} {k : StandId} {st st' : Stand}

/-- R64: no move takes the occupancy above 6. -/
theorem Stand.Move.occupancy_le (h : st.Move cmd agree grades k st') (hbound : st.occupancy ≤ 6) :
    st'.occupancy ≤ 6 := by
  suffices hle : st'.occupancy ≤ st.occupancy ∨ st.occupancy < 6 ∧ st'.occupancy ≤ st.occupancy + 1 by omega
  cases h with
  | quiet h => exact .inl (Stand.occupancy_congr h.queue (by rw [h.ready])).le
  | arm x v => exact .inl (Stand.occupancy_congr (by cases x <;> rfl) (by cases x <;> rfl)).le
  | anchor => exact .inl le_rfl
  | accept => exact .inl le_rfl
  | latch x => exact .inl (st.latchTape_occupancy x).le
  | unmount => exact .inl st.unmount_occupancy.le
  | bind waits => exact .inl (st.tryBind_occupancy_le waits)
  | gauged dg => exact .inl (st.enterReady_occupancy dg).le
  | accel speed => exact .inl (st.enterAccel_occupancy speed).le
  | settled => exact .inl st.settleWork_occupancy_le
  | matched => exact .inl le_rfl
  | outOfBand => exact .inl le_rfl
  | settle =>
    refine .inl (Stand.occupancy_le (congrArg List.length (st.transfer_queue grades)).le fun h => ?_)
    simp [Stand.holdsReturnable, Stand.enterSettle, Stand.transfer_ready] at h
  | grant => exact .inl le_rfl
  | fault kind c sig => exact .inl (st.enterFault_occupancy kind c sig).le
  | further => exact .inl (by unfold Stand.markFurther; split <;> exact le_rfl)
  | fire speed i =>
    refine .inl (Stand.occupancy_le le_rfl fun h => ?_)
    cases hr : st.ready <;> simp [Stand.holdsReturnable, Stand.issueFire, hr] at h
  | knife => exact .inl le_rfl
  | clear waits => exact .inl (st.clearFault_occupancy_le waits)
  | clearNamed x waits =>
    refine .inl ((Stand.clearFault_occupancy_le _ waits).trans ?_)
    refine Stand.occupancy_le (congrArg List.length (st.nameArm_queue x grades)).le fun h => ?_
    simp [Stand.holdsReturnable, Stand.nameArm_ready] at h
  | unwind => exact .inl st.returnReady_occupancy.le
  | edge => exact .inl le_rfl
  | enqueue rec hroom =>
    have hready : Stand.holdsReturnable { st with queue := st.queue ++ [rec] } = st.holdsReturnable := rfl
    refine .inr ⟨hroom, ?_⟩
    rw [Stand.occupancy, Stand.occupancy, hready, List.length_append, List.length_singleton]
    omega
  | dequeue p =>
    exact .inl (Stand.occupancy_le (st' := { st with queue := st.queue.eraseP p })
      List.eraseP_sublist.length_le id)
  | drop waits => exact .inl (st.dropReady_occupancy_le waits)
  | param => exact .inl le_rfl
  | map => exact .inl le_rfl
  | online x mounted rec => exact .inl (Stand.occupancy_le le_rfl fun h => by cases h)
  | offline => exact .inl st.goOffline_occupancy_le

end

/-! ### Calipers (R48) -/

/-- The reel records of a stand: those of its queue and that of its ready context. -/
def Stand.records (st : Stand) : List ReelRecord := st.queue ++ (st.ready.map (·.record)).toList

/-- The caliper of a running context lies in 20-225 (R48). -/
def RunningContext.caliperInRange (r : RunningContext) : Prop := 20 ≤ r.caliper ∧ r.caliper ≤ 225

theorem Stand.calipersInRange_iff (st : Stand) :
    st.calipersInRange = true ↔
      (∀ r ∈ st.records, r.caliperInRange = true) ∧ ∀ c, st.running = some c → c.caliperInRange := by
  unfold Stand.calipersInRange Stand.records RunningContext.caliperInRange
  cases st.ready <;> cases st.running <;> simp [or_imp, forall_and]

/-- A stand that holds no other records than another, and runs a reel of the same caliper. -/
def Stand.CalipersWithin (st st' : Stand) : Prop :=
  st'.records ⊆ st.records ∧ st'.running.map (·.caliper) = st.running.map (·.caliper)

theorem Stand.CalipersWithin.trans {st st' st'' : Stand} (h : st.CalipersWithin st')
    (h' : st'.CalipersWithin st'') : st.CalipersWithin st'' :=
  ⟨fun _ hr => h.1 (h'.1 hr), h'.2.trans h.2⟩

theorem Stand.CalipersWithin.of_same {st st' : Stand} (hqueue : st'.queue = st.queue)
    (hready : st'.ready.map (·.record) = st.ready.map (·.record))
    (hrunning : st'.running.map (·.caliper) = st.running.map (·.caliper)) : st.CalipersWithin st' :=
  ⟨by simp [Stand.records, hqueue, hready], hrunning⟩

theorem Stand.CalipersWithin.refl (st : Stand) : st.CalipersWithin st := .of_same rfl rfl rfl

/-- A stand whose ready context is gone, with a queue within the old one. -/
theorem Stand.CalipersWithin.of_ready_none {st st' : Stand} (hqueue : st'.queue ⊆ st.queue)
    (hready : st'.ready = none) (hrunning : st'.running.map (·.caliper) = st.running.map (·.caliper)) :
    st.CalipersWithin st' :=
  ⟨fun r hr => by
    simp only [Stand.records, hready, Option.map_none, Option.toList_none, List.append_nil] at hr
    exact List.mem_append_left _ (hqueue hr), hrunning⟩

theorem Stand.CalipersWithin.calipersInRange {st st' : Stand} (h : st.CalipersWithin st')
    (hst : st.calipersInRange = true) : st'.calipersInRange = true := by
  rw [Stand.calipersInRange_iff] at hst ⊢
  refine ⟨fun r hr => hst.1 r (h.1 hr), fun c hc => ?_⟩
  have hrunning := h.2
  rw [hc, Option.map_some, eq_comm, Option.map_eq_some_iff] at hrunning
  obtain ⟨c', hc', heq⟩ := hrunning
  unfold RunningContext.caliperInRange
  exact heq ▸ hst.2 c' hc'

theorem Stand.returnToHead_calipers (st : Stand) : st.CalipersWithin st.returnToHead := by
  unfold Stand.returnToHead
  split
  case h_1 r hr =>
    split
    · exact .refl st
    · exact ⟨by simp [Stand.records, hr], rfl⟩
  case h_2 => exact .refl st

theorem Stand.bindHead_calipers (st : Stand) (waits : Bool) : st.CalipersWithin (st.bindHead waits) := by
  unfold Stand.bindHead
  split
  case h_1 r rest hq => exact ⟨by simp [Stand.records, hq], rfl⟩
  case h_2 => exact .refl st

theorem Stand.tryBind_calipers (st : Stand) (waits : Bool) : st.CalipersWithin (st.tryBind waits) := by
  unfold Stand.tryBind
  split
  · exact st.bindHead_calipers waits
  · exact .refl st

theorem Stand.enterUnready_calipers (st : Stand) (waits : Bool) : st.CalipersWithin (st.enterUnready waits) := by
  unfold Stand.enterUnready
  split
  · exact st.bindHead_calipers waits
  · exact .of_same rfl rfl rfl

theorem Stand.clearFault_calipers (st : Stand) (waits : Bool) : st.CalipersWithin (st.clearFault waits) := by
  have hdrop : st.CalipersWithin st.dropFault :=
    .of_same rfl rfl (by cases hr : st.running <;> simp [Stand.dropFault, hr])
  refine hdrop.trans ?_
  unfold Stand.clearFault Stand.enterCleared
  split
  · split
    · exact (Stand.returnToHead_calipers _).trans (Stand.enterUnready_calipers _ waits)
    · split
      · exact .of_same rfl rfl rfl
      · exact Stand.enterUnready_calipers _ waits
  · exact Stand.enterUnready_calipers _ waits

theorem Stand.enterFault_calipers (st : Stand) (kind : FaultKind) (c : Word) (sig : Option StaleSignal) :
    st.CalipersWithin (st.enterFault kind c sig) := by
  unfold Stand.enterFault
  dsimp only
  split
  · exact st.returnToHead_calipers.trans (.of_same rfl rfl rfl)
  · exact .of_same rfl rfl rfl

theorem Stand.unmount_calipers (st : Stand) : st.CalipersWithin st.unmount := by
  have hreturn : st.CalipersWithin (Stand.returnToHead { st with mountPending := false }) :=
    Stand.returnToHead_calipers { st with mountPending := false }
  unfold Stand.unmount
  dsimp only
  split
  · exact hreturn.trans (.of_same rfl rfl rfl)
  · exact hreturn.trans (.of_same rfl rfl rfl)
  · exact hreturn
  · exact .of_same rfl rfl rfl

theorem Stand.returnReady_calipers (st : Stand) : st.CalipersWithin st.returnReady := by
  rcases st.returnReady_cases with ⟨-, h⟩ | ⟨-, h⟩
  · rw [h]; exact .of_same rfl rfl rfl
  · have hreturn : st.CalipersWithin (Stand.returnToHead
        { st with braking := true, accelTimer := none, sched := st.sched.stopped, state := .ready }) :=
      Stand.returnToHead_calipers
        { st with braking := true, accelTimer := none, sched := st.sched.stopped, state := .ready }
    rw [h]
    exact hreturn.trans (.of_same rfl rfl rfl)

theorem Stand.dropReady_calipers (st : Stand) (waits : Bool) : st.CalipersWithin (st.dropReady waits) := by
  unfold Stand.dropReady
  dsimp only
  refine Stand.CalipersWithin.trans ?_ (Stand.tryBind_calipers _ waits)
  exact .of_ready_none (List.Subset.refl _) rfl rfl

/-- R48, R186: the caliper of a record, or of its grade, may come into use. -/
theorem caliperFrom_inRange {r : ReelRecord} {grades : Vector Grade 16} (hr : r.caliperInRange = true)
    (hgrades : ∀ i : Fin 16, grades[i].inRange = true) :
    40 ≤ r.caliperFrom grades ∧ r.caliperFrom grades ≤ 150 := by
  have hgrade := hgrades r.grade
  unfold ReelRecord.caliperInRange at hr
  unfold ReelRecord.caliperFrom
  simp only [Grade.inRange, Bool.and_eq_true, decide_eq_true_eq] at hgrade
  cases h : r.caliper with
  | none => exact ⟨hgrade.1.1, hgrade.1.2⟩
  | some t => simpa [h] using hr

/-- R51: a caliper that is learned lies within its grade's band. -/
theorem learnedCaliper_inRange {a : Anchor} {d old : Nat} {grade : Grade} (hgrade : grade.inRange = true)
    (hold : 20 ≤ old ∧ old ≤ 225) :
    20 ≤ learnedCaliper a d grade old ∧ learnedCaliper a d grade old ≤ 225 := by
  simp only [Grade.inRange, Bool.and_eq_true, decide_eq_true_eq] at hgrade
  obtain ⟨⟨hlow, hhigh⟩, hband⟩ := hgrade
  unfold learnedCaliper
  dsimp only
  split
  · exact hold
  · split
    case isTrue h =>
      have hdiff : absDiff (roundDiv (ringArea a.diameter d) (10 * a.travel)) grade.caliper * 2 ≤
          grade.caliper := by
        have hle := h.trans (Nat.mul_le_mul_right grade.caliper hband)
        omega
      unfold absDiff at hdiff
      omega
    case isFalse => exact hold

theorem RunningContext.accept_caliperInRange {r : RunningContext} (d : Nat) {grades : Vector Grade 16}
    (hgrades : ∀ i : Fin 16, grades[i].inRange = true) (hr : r.caliperInRange) :
    (r.accept d grades).caliperInRange := by
  unfold RunningContext.accept
  split
  · exact hr
  · split
    · exact learnedCaliper_inRange (hgrades r.grade) hr
    · exact hr

/-- R75: the transfer runs the reel of the ready context, with a caliper in range. -/
theorem Stand.transfer_calipersInRange {st : Stand} {grades : Vector Grade 16}
    (hgrades : ∀ i : Fin 16, grades[i].inRange = true) (hst : st.calipersInRange = true) :
    (st.transfer grades).calipersInRange = true := by
  unfold Stand.transfer
  split
  case h_1 r hr =>
    rw [Stand.calipersInRange_iff] at hst ⊢
    obtain ⟨hrecords, -⟩ := hst
    refine ⟨fun q hq => hrecords q ?_, fun c hc => ?_⟩
    · have hq' : q ∈ st.queue := by simpa [Stand.records] using hq
      exact List.mem_append_left _ hq'
    · cases hc
      have hcaliper := caliperFrom_inRange (hrecords r.record (by simp [Stand.records, hr])) hgrades
      exact ⟨(by decide : 20 ≤ 40).trans hcaliper.1, hcaliper.2.trans (by decide)⟩
  case h_2 => exact hst

theorem Stand.nameArm_calipersInRange {st : Stand} (x : Arm) {grades : Vector Grade 16}
    (hgrades : ∀ i : Fin 16, grades[i].inRange = true) (hst : st.calipersInRange = true) :
    (st.nameArm x grades).calipersInRange = true := by
  unfold Stand.nameArm
  split
  · refine Stand.CalipersWithin.calipersInRange (.of_ready_none ?_ rfl ?_) hst
    · exact fun r hr => st.markUnload_queue st.readyArm ▸ hr
    · rw [Stand.keepRoles, Stand.discardReady, Stand.markUnload_frame]
  · exact Stand.CalipersWithin.calipersInRange (.of_same rfl rfl rfl) (Stand.transfer_calipersInRange hgrades hst)

/-- R66: the running context of a STAND-ONLINE has a caliper in range. -/
theorem onlineContext_caliperInRange {rec : Option ReelRecord} (q : Params) {grades : Vector Grade 16}
    (hgrades : ∀ i : Fin 16, grades[i].inRange = true) (hrec : ∀ r, rec = some r → r.caliperInRange = true) :
    (onlineContext rec q grades).caliperInRange := by
  unfold onlineContext
  split
  case h_1 r =>
    have hcaliper := caliperFrom_inRange (hrec r rfl) hgrades
    exact ⟨by dsimp only; omega, hcaliper.2.trans (by decide)⟩
  case h_2 =>
    have hgrade := hgrades q.defaultGrade
    simp only [Grade.inRange, Bool.and_eq_true, decide_eq_true_eq] at hgrade
    exact ⟨by dsimp only; omega, hgrade.1.2.trans (by decide)⟩

section
variable {cmd : Instr} {agree : Prop} {grades : Vector Grade 16} {k : StandId} {st st' : Stand}

/-- R48: every move keeps the calipers of the stand in their ranges, with a grade table in its ranges. -/
theorem Stand.Move.calipersInRange (h : st.Move cmd agree grades k st')
    (hgrades : ∀ i : Fin 16, grades[i].inRange = true) (hst : st.calipersInRange = true) :
    st'.calipersInRange = true := by
  have hready {st'' : Stand} (f : ReadyContext → ReadyContext) (hq : st''.queue = st.queue)
      (hr : st''.ready = st.ready.map f) (hrun : st''.running = st.running) (hf : ∀ r, (f r).record = r.record) :
      st''.calipersInRange = true :=
    Stand.CalipersWithin.calipersInRange
      (.of_same hq (by rw [hr]; cases st.ready <;> simp [hf]) (by rw [hrun])) hst
  cases h with
  | quiet h => exact Stand.CalipersWithin.calipersInRange (.of_same h.queue (by rw [h.ready]) (by rw [h.running])) hst
  | arm x v => cases x <;> exact hst
  | anchor inc =>
    have hcaliper : (st.advanceAnchor inc).running.map (·.caliper) = st.running.map (·.caliper) := by
      unfold Stand.advanceAnchor
      cases st.running <;> rfl
    exact Stand.CalipersWithin.calipersInRange (st := st) (.of_same rfl rfl hcaliper) hst
  | accept d =>
    rw [Stand.calipersInRange_iff] at hst ⊢
    refine ⟨hst.1, fun c hc => ?_⟩
    obtain ⟨c', hc', rfl⟩ := Option.map_eq_some_iff.mp hc
    exact RunningContext.accept_caliperInRange d hgrades (hst.2 c' hc')
  | latch x => exact hready (fun r => { r with tape := some x }) rfl rfl rfl fun _ => rfl
  | unmount => exact st.unmount_calipers.calipersInRange hst
  | bind waits => exact (st.tryBind_calipers waits).calipersInRange hst
  | gauged dg => exact hready (fun r => { r with dNew := some dg }) rfl rfl rfl fun _ => rfl
  | accel => exact hready (fun r => { r with tape := none }) rfl rfl rfl fun _ => rfl
  | settled =>
    unfold Stand.settleWork
    split
    · exact (Stand.tryBind_calipers { st with state := .running, forced := false } false).calipersInRange hst
    · exact hst
  | matched => exact hst
  | outOfBand => exact hst
  | settle => exact Stand.transfer_calipersInRange hgrades hst
  | grant => exact hst
  | fault kind c sig => exact (st.enterFault_calipers kind c sig).calipersInRange hst
  | further => unfold Stand.markFurther; split <;> exact hst
  | fire => exact hready (fun r => { r with spent := true }) rfl rfl rfl fun _ => rfl
  | knife => exact hst
  | clear waits => exact (st.clearFault_calipers waits).calipersInRange hst
  | clearNamed x waits =>
    exact (Stand.clearFault_calipers _ waits).calipersInRange (Stand.nameArm_calipersInRange x hgrades hst)
  | unwind => exact st.returnReady_calipers.calipersInRange hst
  | edge => exact hst
  | enqueue rec hroom hcaliper =>
    rw [Stand.calipersInRange_iff] at hst ⊢
    obtain ⟨hrecords, hrunning⟩ := hst
    refine ⟨fun r hr => ?_, hrunning⟩
    rcases (by simpa [Stand.records, or_assoc] using hr) with hr | rfl | hr
    · exact hrecords r (by simp [Stand.records, hr])
    · exact hcaliper
    · exact hrecords r (by simpa [Stand.records] using .inr hr)
  | dequeue p =>
    rw [Stand.calipersInRange_iff] at hst ⊢
    obtain ⟨hrecords, hrunning⟩ := hst
    refine ⟨fun r hr => ?_, hrunning⟩
    rcases List.mem_append.mp hr with hr | hr
    · exact hrecords r (List.mem_append_left _ (List.mem_of_mem_eraseP hr))
    · exact hrecords r (List.mem_append_right _ hr)
  | drop waits => exact (st.dropReady_calipers waits).calipersInRange hst
  | param => exact hst
  | map => exact hst
  | online x mounted rec hcmd hcaliper =>
    rw [Stand.calipersInRange_iff] at hst ⊢
    refine ⟨fun r hr => hst.1 r (List.mem_append_left _ (by simpa [Stand.records, Stand.goOnline,
      Stand.afterReset] using hr)), fun c hc => ?_⟩
    cases hc
    exact onlineContext_caliperInRange st.params hgrades hcaliper
  | offline =>
    have hreturned := st.returnToHead_calipers.calipersInRange hst
    rw [Stand.calipersInRange_iff] at hreturned ⊢
    exact ⟨fun r hr => hreturned.1 r (List.mem_append_left _ (by simpa [Stand.records, Stand.goOffline,
      Stand.outOfService, Stand.afterReset] using hr)), fun c hc => by cases hc⟩

end

end Sys2Proof.Machine
end

section
/-!
SUPPORT. What each move keeps of the contexts, the record and the plan a stand holds in its state (R66, R67, R72,
R149, R150).
-/
namespace Sys2Proof.Machine

/-! ### Contexts that agree -/

theorem Stand.planIs_congr {st st' : Stand} (hkept : st'.kept.isSome = st.kept.isSome)
    (hplan : st'.sched.plan.map FirePlan.phase = st.sched.plan.map FirePlan.phase) (knife : KnifeState) :
    st'.planIs knife = st.planIs knife := by
  unfold Stand.planIs
  cases h : st.sched.plan <;> cases h' : st'.sched.plan <;> simp_all [FirePlan.phase]

theorem Stand.contextsAgree_congr {st st' : Stand} (hstate : st'.state = st.state)
    (hrunning : st'.running.isSome = st.running.isSome)
    (hready : ∀ gauged spent, st'.readyIs gauged spent = st.readyIs gauged spent)
    (hnone : st'.ready.isNone = st.ready.isNone)
    (hrecord : st'.record.map (·.stateAt) = st.record.map (·.stateAt))
    (hplan : ∀ knife, st'.planIs knife = st.planIs knife) : st'.contextsAgree = st.contextsAgree := by
  have hr : st'.running.isNone = st.running.isNone := by
    rw [← Option.not_isSome, ← Option.not_isSome, hrunning]
  have hrec : st'.record.isNone = st.record.isNone := by
    rw [← Option.isNone_map (f := (·.stateAt)), hrecord, Option.isNone_map]
  unfold Stand.contextsAgree
  rw [hstate]
  cases st.state <;> simp only [hrunning, hready, hnone, hplan, hr, hrec]
  cases h : st.record <;> cases h' : st'.record <;> simp_all

/-- A stand that shares state, contexts, record and plan with another. -/
theorem Stand.contextsAgree_of_same {st st' : Stand} (hstate : st'.state = st.state)
    (hrunning : st'.running.isSome = st.running.isSome) (hready : st'.ready = st.ready)
    (harm : st'.runningArm = st.runningArm) (hrecord : st'.record = st.record) (hkept : st'.kept = st.kept)
    (hplan : st'.sched.plan.map FirePlan.phase = st.sched.plan.map FirePlan.phase) :
    st'.contextsAgree = st.contextsAgree :=
  Stand.contextsAgree_congr hstate hrunning
    (fun _ _ => by simp only [Stand.readyIs, Stand.readyArm, hready, harm]) (by rw [hready]) (by rw [hrecord])
    (Stand.planIs_congr (by rw [hkept]) hplan)

/-- A change of the ready context that leaves its arm, its gauging and its tape shows in none of these. -/
theorem Stand.readyIs_map {st st' : Stand} (f : ReadyContext → ReadyContext)
    (hf : ∀ r x gauged spent, (f r).isOn x gauged spent = r.isOn x gauged spent)
    (hready : st'.ready = st.ready.map f) (harm : st'.runningArm = st.runningArm) (gauged spent : Bool) :
    st'.readyIs gauged spent = st.readyIs gauged spent := by
  unfold Stand.readyIs
  rw [hready, show st'.readyArm = st.readyArm by simp only [Stand.readyArm, harm]]
  cases st.ready <;> simp [hf]

theorem Stand.ready_of_readyIs {st : Stand} {gauged spent : Bool} (h : st.readyIs gauged spent = true) :
    ∃ r, st.ready = some r ∧ r.arm = st.readyArm ∧ r.dNew.isSome = gauged ∧ r.spent = spent := by
  unfold Stand.readyIs ReadyContext.isOn at h
  split at h
  case h_1 r hr => exact ⟨r, hr, by simpa [and_assoc] using h⟩
  case h_2 => cases h

/-- R72: with no ready context, or one whose tape is not spent, none is left after the return to the head. -/
theorem Stand.returnToHead_ready {st : Stand} (h : ∀ r, st.ready = some r → r.spent = false) :
    st.returnToHead.ready = none := by
  unfold Stand.returnToHead
  split
  case h_1 r hr => simp [h r hr]
  case h_2 hr => exact hr

theorem Stand.unspent_of_readyIs {st : Stand} {gauged : Bool} (h : st.readyIs gauged false = true)
    (r : ReadyContext) (hr : st.ready = some r) : r.spent = false := by
  obtain ⟨r', hr', -, -, hspent⟩ := Stand.ready_of_readyIs h
  rw [hr] at hr'
  cases hr'
  exact hspent

/-! ### Stands with a running context and no record -/

/-- What every state in service but FAULT shares: a running context and no fault record. -/
def Stand.isServing (st : Stand) : Bool := st.running.isSome && st.record.isNone

theorem Stand.contextsAgree_running {st : Stand} (hstate : st.state = .running) :
    st.contextsAgree = true ↔ st.isServing = true ∧ st.ready = none := by
  simp [Stand.contextsAgree, Stand.isServing, hstate]
  tauto

theorem Stand.contextsAgree_checking {st : Stand} (hstate : st.state = .checking) :
    st.contextsAgree = true ↔ st.isServing = true ∧ st.readyIs false false = true := by
  simp [Stand.contextsAgree, Stand.isServing, hstate]
  tauto

theorem Stand.contextsAgree_settle {st : Stand} (hstate : st.state = .settle) :
    st.contextsAgree = true ↔ st.isServing = true ∧ st.ready = none := by
  simp [Stand.contextsAgree, Stand.isServing, hstate]
  tauto

/-- READY and the watched states hold the same contexts. -/
theorem Stand.contextsAgree_gauged {st : Stand} (hstate : st.state = .ready ∨ st.state.watched = true) :
    st.contextsAgree = true ↔ st.isServing = true ∧ st.readyIs true false = true := by
  have : st.contextsAgree = (st.running.isSome && st.readyIs true false && st.record.isNone) := by
    unfold Stand.contextsAgree
    cases h : st.state <;> simp_all [StandState.watched]
  rw [this]
  simp [Stand.isServing]
  tauto

theorem Stand.contextsAgree_issued {st : Stand} (hstate : st.state = .firingIssued) :
    st.contextsAgree = true ↔ st.isServing = true ∧ st.readyIs true true = true ∧ st.planIs .planned = true := by
  simp [Stand.contextsAgree, Stand.isServing, hstate]
  tauto

theorem Stand.contextsAgree_confirm {st : Stand} (hstate : st.state = .confirm) :
    st.contextsAgree = true ↔ st.isServing = true ∧ st.readyIs true true = true ∧ st.planIs .issued = true := by
  simp [Stand.contextsAgree, Stand.isServing, hstate]
  tauto

theorem Stand.contextsAgree_fault {st : Stand} (hstate : st.state = .fault) :
    st.contextsAgree = true ↔ st.running.isSome = true ∧ ∃ r, st.record = some r ∧
      if r.stateAt.afterFire then st.readyIs true true = true else st.ready = none ∨ st.readyIs true false = true := by
  unfold Stand.contextsAgree
  rw [hstate]
  cases st.record with
  | none => simp
  | some r => cases h : r.stateAt.afterFire <;> simp

theorem Stand.isServing_of_contextsAgree {st : Stand} (hst : st.contextsAgree = true)
    (hoffline : st.state ≠ .offline) (hfault : st.state ≠ .fault) : st.isServing = true := by
  unfold Stand.contextsAgree at hst
  unfold Stand.isServing
  cases hstate : st.state <;> simp_all

/-- In a state a fault before the fire is taken from, the ready context is absent or unspent; but in CHECKING it is
not gauged. -/
theorem Stand.ready_before_fire {st : Stand} (hst : st.contextsAgree = true) (hoffline : st.state ≠ .offline)
    (hfault : st.state ≠ .fault) (hfire : st.state.afterFire = false) :
    st.ready = none ∨ st.readyIs (st.state != .checking) false = true := by
  unfold Stand.contextsAgree at hst
  have hchecking : (StandState.checking != .checking) = false := rfl
  cases hstate : st.state <;> simp_all [StandState.afterFire] <;> exact .inr hst.1.2

theorem Stand.ready_after_fire {st : Stand} (hst : st.contextsAgree = true) (hfire : st.state.afterFire = true) :
    st.readyIs true true = true := by
  unfold Stand.contextsAgree at hst
  cases hstate : st.state <;> simp_all [StandState.afterFire]

/-! ### What the shared operations make of the contexts -/

theorem Stand.bindHead_contextsAgree {st : Stand} (waits : Bool) (hserving : st.isServing = true)
    (hempty : st.queue ≠ []) : (st.bindHead waits).contextsAgree = true := by
  unfold Stand.bindHead
  split
  case h_1 r rest _ =>
    rw [Stand.contextsAgree_checking rfl]
    exact ⟨hserving, by simp [Stand.readyIs, ReadyContext.isOn, Stand.readyArm]⟩
  case h_2 h => exact absurd h hempty

theorem Stand.tryBind_contextsAgree {st : Stand} (waits : Bool) (hst : st.contextsAgree = true) :
    (st.tryBind waits).contextsAgree = true := by
  unfold Stand.tryBind
  split
  case isTrue h =>
    simp only [Stand.canBind, Bool.and_eq_true, beq_iff_eq, Bool.not_eq_true', List.isEmpty_eq_false_iff] at h
    obtain ⟨⟨⟨hstate, -⟩, -⟩, hqueue⟩ := h
    exact Stand.bindHead_contextsAgree waits ((Stand.contextsAgree_running hstate).mp hst).1 hqueue
  case isFalse => exact hst

/-- R153, items 3 and 4: without a ready context. -/
theorem Stand.enterUnready_contextsAgree {st : Stand} (waits : Bool) (hserving : st.isServing = true)
    (hready : st.ready = none) : (st.enterUnready waits).contextsAgree = true := by
  unfold Stand.enterUnready
  split
  case isTrue h =>
    simp only [Bool.and_eq_true, Bool.not_eq_true', List.isEmpty_eq_false_iff] at h
    obtain ⟨⟨-, hqueue⟩, -⟩ := h
    exact Stand.bindHead_contextsAgree waits hserving hqueue
  case isFalse =>
    rw [Stand.contextsAgree_running rfl]
    exact ⟨hserving, hready⟩

theorem Stand.isServing_returnToHead (st : Stand) : st.returnToHead.isServing = st.isServing := by
  rw [Stand.returnToHead_frame]; rfl

/-- R153: a clear of a stand without a tape-spent context. -/
theorem Stand.clearFault_contextsAgree {st : Stand} (waits : Bool) (hrunning : st.running.isSome = true)
    (hready : st.ready = none ∨ st.readyIs true false = true) : (st.clearFault waits).contextsAgree = true := by
  have hserving : st.dropFault.isServing = true := by simp [Stand.isServing, Stand.dropFault, hrunning]
  have hsame : st.dropFault.ready = st.ready := rfl
  unfold Stand.clearFault Stand.enterCleared
  split
  case h_1 r hr =>
    rw [hsame] at hr
    obtain ⟨r', hr', harm, hgauged, hspent⟩ :=
      Stand.ready_of_readyIs (hready.resolve_left (by rw [hr]; simp))
    rw [hr, Option.some.injEq] at hr'
    subst hr'
    simp only [hspent, hgauged, Bool.not_false, Bool.true_and, Bool.not_eq_true']
    split
    · refine Stand.enterUnready_contextsAgree waits (by rw [Stand.isServing_returnToHead]; exact hserving) ?_
      exact Stand.returnToHead_ready fun q hq => by rw [hsame, hr] at hq; cases hq; exact hspent
    case isFalse h =>
      rw [if_pos (by simpa using h), Stand.contextsAgree_gauged (.inl rfl)]
      exact ⟨hserving, hready.resolve_left (by rw [hr]; simp)⟩
  case h_2 hr => exact Stand.enterUnready_contextsAgree waits hserving hr

theorem Stand.transfer_running {st : Stand} (grades : Vector Grade 16) (h : st.running.isSome = true) :
    (st.transfer grades).running.isSome = true := by
  unfold Stand.transfer; split <;> simp [h]

theorem Stand.transfer_record (st : Stand) (grades : Vector Grade 16) :
    (st.transfer grades).record = st.record := by
  unfold Stand.transfer
  split
  · rw [Stand.markUnload_frame]
  · rfl

theorem Stand.nameArm_running {st : Stand} (x : Arm) (grades : Vector Grade 16) (h : st.running.isSome = true) :
    (st.nameArm x grades).running.isSome = true := by
  unfold Stand.nameArm
  split
  · rw [Stand.keepRoles, Stand.discardReady, Stand.markUnload_frame]
    exact h
  · exact Stand.transfer_running grades h

/-- R104: the contexts at entry to FAULT. -/
theorem Stand.enterFault_contextsAgree {st : Stand} (kind : FaultKind) (c : Word) (sig : Option StaleSignal)
    (hst : st.contextsAgree = true) (hoffline : st.state ≠ .offline) (hfault : st.state ≠ .fault) :
    (st.enterFault kind c sig).contextsAgree = true := by
  have hserving := Stand.isServing_of_contextsAgree hst hoffline hfault
  simp only [Stand.isServing, Bool.and_eq_true] at hserving
  have hstateAt : (st.newRecord kind c sig).stateAt = st.state := rfl
  unfold Stand.enterFault
  dsimp only
  rw [Stand.contextsAgree_fault rfl]
  dsimp only
  refine ⟨?_, _, rfl, ?_⟩
  · split
    · rw [Stand.returnToHead_frame]; exact hserving.1
    · exact hserving.1
  · rw [hstateAt]
    split
    case isTrue hfire =>
      have hchecking : st.state ≠ .checking := by rintro h; simp [h, StandState.afterFire] at hfire
      simp only [hchecking, if_false]
      have hready := Stand.ready_after_fire hst hfire
      exact hready
    case isFalse hfire =>
      have hbefore := Stand.ready_before_fire hst hoffline hfault (by simpa using hfire)
      split
      case isTrue hchecking =>
        rcases hbefore with hnone | his
        · exact .inl (Stand.returnToHead_ready fun r hr => by rw [hnone] at hr; cases hr)
        · exact .inl (Stand.returnToHead_ready (Stand.unspent_of_readyIs his))
      case isFalse hchecking =>
        rw [bne_iff_ne.mpr hchecking] at hbefore
        exact hbefore

/-- R72, R73: a stand in RUNNING after its ready context, if any, has returned to the head. -/
theorem Stand.returned_contextsAgree {st st' : Stand} (hserving : st.isServing = true)
    (hready : ∀ r, st.ready = some r → r.spent = false) (hstate : st'.state = .running)
    (hrunning : st'.running = st.running) (hrecord : st'.record = st.record)
    (hreturned : st'.ready = st.returnToHead.ready) : st'.contextsAgree = true := by
  rw [Stand.contextsAgree_running hstate]
  refine ⟨?_, hreturned.trans (Stand.returnToHead_ready hready)⟩
  rwa [Stand.isServing, hrunning, hrecord]

/-- R72, R73: the return of a context in FAULT. -/
theorem Stand.returnToHead_contextsAgree {st : Stand} (hst : st.contextsAgree = true) (hfault : st.state = .fault) :
    st.returnToHead.contextsAgree = true := by
  have hstate : st.returnToHead.state = .fault := by rw [Stand.returnToHead_frame]; exact hfault
  rw [Stand.contextsAgree_fault hfault] at hst
  obtain ⟨hrunning, r, hrecord, hready⟩ := hst
  rw [Stand.contextsAgree_fault hstate]
  refine ⟨by rw [Stand.returnToHead_frame]; exact hrunning, r, by rw [Stand.returnToHead_frame]; exact hrecord, ?_⟩
  split at hready
  case isTrue hfire =>
    obtain ⟨q, hq, -, -, hspent⟩ := Stand.ready_of_readyIs hready
    have hkept : st.returnToHead = st := by unfold Stand.returnToHead; simp [hq, hspent]
    rw [if_pos hfire, hkept]
    exact hready
  case isFalse hfire =>
    rw [if_neg hfire]
    refine .inl (Stand.returnToHead_ready fun q hq => ?_)
    rcases hready with hnone | his
    · rw [hnone] at hq; cases hq
    · exact Stand.unspent_of_readyIs his q hq

/-- R73: an unmount of the ready arm. -/
theorem Stand.unmount_contextsAgree {st : Stand} (hst : st.contextsAgree = true) :
    st.unmount.contextsAgree = true := by
  have hst1 : Stand.contextsAgree { st with mountPending := false } = true := hst
  unfold Stand.unmount
  dsimp only
  split
  case h_1 hstate =>
    rw [Stand.contextsAgree_checking hstate] at hst
    exact Stand.returned_contextsAgree (st := { st with mountPending := false }) hst.1
      (Stand.unspent_of_readyIs hst.2) rfl (by rw [Stand.returnToHead_frame]) (by rw [Stand.returnToHead_frame]) rfl
  case h_2 hstate =>
    rw [Stand.contextsAgree_gauged (.inl hstate)] at hst
    exact Stand.returned_contextsAgree (st := { st with mountPending := false }) hst.1
      (Stand.unspent_of_readyIs hst.2) rfl (by rw [Stand.returnToHead_frame]) (by rw [Stand.returnToHead_frame]) rfl
  case h_3 hstate => exact Stand.returnToHead_contextsAgree hst1 hstate
  case h_4 => exact hst1

/-- R99: the unwinding of a stand by inhibit. -/
theorem Stand.returnReady_contextsAgree {st : Stand} (hst : st.contextsAgree = true)
    (hwatched : st.state.watched = true) : st.returnReady.contextsAgree = true := by
  rw [Stand.contextsAgree_gauged (.inr hwatched)] at hst
  rcases st.returnReady_cases with ⟨-, h⟩ | ⟨-, h⟩ <;> rw [h]
  · rw [Stand.contextsAgree_gauged (.inl rfl)]
    exact hst
  · exact Stand.returned_contextsAgree
      (st := { st with braking := true, accelTimer := none, sched := st.sched.stopped, state := .ready }) hst.1
      (Stand.unspent_of_readyIs hst.2) rfl (by rw [Stand.returnToHead_frame]) (by rw [Stand.returnToHead_frame]) rfl

/-- R95: the stand that enters SETTLE. -/
theorem Stand.enterSettle_contextsAgree {st : Stand} (grades : Vector Grade 16) (hst : st.contextsAgree = true)
    (hconfirm : st.state = .confirm) : (st.enterSettle grades).contextsAgree = true := by
  rw [Stand.contextsAgree_confirm hconfirm] at hst
  have hserving := hst.1
  simp only [Stand.isServing, Bool.and_eq_true] at hserving
  rw [Stand.contextsAgree_settle rfl]
  refine ⟨?_, st.transfer_ready grades⟩
  have hrun : (st.enterSettle grades).running.isSome = true := st.transfer_running grades hserving.1
  have hrec : (st.enterSettle grades).record = st.record := st.transfer_record grades
  rw [Stand.isServing, hrun, hrec, hserving.2]
  rfl

/-- R86: the gauged ready context is unspent and on the ready arm. -/
theorem Stand.enterReady_contextsAgree {st : Stand} (dg : Nat) (hst : st.contextsAgree = true)
    (hchecking : st.state = .checking) : (st.enterReady dg).contextsAgree = true := by
  rw [Stand.contextsAgree_checking hchecking] at hst
  obtain ⟨hserving, his⟩ := hst
  obtain ⟨r, hr, harm, -, hspent⟩ := Stand.ready_of_readyIs his
  rw [Stand.contextsAgree_gauged (.inl rfl)]
  refine ⟨hserving, ?_⟩
  simp [Stand.readyIs, Stand.enterReady, Stand.measureReady, hr, ReadyContext.isOn, harm, hspent, Stand.readyArm]

/-- R93: the write of the fire spends the tape and forms the plan. -/
theorem Stand.issueFire_contextsAgree {st : Stand} (speed : Nat) (i : Instant) (hst : st.contextsAgree = true)
    (hpending : st.state = .firingPending) : (st.issueFire speed i).contextsAgree = true := by
  rw [Stand.contextsAgree_gauged (.inr (by rw [hpending]; rfl))] at hst
  obtain ⟨hserving, his⟩ := hst
  obtain ⟨r, hr, harm, hgauged, -⟩ := Stand.ready_of_readyIs his
  rw [Stand.contextsAgree_issued rfl]
  refine ⟨hserving, ?_, rfl⟩
  simp [Stand.readyIs, Stand.issueFire, hr, ReadyContext.isOn, harm, hgauged, Stand.readyArm]

/-- R121: the write of the knife. -/
theorem Stand.issueKnife_contextsAgree {st : Stand} (p : FirePlan) (m : Word) (hst : st.contextsAgree = true)
    (hissued : st.state = .firingIssued) : (st.issueKnife p m).contextsAgree = true := by
  rw [Stand.contextsAgree_issued hissued] at hst
  obtain ⟨hserving, his, hplan⟩ := hst
  rw [Stand.contextsAgree_confirm rfl]
  refine ⟨hserving, his, ?_⟩
  simp only [Stand.planIs, Bool.and_eq_true] at hplan
  simp [Stand.planIs, Stand.issueKnife, FirePlan.issueKnife, hplan.1]

/-- R96: the end of SETTLE. -/
theorem Stand.settleWork_contextsAgree {st : Stand} (hst : st.contextsAgree = true) (hsettle : st.state = .settle) :
    st.settleWork.contextsAgree = true := by
  unfold Stand.settleWork
  split
  · refine Stand.tryBind_contextsAgree false ?_
    rw [Stand.contextsAgree_settle hsettle] at hst
    rw [Stand.contextsAgree_running rfl]
    exact hst
  · exact hst

/-- R74: the withdrawal of the ready context. -/
theorem Stand.dropReady_contextsAgree {st : Stand} (waits : Bool) (hst : st.contextsAgree = true)
    (hstate : st.state = .checking ∨ st.state = .ready) : (st.dropReady waits).contextsAgree = true := by
  have hserving : st.isServing = true :=
    Stand.isServing_of_contextsAgree hst (by rcases hstate with h | h <;> simp [h])
      (by rcases hstate with h | h <;> simp [h])
  unfold Stand.dropReady
  refine Stand.tryBind_contextsAgree waits ?_
  rw [Stand.contextsAgree_running rfl]
  exact ⟨hserving, rfl⟩

/-- R143: a further fault. -/
theorem Stand.markFurther_contextsAgree {st : Stand} (hst : st.contextsAgree = true) :
    st.markFurther.contextsAgree = true := by
  unfold Stand.markFurther
  split
  case h_1 r hr =>
    refine (Stand.contextsAgree_congr (st := st) (st' := { st with record := some { r with further := true } })
      rfl rfl (fun _ _ => rfl) rfl ?_ fun _ => rfl).trans hst
    rw [hr]; rfl
  case h_2 => exact hst

/-- R148: a clear without a named arm follows a fault before the fire. -/
theorem Stand.ready_of_not_needsArm {st : Stand} (hst : st.contextsAgree = true) (hfault : st.state = .fault)
    (harm : st.needsArm = false) : st.running.isSome = true ∧ (st.ready = none ∨ st.readyIs true false = true) := by
  rw [Stand.contextsAgree_fault hfault] at hst
  obtain ⟨hrunning, r, hrecord, hready⟩ := hst
  simp only [Stand.needsArm, hrecord] at harm
  exact ⟨hrunning, by simpa [harm] using hready⟩

/-! ### Every move keeps the contexts -/

section
variable {cmd : Instr} {grades : Vector Grade 16} {k : StandId} {st st' : Stand}

/-- R66, R67, R72: every move of a part whose grants go to stands in MATCHED keeps the contexts of a stand. -/
theorem Stand.Move.contextsAgree (h : st.Move cmd True grades k st') (hst : st.contextsAgree = true) :
    st'.contextsAgree = true := by
  have hmoved {st'' : Stand} (hstate : st''.state = st.state)
      (hrunning : st''.running.isSome = st.running.isSome) (hready : st''.ready = st.ready)
      (harm : st''.runningArm = st.runningArm) (hrecord : st''.record = st.record) (hkept : st''.kept = st.kept)
      (hplan : st''.sched.plan.map FirePlan.phase = st.sched.plan.map FirePlan.phase) :
      st''.contextsAgree = true :=
    (Stand.contextsAgree_of_same hstate hrunning hready harm hrecord hkept hplan).trans hst
  cases h with
  | quiet h => exact hmoved h.state (by rw [h.running]) h.ready h.runningArm h.record h.kept h.plan
  | arm x v => cases x <;> exact hst
  | anchor inc => exact hmoved rfl (by simp [Stand.advanceAnchor]) rfl rfl rfl rfl rfl
  | accept d => exact hmoved rfl (by simp) rfl rfl rfl rfl rfl
  | latch x =>
    have hnone : (st.latchTape x).ready.isNone = st.ready.isNone := by simp [Stand.latchTape]
    have his := Stand.readyIs_map (st := st) (st' := st.latchTape x) (fun r => { r with tape := some x })
      (fun _ _ _ _ => rfl) rfl rfl
    exact (Stand.contextsAgree_congr (st := st) (st' := st.latchTape x) rfl rfl his hnone rfl fun _ => rfl).trans hst
  | unmount => exact Stand.unmount_contextsAgree hst
  | bind waits => exact Stand.tryBind_contextsAgree waits hst
  | gauged dg h => exact Stand.enterReady_contextsAgree dg hst h
  | accel speed h =>
    rw [Stand.contextsAgree_gauged (.inl h)] at hst
    rw [Stand.contextsAgree_gauged (.inr rfl)]
    refine ⟨hst.1, ?_⟩
    have his := Stand.readyIs_map (st := st) (st' := st.enterAccel speed) (fun r => { r with tape := none })
      (fun _ _ _ _ => rfl) rfl rfl
    exact (his true false).trans hst.2
  | settled h => exact Stand.settleWork_contextsAgree hst h
  | matched h =>
    rw [Stand.contextsAgree_gauged (.inr (by rw [h]; rfl))] at hst
    exact (Stand.contextsAgree_gauged (.inr rfl)).mpr hst
  | outOfBand h =>
    rw [Stand.contextsAgree_gauged (.inr h)] at hst
    exact (Stand.contextsAgree_gauged (.inr rfl)).mpr hst
  | settle h => exact Stand.enterSettle_contextsAgree grades hst h
  | grant g h =>
    rw [Stand.contextsAgree_gauged (.inr (by rw [h trivial]; rfl))] at hst
    exact (Stand.contextsAgree_gauged (.inr rfl)).mpr hst
  | fault kind c sig hoffline hfault => exact Stand.enterFault_contextsAgree kind c sig hst hoffline hfault
  | further => exact Stand.markFurther_contextsAgree hst
  | fire speed i h => exact Stand.issueFire_contextsAgree speed i hst h
  | knife p m h hp => exact Stand.issueKnife_contextsAgree p m hst h
  | clear waits h harm =>
    obtain ⟨hrunning, hready⟩ := Stand.ready_of_not_needsArm hst h harm
    exact Stand.clearFault_contextsAgree waits hrunning hready
  | clearNamed x waits h =>
    obtain ⟨hrunning, -⟩ := (Stand.contextsAgree_fault h).mp hst
    exact Stand.clearFault_contextsAgree waits (Stand.nameArm_running x grades hrunning)
      (.inl (st.nameArm_ready x grades))
  | unwind h => exact Stand.returnReady_contextsAgree hst h
  | edge => exact hst
  | enqueue => exact hst
  | dequeue => exact hst
  | drop waits h => exact Stand.dropReady_contextsAgree waits hst h
  | param => exact hst
  | map => exact hst
  | online => simp [Stand.contextsAgree, Stand.goOnline, Stand.afterReset]
  | offline => simp [Stand.contextsAgree, Stand.goOffline, Stand.outOfService, Stand.afterReset]

end

end Sys2Proof.Machine
end

section
/-!
SUPPORT. What one stand's work does to the part: it moves that stand, touches its group, may form log entries, and
leaves everything else as it is. Stands meet only at their groups, by the grants that follow (log 23).
-/
namespace Sys2Proof.Machine

/-! ### The work of one stand -/

/-- A stand goes through moves. -/
abbrev Stand.Moves (cmd : Instr) (agree : Prop) (grades : Vector Grade 16) (k : StandId) : Stand → Stand → Prop :=
  Relation.ReflTransGen (Stand.Move cmd agree grades k)

/-- From s to t nothing changes but stand k, by moves, its group, without the stagger length, and the log entries
formed. -/
structure State.ActsAt (cmd : Instr) (agree : Prop) (k : StandId) (s t : State) : Prop where
  frame : t = { s with groups := t.groups, stands := t.stands, formed := t.formed }
  moves : Stand.Moves cmd agree s.grades k (s.stand k) (t.stand k)
  others : ∀ j, j ≠ k → t.stand j = s.stand j
  groupOf : t.groupOf k = s.groupOf k
  groups : ∀ g, g ≠ s.groupOf k → t.group g = s.group g
  stagger : ∀ g, (t.group g).stagger = (s.group g).stagger

section
variable {cmd : Instr} {agree : Prop} {grades : Vector Grade 16} {k : StandId} {s t u : State}

theorem State.ActsAt.refl (s : State) : s.ActsAt cmd agree k s :=
  ⟨rfl, .refl, fun _ _ => rfl, rfl, fun _ _ => rfl, fun _ => rfl⟩

theorem State.ActsAt.sameGrades (h : s.ActsAt cmd agree k t) : t.grades = s.grades := by rw [h.frame]

theorem State.ActsAt.cycle (h : s.ActsAt cmd agree k t) : t.cycle = s.cycle := by rw [h.frame]; rfl

theorem State.ActsAt.lineSpeed (h : s.ActsAt cmd agree k t) : t.lineSpeed = s.lineSpeed := by rw [h.frame]

theorem State.ActsAt.freeIndex (h : s.ActsAt cmd agree k t) : t.freeIndex = s.freeIndex := by rw [h.frame]

theorem State.ActsAt.trans (h : s.ActsAt cmd agree k t) (h' : t.ActsAt cmd agree k u) : s.ActsAt cmd agree k u where
  frame := by rw [h'.frame, h.frame]
  moves := h.moves.trans (h.sameGrades ▸ h'.moves)
  others := fun j hj => (h'.others j hj).trans (h.others j hj)
  groupOf := h'.groupOf.trans h.groupOf
  groups := fun g hg => (h'.groups g (h.groupOf ▸ hg)).trans (h.groups g hg)
  stagger := fun g => (h'.stagger g).trans (h.stagger g)

/-- The stand moves, and keeps its group. -/
theorem State.ActsAt.setStand {st : Stand} (h : Stand.Moves cmd agree s.grades k (s.stand k) st)
    (hgroup : st.params.group = s.groupOf k) : s.ActsAt cmd agree k (s.setStand k st) where
  frame := rfl
  moves := by rw [State.stand_setStand_same]; exact h
  others := fun j hj => s.stand_setStand_other st hj
  groupOf := by rw [State.groupOf_setStand_same, hgroup]
  groups := fun g _ => rfl
  stagger := fun g => rfl

theorem State.ActsAt.setStand_move {st : Stand} (h : (s.stand k).Move cmd agree s.grades k st)
    (hgroup : st.params.group = s.groupOf k) : s.ActsAt cmd agree k (s.setStand k st) :=
  .setStand (.single h) hgroup

/-- The stand changes only in fields no bound looks at. -/
theorem State.ActsAt.setStand_core {st : Stand} (h : (s.stand k).SameCore st) : s.ActsAt cmd agree k (s.setStand k st) :=
  .setStand_move (.quiet h) (by rw [h.params]; rfl)

theorem State.ActsAt.setGroup {v : Group} (h : v.stagger = (s.group (s.groupOf k)).stagger) :
    s.ActsAt cmd agree k (s.setGroup (s.groupOf k) v) where
  frame := rfl
  moves := .refl
  others := fun j _ => rfl
  groupOf := rfl
  groups := fun g hg => s.group_setGroup_other v hg
  stagger := fun g => by
    rw [State.group_setGroup]
    split
    case isTrue hg => rw [hg, h]
    case isFalse => rfl

theorem State.ActsAt.formEntry (o : LogOutcome) : s.ActsAt cmd agree k (s.formEntry k o) :=
  ⟨rfl, .refl, fun _ _ => rfl, rfl, fun _ _ => rfl, fun _ => rfl⟩

/-! ### Moves of the operations on a stand -/

theorem Stand.Moves.quiet {st st' : Stand} (h : st.SameCore st') : Stand.Moves cmd agree grades k st st' :=
  .single (.quiet h)

/-- An arm's history is the old one, emptied, or grown to 17 entries (R36). -/
theorem Spindle.step_hist_length (g : Spindle) (e : Option RetEntry) (samples : Option (Vector Slot 96))
    (passedOver : Bool) (h : g.hist.length ≤ 17) : (g.step e samples passedOver).1.hist.length ≤ 17 := by
  unfold Spindle.step
  dsimp only
  split
  case h_1 sl _ _ =>
    have hpushed := stepHistory_length g.hist (g.cap.take (entryLimit e) (entrySlot e samples)).1
      (some (spindleAngle sl.payload)) passedOver h
    exact hpushed
  case h_2 => exact stepHistory_length g.hist _ _ passedOver h

theorem ArmState.step_keepsBounds (v : ArmState) (es eg : Option RetEntry) (samples : Option (Vector Slot 96))
    (passedOver : Bool) : v.KeepsBounds (v.step es eg samples passedOver).1 :=
  ⟨v.spindle.step_hist_length es samples passedOver, id⟩

theorem rateOf_le {h : List Angle} {old : Nat} (hold : old ≤ 4095) : rateOf h old ≤ 4095 := by
  unfold rateOf
  split
  · split
    · exact Nat.le_of_lt_succ (BitVec.isLt _)
    · exact hold
  · exact hold

theorem ArmState.measureRate_keepsBounds (v : ArmState) : v.KeepsBounds v.measureRate := ⟨id, rateOf_le⟩

/-- Both arms are set. -/
theorem Stand.Moves.arms {st : Stand} {a b : ArmState} (ha : st.armA.KeepsBounds a) (hb : st.armB.KeepsBounds b) :
    Stand.Moves cmd agree grades k st { st with armA := a, armB := b } := by
  have hfirst : st.Move cmd agree grades k (st.setArm .a a) := .arm .a a ha
  have hsecond : (st.setArm .a a).Move cmd agree grades k ((st.setArm .a a).setArm .b b) := .arm .b b hb
  exact (Relation.ReflTransGen.single hfirst).tail hsecond

theorem Stand.captureStep_moves (st : Stand) (samples : Option (Vector Slot 96)) (passedOver : Bool) :
    Stand.Moves cmd agree grades k st (st.captureStep samples passedOver).1 :=
  (Stand.Moves.arms (st.armA.step_keepsBounds _ _ samples passedOver)
    (st.armB.step_keepsBounds _ _ samples passedOver)).tail
    (.quiet ⟨rfl, rfl, rfl, rfl, rfl, rfl, rfl, rfl, rfl, rfl, rfl, rfl, rfl⟩)

theorem Stand.SameCore.refl (st : Stand) : st.SameCore st :=
  ⟨rfl, rfl, rfl, rfl, rfl, rfl, rfl, rfl, rfl, rfl, rfl, rfl, rfl⟩

theorem Stand.staleWindow_core (st : Stand) (h : StandHand) (lh : LineHand) : st.SameCore (st.staleWindow h lh) := by
  unfold Stand.staleWindow
  split
  · exact ⟨rfl, rfl, rfl, rfl, rfl, rfl, rfl, rfl, rfl, rfl, rfl, rfl, rfl⟩
  · exact .refl st

theorem Stand.watchStep_core (st : Stand) (lineStale : Bool) : st.SameCore (st.watchStep lineStale) :=
  ⟨rfl, rfl, rfl, rfl, rfl, rfl, rfl, rfl, rfl, rfl, rfl, rfl, rfl⟩

theorem Stand.restart_moves (st : Stand) : Stand.Moves cmd agree grades k st st.restart :=
  (Stand.Moves.arms (a := { st.armA with spindle := { st.armA.spindle with hist := [] } })
    (b := { st.armB with spindle := { st.armB.spindle with hist := [] } }) ⟨fun _ => by simp, id⟩
    ⟨fun _ => by simp, id⟩).tail (.quiet ⟨rfl, rfl, rfl, rfl, rfl, rfl, rfl, rfl, rfl, rfl, rfl, rfl, rfl⟩)

theorem Stand.acceptTest_moves (st : Stand) (d : Nat) : Stand.Moves cmd agree grades k st (st.acceptTest d grades) := by
  unfold Stand.acceptTest
  split
  · have hopen : Stand.Moves cmd agree grades k st { st with acceptOpen := false } :=
      .quiet ⟨rfl, rfl, rfl, rfl, rfl, rfl, rfl, rfl, rfl, rfl, rfl, rfl, rfl⟩
    exact hopen.tail (.accept d)
  · exact .refl

theorem Stand.SameCore.window (st : Stand) (w : Option DiameterWindow) : st.SameCore { st with window := w } :=
  ⟨rfl, rfl, rfl, rfl, rfl, rfl, rfl, rfl, rfl, rfl, rfl, rfl, rfl⟩

theorem Stand.advanceWindow_moves (st : Stand) (w : DiameterWindow) (inc : Nat) (travel : Angle) :
    Stand.Moves cmd agree grades k st (st.advanceWindow w inc travel grades) := by
  unfold Stand.advanceWindow
  dsimp only
  split
  · exact (Stand.Moves.quiet (.window st _)).trans (Stand.acceptTest_moves _ _)
  · exact .quiet (.window st _)

theorem Stand.windowStep_moves (st : Stand) (lineLive passedOver : Bool) (inc : Nat) :
    Stand.Moves cmd agree grades k st (st.windowStep lineLive passedOver inc grades) := by
  unfold Stand.windowStep
  dsimp only
  split
  · split
    · exact st.advanceWindow_moves _ inc _
    · split
      · exact .refl
      · exact .quiet (.window st _)
    · exact .refl
  · exact .refl

theorem Stand.gaugeStep_core (st : Stand) (h : StandHand) : st.SameCore (st.gaugeStep h).1 := by
  unfold Stand.gaugeStep Stand.countReading
  dsimp only
  split
  · split
    · exact ⟨rfl, rfl, rfl, rfl, rfl, rfl, rfl, rfl, rfl, rfl, rfl, rfl, rfl⟩
    · split
      · split <;> exact ⟨rfl, rfl, rfl, rfl, rfl, rfl, rfl, rfl, rfl, rfl, rfl, rfl, rfl⟩
      · exact .refl st
  · exact .refl st

theorem Stand.countReading_core (st : Stand) (w : GaugeWindow) (d : Nat) : st.SameCore (st.countReading w d).1 := by
  unfold Stand.countReading
  dsimp only
  split <;> exact ⟨rfl, rfl, rfl, rfl, rfl, rfl, rfl, rfl, rfl, rfl, rfl, rfl, rfl⟩

theorem Stand.measureLength_core (st : Stand) (speed : Nat) : st.SameCore (st.measureLength speed) :=
  ⟨rfl, rfl, rfl, rfl, rfl, rfl, rfl, rfl, rfl, rfl, rfl, rfl, rfl⟩

theorem Stand.measureReady_core (st : Stand) : st.SameCore st.measureReady :=
  ⟨rfl, rfl, rfl, rfl, rfl, rfl, rfl, rfl, rfl, rfl, rfl, rfl, rfl⟩

theorem Stand.measureStep_moves (st : Stand) (h : StandHand) (lineLive passedOver : Bool) (inc speed : Nat) :
    Stand.Moves cmd agree grades k st (st.measureStep h lineLive passedOver inc speed grades).1 := by
  have hrates : Stand.Moves cmd agree grades k st st.measureRates :=
    .arms st.armA.measureRate_keepsBounds st.armB.measureRate_keepsBounds
  have hwindow := (hrates.tail (.anchor inc)).trans
    (Stand.windowStep_moves (st.measureRates.advanceAnchor inc) lineLive passedOver inc)
  have hlength := hwindow.tail (.quiet (Stand.measureLength_core _ speed))
  have hgauge := hlength.tail (.quiet (Stand.gaugeStep_core _ h))
  exact hgauge.tail (.quiet (Stand.measureReady_core _))

theorem Stand.brakingStep_core (st : Stand) : st.SameCore st.brakingStep := by
  unfold Stand.brakingStep
  split <;> exact ⟨rfl, rfl, rfl, rfl, rfl, rfl, rfl, rfl, rfl, rfl, rfl, rfl, rfl⟩

theorem Stand.reelChanges_moves (st : Stand) (h : StandHand) :
    Stand.Moves cmd agree grades k st (st.reelChanges h) := by
  unfold Stand.reelChanges
  dsimp only
  split
  · exact .single .unmount
  · split
    · exact .quiet ⟨rfl, rfl, rfl, rfl, rfl, rfl, rfl, rfl, rfl, rfl, rfl, rfl, rfl⟩
    · exact .refl

theorem Stand.tickAccel_core (st : Stand) : st.SameCore st.tickAccel :=
  ⟨rfl, rfl, rfl, rfl, rfl, rfl, rfl, rfl, rfl, rfl, rfl, rfl, rfl⟩

theorem Stand.formTarget_core (st : Stand) (speed : Nat) : st.SameCore (st.formTarget speed) :=
  ⟨rfl, rfl, rfl, rfl, rfl, rfl, rfl, rfl, rfl, rfl, rfl, rfl, rfl⟩

theorem Stand.addTapeTravel_core (st : Stand) (n : Nat) : st.SameCore (st.addTapeTravel n) :=
  ⟨rfl, rfl, rfl, rfl, rfl, rfl, rfl, rfl, rfl, rfl, rfl, rfl, rfl⟩

theorem Stand.dropFire_core (st : Stand) : st.SameCore st.dropFire :=
  ⟨rfl, rfl, rfl, rfl, rfl, rfl, rfl, rfl, rfl, rfl, rfl, rfl, rfl⟩

theorem Stand.trackTape_moves (st : Stand) (h : ArmHand) (first : Nat) :
    Stand.Moves cmd agree grades k st (st.trackTape h first) := by
  unfold Stand.trackTape
  dsimp only
  split
  · exact .single (.latch _)
  · exact .quiet (st.addTapeTravel_core _)

theorem FirePlan.accept_phase {p q : FirePlan} {confirm : Option Nat} {c : Word}
    (h : p.accept confirm c = some q) : q.phase = p.phase := by
  unfold FirePlan.accept at h
  split at h
  · dsimp only at h
    split at h
    · cases h; rfl
    · cases h
  · cases h

theorem Stand.schedulerRest_core (st : Stand) (h : StandHand) (lineStale : Bool) (c : Word) :
    st.SameCore (st.schedulerRest h lineStale c).1 := by
  unfold Stand.schedulerRest
  split
  case h_1 =>
    unfold Stand.accelWork
    dsimp only
    split
    · exact st.tickAccel_core
    · split <;> exact st.tickAccel_core
  case h_2 => split <;> exact .refl st
  case h_3 =>
    unfold Stand.pendingWork
    split
    · exact .refl st
    · split
      · exact ⟨rfl, rfl, rfl, rfl, rfl, rfl, rfl, rfl, rfl, rfl, rfl, rfl, rfl⟩
      · exact .refl st
  case h_4 =>
    unfold Stand.confirmWork
    split
    case h_1 p hp =>
      split
      case h_1 q hq =>
        refine ⟨rfl, rfl, rfl, rfl, rfl, rfl, rfl, rfl, rfl, rfl, rfl, rfl, ?_⟩
        rw [hp, Option.map_some, Option.map_some, FirePlan.accept_phase hq]
      case h_2 => split <;> exact .refl st
    case h_2 => exact .refl st
  case h_5 => exact .refl st

theorem Stand.schedulerStep_moves (st : Stand) (h : StandHand) (lineStale : Bool) (speed : Nat) (c : Word)
    (first : Nat) : Stand.Moves cmd agree grades k st (st.schedulerStep h lineStale speed c first).1 := by
  have htrack : Stand.Moves cmd agree grades k st
      (if st.state.watched then st.trackTape (h.arm st.readyArm) first else st) := by
    split
    · exact st.trackTape_moves _ first
    · exact .refl
  unfold Stand.schedulerStep
  dsimp only
  generalize (if st.state.watched then st.trackTape (h.arm st.readyArm) first else st) = st1 at htrack ⊢
  split
  · split
    · exact htrack.tail (.quiet (Stand.tickAccel_core _))
    · exact htrack
  · exact (htrack.tail (.quiet (Stand.formTarget_core _ speed))).tail (.quiet (Stand.schedulerRest_core _ h lineStale c))

/-! ### The operations of a stand in its part -/

theorem State.leaveGroup_actsAt (s : State) (k : StandId) : s.ActsAt cmd agree k (s.leaveGroup k) := by
  rw [State.leaveGroup_frame]
  refine .setGroup ?_
  unfold State.leaveGroup
  split <;> simp [Group.remove, Group.toSpacing]

theorem State.refreshRequest_actsAt (s : State) (k : StandId) : s.ActsAt cmd agree k (s.refreshRequest k) := by
  by_cases hstate : (s.stand k).state = .matched
  · cases hreq : (s.stand k).requests with
    | true =>
      have hset : s.ActsAt cmd agree k (s.setStand k
          { s.stand k with requestStart := some ((s.stand k).requestStart.getD s.cycle) }) :=
        .setStand_core ⟨rfl, rfl, rfl, rfl, rfl, rfl, rfl, rfl, rfl, rfl, rfl, rfl, rfl⟩
      rw [s.refreshRequest_of_requests k hstate hreq]
      refine hset.trans ?_
      rw [← hset.groupOf]
      exact .setGroup rfl
    | false =>
      rw [s.refreshRequest_of_not_requests k hstate hreq]
      exact .setGroup rfl
  · rw [s.refreshRequest_of_not_matched k hstate]
    exact .refl s

/-- R141: a fault, from the entry it forms to the stand in FAULT. -/
theorem State.takeFault_actsAt (s : State) (k : StandId) (kind : FaultKind) (sig : Option StaleSignal) :
    s.ActsAt cmd agree k (s.takeFault k kind sig) := by
  by_cases hoffline : (s.stand k).state = .offline
  · rw [s.takeFault_of_offline k kind sig hoffline]
    exact .refl s
  by_cases hfault : (s.stand k).state = .fault
  · rw [s.takeFault_of_fault k kind sig hfault]
    exact .setStand_move .further (by rw [(Stand.markFurther_sameSetup _).params]; rfl)
  rw [s.takeFault_of_service k kind sig hoffline hfault]
  have hformed : s.ActsAt cmd agree k
      (if (s.stand k).state.afterFire then s.formEntry k kind.outcome else s) := by
    split
    · exact .formEntry _
    · exact .refl s
  have hsame : (if (s.stand k).state.afterFire then s.formEntry k kind.outcome else s).stand k = s.stand k := by
    split <;> rfl
  generalize (if (s.stand k).state.afterFire then s.formEntry k kind.outcome else s) = s1 at hformed hsame ⊢
  refine (hformed.trans (s1.leaveGroup_actsAt k)).trans ?_
  have hstand : (s1.leaveGroup k).stand k = s.stand k := (s1.leaveGroup_stand k k).trans hsame
  refine .setStand_move ?_ ?_
  · rw [hstand]
    exact .fault kind s.cycle sig hoffline hfault
  · rw [(Stand.enterFault_sameSetup _ kind s.cycle sig).params]; rfl

theorem State.becomeInhibited_actsAt (s : State) (k : StandId) : s.ActsAt cmd agree k (s.becomeInhibited k) := by
  unfold State.becomeInhibited
  split
  case isTrue hwatched =>
    refine (s.leaveGroup_actsAt k).trans (.setStand_move (.unwind ?_) ?_)
    · rw [State.leaveGroup_stand]; exact hwatched
    · rw [(Stand.returnReady_sameSetup _).params]; rfl
  case isFalse => exact .refl s

/-! ### The controller -/

theorem State.enterMatched_actsAt {s : State} (h : (s.stand k).state = .accel) :
    s.ActsAt cmd agree k (s.enterMatched k) := by
  unfold State.enterMatched
  exact (State.ActsAt.setStand_move (.matched h) rfl).trans (State.refreshRequest_actsAt _ k)

theorem State.leaveBand_actsAt {s : State} (h : (s.stand k).state.watched = true) :
    s.ActsAt cmd agree k (s.leaveBand k) := by
  unfold State.leaveBand
  exact (s.leaveGroup_actsAt k).trans (.setStand_move (.outOfBand (by rw [State.leaveGroup_stand]; exact h)) rfl)

theorem State.enterSettle_actsAt {s : State} (h : (s.stand k).state = .confirm) :
    s.ActsAt cmd agree k (s.enterSettle k) := by
  have hleave : s.ActsAt cmd agree k ((s.formEntry k .spliced).leaveGroup k) :=
    (State.ActsAt.formEntry .spliced).trans (State.leaveGroup_actsAt _ k)
  refine hleave.trans (.setStand_move ?_ ?_)
  · rw [hleave.sameGrades]
    exact .settle (by rw [State.leaveGroup_stand]; exact h)
  · have hsetup := Stand.transfer_sameSetup (((s.formEntry k .spliced).leaveGroup k).stand k) s.grades
    exact congrArg Params.group hsetup.params

/-- What the scheduler asks for fits the state of the stand (R107, R110, R111, R123). -/
def Verdict.Fits (v : Verdict) (st : Stand) : Prop :=
  (v = .enterMatched → st.state = .accel) ∧ (v = .leaveBand → st.state.watched = true) ∧
    (v = .confirmed → st.state = .confirm)

theorem State.applyVerdict_actsAt {s : State} {v : Verdict} (h : v.Fits (s.stand k)) :
    s.ActsAt cmd agree k (s.applyVerdict k v) := by
  obtain ⟨hmatched, hleave, hconfirmed⟩ := h
  cases v with
  | stay => exact s.refreshRequest_actsAt k
  | fault kind further =>
    unfold State.applyVerdict
    dsimp only
    split
    · exact (s.takeFault_actsAt k kind none).trans (State.takeFault_actsAt _ k _ none)
    · exact s.takeFault_actsAt k kind none
  | enterMatched => exact State.enterMatched_actsAt (hmatched rfl)
  | leaveBand => exact State.leaveBand_actsAt (hleave rfl)
  | confirmed => exact State.enterSettle_actsAt (hconfirmed rfl)

theorem Stand.schedulerRest_confirmed {st : Stand} {h : StandHand} {lineStale : Bool} {c : Word}
    (hv : (st.schedulerRest h lineStale c).2 = .confirmed) : st.state = .confirm := by
  unfold Stand.schedulerRest at hv
  split at hv
  case h_1 =>
    unfold Stand.accelWork at hv
    dsimp only at hv
    split at hv
    · cases hv
    · split at hv <;> cases hv
  case h_2 => split at hv <;> cases hv
  case h_3 =>
    unfold Stand.pendingWork at hv
    split at hv
    · cases hv
    · split at hv <;> cases hv
  case h_4 hstate => exact hstate
  case h_5 => cases hv

theorem Stand.schedulerStep_fits (st : Stand) (h : StandHand) (lineStale : Bool) (speed : Nat) (c : Word)
    (first : Nat) :
    (st.schedulerStep h lineStale speed c first).2.Fits (st.schedulerStep h lineStale speed c first).1 := by
  obtain ⟨hsame, hmatched, hleave⟩ := st.schedulerStep_standing h lineStale speed c first
  refine ⟨fun hv => hsame.state.trans (hmatched hv), fun hv => hsame.state ▸ hleave hv, fun hv => ?_⟩
  unfold Stand.schedulerStep at hv ⊢
  dsimp only at hv ⊢
  generalize (if st.state.watched then st.trackTape (h.arm st.readyArm) first else st) = st1 at hv ⊢
  split at hv
  · split at hv <;> cases hv
  case isFalse hnot =>
    rw [if_neg hnot]
    exact (Stand.schedulerRest_core _ h lineStale c).state.trans (Stand.schedulerRest_confirmed hv)

theorem State.gaugeDone_actsAt {s : State} (dg : Nat) (h : (s.stand k).state = .checking) :
    s.ActsAt cmd agree k (s.gaugeDone k dg) := by
  unfold State.gaugeDone
  split
  · exact .setStand_move (.gauged dg h) rfl
  · exact s.takeFault_actsAt k .reelMismatch none

theorem Stand.tryBind_group (st : Stand) (waits : Bool) : (st.tryBind waits).params.group = st.params.group := by
  rw [(st.tryBind_sameSetup waits).params]

theorem State.transitions_actsAt (s : State) (k : StandId) (h : StandHand) (lineStale : Bool)
    (dg : Option Nat) (unmounted : Bool) : s.ActsAt cmd agree k (s.transitions k h lineStale dg unmounted) := by
  unfold State.transitions
  dsimp only
  split
  case h_1 => exact .refl s
  case h_2 =>
    split
    · exact .refl s
    · exact .setStand_move (.bind false) (Stand.tryBind_group _ false)
  case h_3 hstate =>
    split
    · exact State.gaugeDone_actsAt _ hstate
    · exact .refl s
  case h_4 hstate =>
    split
    · exact .setStand_move (.accel s.lineSpeed hstate) rfl
    · exact .refl s
  case h_5 hstate => exact .setStand_move (.settled hstate) (by rw [(Stand.settleWork_sameSetup _).params]; rfl)
  case h_6 => exact .refl s
  case h_7 =>
    have hset : s.ActsAt cmd agree k (s.setStand k
        ((s.stand k).schedulerStep h lineStale s.lineSpeed s.cycle (Config.firstTravel s.freeIndex k)).1) :=
      .setStand (Stand.schedulerStep_moves _ h lineStale _ _ _)
        (congrArg Params.group (Stand.schedulerStep_standing _ h lineStale _ _ _).1.params)
    refine hset.trans (State.applyVerdict_actsAt ?_)
    rw [State.stand_setStand_same]
    exact Stand.schedulerStep_fits _ h lineStale _ _ _

theorem State.controllerStep_actsAt (s : State) (k : StandId) (h : StandHand) (lineStale : Bool)
    (dg : Option Nat) : s.ActsAt cmd agree k (s.controllerStep k h lineStale dg) := by
  have hmoves := (Stand.reelChanges_moves (cmd := cmd) (agree := agree) (grades := s.grades) (k := k)
    (s.stand k) h).tail (.quiet (Stand.brakingStep_core _))
  have hgroup : (((s.stand k).reelChanges h).brakingStep).params.group = s.groupOf k := by
    rw [(Stand.brakingStep_core _).params, ((s.stand k).reelChanges_standing h).1.params]; rfl
  exact (State.ActsAt.setStand hmoves hgroup).trans (State.transitions_actsAt _ k h lineStale dg _)

theorem State.watchStand_actsAt (s : State) (k : StandId) (lineStale : Bool) :
    s.ActsAt cmd agree k (s.watchStand k lineStale) := by
  have hwatch : s.ActsAt cmd agree k (s.setStand k ((s.stand k).watchStep lineStale)) :=
    .setStand_core (Stand.watchStep_core _ lineStale)
  unfold State.watchStand
  dsimp only
  split
  · exact hwatch.trans (State.takeFault_actsAt _ k _ _)
  · exact hwatch

/-- The capture step of stand k with what follows from it in the same step: windows discarded, the stale watch. -/
def State.capturedAt (samples : Option (Vector Slot 96)) (passedOver : Bool) (lh : LineHand) (s : State)
    (k : StandId) : State :=
  let c := (s.stand k).captureStep samples passedOver
  (s.setStand k (c.1.staleWindow c.2 lh)).watchStand k lh.stale

/-- The measurement step that follows, with the D_g it hands over. -/
def State.measuredAt (samples : Option (Vector Slot 96)) (passedOver : Bool) (lh : LineHand) (s : State)
    (k : StandId) : Stand × Option Nat :=
  ((State.capturedAt samples passedOver lh s k).stand k).measureStep
    ((s.stand k).captureStep samples passedOver).2 (!lh.stale) passedOver lh.increment s.lineSpeed s.grades

theorem State.standStep_of_inService {samples : Option (Vector Slot 96)} {passedOver : Bool} {lh : LineHand}
    {s : State} {k : StandId} (h : (s.stand k).inService = true) :
    State.standStep samples passedOver lh s k =
      ((State.capturedAt samples passedOver lh s k).setStand k
        (State.measuredAt samples passedOver lh s k).1).controllerStep k
        ((s.stand k).captureStep samples passedOver).2 lh.stale (State.measuredAt samples passedOver lh s k).2 := by
  unfold State.standStep
  rw [if_pos h]
  rfl

theorem State.standStep_of_not_inService {samples : Option (Vector Slot 96)} {passedOver : Bool} {lh : LineHand}
    {s : State} {k : StandId} (h : (s.stand k).inService = false) :
    State.standStep samples passedOver lh s k = s := by
  unfold State.standStep
  rw [if_neg (by simp [h])]

theorem State.capturedAt_actsAt (samples : Option (Vector Slot 96)) (passedOver : Bool) (lh : LineHand)
    (s : State) (k : StandId) : s.ActsAt cmd agree k (State.capturedAt samples passedOver lh s k) := by
  have hcore := Stand.staleWindow_core ((s.stand k).captureStep samples passedOver).1
    ((s.stand k).captureStep samples passedOver).2 lh
  have hmoves := (Stand.captureStep_moves (cmd := cmd) (agree := agree) (grades := s.grades) (k := k)
    (s.stand k) samples passedOver).tail (.quiet hcore)
  exact (State.ActsAt.setStand hmoves (congrArg Params.group hcore.params)).trans
    (State.watchStand_actsAt _ k lh.stale)

/-- R26, R39, R85: the capture, measurement and controller steps of one stand. -/
theorem State.standStep_actsAt (samples : Option (Vector Slot 96)) (passedOver : Bool) (lh : LineHand)
    (s : State) (k : StandId) : s.ActsAt cmd agree k (State.standStep samples passedOver lh s k) := by
  by_cases h : (s.stand k).inService = true
  · have hcapture := State.capturedAt_actsAt (cmd := cmd) (agree := agree) samples passedOver lh s k
    have hmeasure : (State.capturedAt samples passedOver lh s k).ActsAt cmd agree k
        ((State.capturedAt samples passedOver lh s k).setStand k (State.measuredAt samples passedOver lh s k).1) :=
      .setStand (hcapture.sameGrades ▸ Stand.measureStep_moves _ _ _ _ _ _)
        (congrArg Params.group (Stand.measureStep_sameStanding _ _ _ _ _ _ _).params)
    rw [State.standStep_of_inService h]
    exact (hcapture.trans hmeasure).trans (State.controllerStep_actsAt _ k _ lh.stale _)
  · rw [State.standStep_of_not_inService (by simpa using h)]
    exact .refl s

/-- R15: link loss at one stand. -/
theorem State.linkLossAt_actsAt (s : State) (k : StandId) : s.ActsAt cmd agree k (s.linkLossAt k) := by
  unfold State.linkLossAt
  split
  · exact (s.takeFault_actsAt k .linkLoss none).trans
      (.setStand_core ⟨rfl, rfl, rfl, rfl, rfl, rfl, rfl, rfl, rfl, rfl, rfl, rfl, rfl⟩)
  · exact .refl s

end

end Sys2Proof.Machine
end

section
/-!
SUPPORT. Grant decisions change only stands they grant and the groups that decide (R131, R133); and what a command
makes of every stand of the part: moves, with the grade table as it was.
-/
namespace Sys2Proof.Machine

/-! ### Grants -/

/-- From s to t nothing changes but groups in G, without their stagger lengths, and stands that a decision of such a
group grants: requesters, where groups and stands agree. -/
structure State.GrantsIn (G : GroupId → Prop) (s t : State) : Prop where
  frame : t = { s with groups := t.groups, stands := t.stands }
  stand : ∀ j, t.stand j = s.stand j ∨
    (GroupsAgree s → (s.stand j).requests = true ∧ G (s.groupOf j)) ∧
      ∃ g, t.stand j = { s.stand j with state := .firingPending, grant := some g }
  group : ∀ g, ¬ G g → t.group g = s.group g
  stagger : ∀ g, (t.group g).stagger = (s.group g).stagger
  agrees : GroupsAgree s → GroupsAgree t

section
variable {G : GroupId → Prop} {s t u : State}

theorem State.GrantsIn.refl (s : State) : s.GrantsIn G s :=
  ⟨rfl, fun _ => .inl rfl, fun _ _ => rfl, fun _ => rfl, id⟩

theorem State.GrantsIn.groupOf (h : s.GrantsIn G t) (k : StandId) : t.groupOf k = s.groupOf k := by
  unfold State.groupOf
  rcases h.stand k with heq | ⟨-, g, heq⟩ <;> rw [heq]

theorem State.GrantsIn.trans (h : s.GrantsIn G t) (h' : t.GrantsIn G u) : s.GrantsIn G u where
  frame := by rw [h'.frame, h.frame]
  stand := fun j => by
    rcases h'.stand j with heq | ⟨hreq, g, heq⟩
    · rw [heq]; exact h.stand j
    rcases h.stand j with heq' | ⟨hreq', g', heq'⟩
    · refine .inr ⟨fun hs => ?_, g, by rw [heq, heq']⟩
      have := hreq (h.agrees hs)
      rwa [heq', h.groupOf] at this
    · exact .inr ⟨hreq', g, by rw [heq, heq']⟩
  group := fun g hg => (h'.group g hg).trans (h.group g hg)
  stagger := fun g => (h'.stagger g).trans (h.stagger g)
  agrees := h'.agrees ∘ h.agrees

theorem State.GrantsIn.mono {G' : GroupId → Prop} (hsub : ∀ g, G g → G' g) (h : s.GrantsIn G t) :
    s.GrantsIn G' t where
  frame := h.frame
  stand := fun j => (h.stand j).imp_right fun ⟨hreq, hgrant⟩ =>
    ⟨fun hs => (hreq hs).imp_right (hsub _), hgrant⟩
  group := fun g hg => h.group g fun hG => hg (hsub g hG)
  stagger := h.stagger
  agrees := h.agrees

/-- R133: a grant goes to a requester of the group. -/
theorem State.decideGroup_grantsIn (s : State) (g : GroupId) : s.GrantsIn (· = g) (s.decideGroup g) := by
  rcases s.decideGroup_cases g with ⟨-, h⟩ | ⟨k, hchosen, h⟩
  · rw [h]; exact .refl s
  have hmay := s.chosen_mayGrant g k hchosen
  refine ⟨by rw [h]; rfl, fun j => ?_, fun g' hg' => ?_, fun g' => ?_, fun hs => hs.decideGroup g⟩
  · rw [h, State.grantTo_stand]
    split
    case isTrue hj =>
      subst hj
      refine .inr ⟨fun hs => ?_, _, rfl⟩
      have hhas : (s.group g).has j = true := (Bool.and_eq_true _ _ ▸ hmay : _ ∧ _).1
      obtain ⟨-, -, -, hexact⟩ := hs
      exact ⟨((hexact g j).mp hhas).2, ((hexact g j).mp hhas).1⟩
    case isFalse => exact .inl rfl
  · rw [h, State.grantTo_group, if_neg hg']
  · rw [h, State.grantTo_group]
    split
    case isTrue hg => rw [hg]; rfl
    case isFalse => rfl

/-- R131, points 2 to 4: the groups outside G are as before the event, so they take no decision. -/
theorem State.decideChanged_grantsIn {before s : State} (h : ∀ g, ¬ G g → before.group g = s.group g) :
    s.GrantsIn G (State.decideChanged before s) := by
  unfold State.decideChanged
  generalize allGroups = l
  induction l generalizing s with
  | nil => exact .refl s
  | cons a l ih =>
    have hfirst : s.GrantsIn G (State.decideChangedGroup before s a) := by
      by_cases ha : G a
      · unfold State.decideChangedGroup
        split
        · exact .refl s
        · exact (s.decideGroup_grantsIn a).mono (by rintro g rfl; exact ha)
      · rw [State.decideChangedGroup_of_same before s a (h a ha)]
        exact .refl s
    exact hfirst.trans (ih fun g hg => (h g hg).trans (hfirst.group g hg).symm)

/-- R131, point 1: the groups outside G have no decision due, so they take none. -/
theorem State.decideAll_grantsIn (h : ∀ g, ¬ G g → s.chosen g = none) : s.GrantsIn G s.decideAll := by
  unfold State.decideAll
  generalize allGroups = l
  induction l generalizing s with
  | nil => exact .refl s
  | cons a l ih =>
    have hfirst : s.GrantsIn G (s.decideGroup a) := by
      by_cases ha : G a
      · exact (s.decideGroup_grantsIn a).mono (by rintro g rfl; exact ha)
      · rw [State.decideGroup_of_none (h a ha)]
        exact .refl s
    exact hfirst.trans (ih fun g hg => s.decideGroup_keeps_chosen a (h g hg))

end

/-! ### What a command makes of every stand -/

/-- From s to t every stand goes through moves of command `cmd`, in a part whose groups agree if they did at the
beginning, and the grade table is kept. -/
def State.Evolves (cmd : Instr) (s t : State) : Prop :=
  ∀ agree : Prop, (agree → GroupsAgree s) →
    (agree → GroupsAgree t) ∧ t.grades = s.grades ∧
      ∀ k, Stand.Moves cmd agree s.grades k (s.stand k) (t.stand k)

section
variable {cmd : Instr} {s t u : State}

theorem State.Evolves.refl (s : State) : s.Evolves cmd s := fun _ h => ⟨h, rfl, fun _ => .refl⟩

theorem State.Evolves.trans (h : s.Evolves cmd t) (h' : t.Evolves cmd u) : s.Evolves cmd u := fun agree hs => by
  obtain ⟨ht, hgrades, hmoves⟩ := h agree hs
  obtain ⟨hu, hgrades', hmoves'⟩ := h' agree ht
  exact ⟨hu, hgrades'.trans hgrades, fun k => (hmoves k).trans (hgrades ▸ hmoves' k)⟩

/-- Only stands, groups and grade table count. -/
theorem State.Evolves.of_same (hstands : u.stands = t.stands) (hgroups : u.groups = t.groups)
    (hgrades : u.grades = t.grades) (h : s.Evolves cmd t) : s.Evolves cmd u := fun agree hs => by
  obtain ⟨ht, hgrades', hmoves⟩ := h agree hs
  have hstand (k : StandId) : u.stand k = t.stand k := congrArg (fun v : Vector Stand 8 => v[k]) hstands
  have hgroup (g : GroupId) : u.group g = t.group g := congrArg (fun v : Vector Group 4 => v[g]) hgroups
  have hroles : t.SameRoles u := ⟨fun k => (hstand k).symm ▸ .refl _, hgroup⟩
  exact ⟨fun ha => hroles.groupsAgree (ht ha), hgrades.trans hgrades', fun k => (hstand k).symm ▸ hmoves k⟩

theorem State.Evolves.of_actsAt {k : StandId} (h : ∀ agree, s.ActsAt cmd agree k t)
    (hagrees : GroupsAgree s → GroupsAgree t) : s.Evolves cmd t := fun agree hs => by
  refine ⟨fun ha => hagrees (hs ha), (h agree).sameGrades, fun j => ?_⟩
  by_cases hj : j = k
  · exact hj ▸ (h agree).moves
  · rw [(h agree).others j hj]

theorem State.GrantsIn.evolves {G : GroupId → Prop} (h : s.GrantsIn G t) : s.Evolves cmd t := fun agree hs => by
  refine ⟨fun ha => h.agrees (hs ha), by rw [h.frame], fun j => ?_⟩
  rcases h.stand j with heq | ⟨hreq, g, heq⟩
  · rw [heq]
  · rw [heq]
    exact .single (.grant g fun ha => Stand.matched_of_requests (hreq (hs ha)).1)

/-- Stand k changes, in ways the arbiters do not see. -/
theorem State.Evolves.setStand {k : StandId} {st : Stand} (hrole : (s.stand k).SameRole st)
    (h : ∀ agree, Stand.Moves cmd agree s.grades k (s.stand k) st) : s.Evolves cmd (s.setStand k st) :=
  .of_actsAt (fun agree => .setStand (h agree) (congrArg Params.group hrole.params))
    (State.setStand_sameRoles hrole).groupsAgree

theorem State.Evolves.foldl {α : Type} {f : State → α → State} (h : ∀ (s : State) (a : α), s.Evolves cmd (f s a))
    (l : List α) (s : State) : s.Evolves cmd (l.foldl f s) := by
  induction l generalizing s with
  | nil => exact .refl s
  | cons a l ih => exact (h s a).trans (ih _)

theorem State.joinLog_evolves (s : State) : s.Evolves cmd s.joinLog := by
  rw [State.joinLog_frame]; exact .of_same rfl rfl rfl (.refl s)

theorem State.decideChanged_evolves (before s : State) : s.Evolves cmd (State.decideChanged before s) :=
  (State.decideChanged_grantsIn (G := fun _ => True) fun _ h => absurd trivial h).evolves

theorem State.decideAll_evolves (s : State) : s.Evolves cmd s.decideAll :=
  (State.decideAll_grantsIn (G := fun _ => True) fun _ h => absurd trivial h).evolves

theorem State.endEvent_evolves (s : State) : s.Evolves cmd s.endEvent :=
  .of_same rfl rfl rfl (s.decideAll_evolves.trans (State.joinLog_evolves _))

/-! ### The step of a cycle -/

theorem State.standStep_evolves (samples : Option (Vector Slot 96)) (passedOver : Bool) (lh : LineHand) (s : State)
    (k : StandId) : s.Evolves cmd (State.standStep samples passedOver lh s k) :=
  .of_actsAt (fun _ => State.standStep_actsAt samples passedOver lh s k) fun h => h.standStep samples passedOver lh k

theorem State.countDownGroup_evolves (s : State) (inc : Nat) (g : GroupId) : s.Evolves cmd (s.countDownGroup inc g) :=
  fun _ hs => ⟨fun ha => (hs ha).countDownGroup inc g, rfl, fun _ => .refl⟩

theorem State.lineStep_evolves (s : State) (samples : Option (Vector Slot 96)) (passedOver : Bool) :
    s.Evolves cmd (s.lineStep samples passedOver).1 := by
  unfold State.lineStep
  split
  · exact .refl s
  · exact .of_same rfl rfl rfl (.refl s)

theorem State.cycleStep_evolves (s : State) (samples : Option (Vector Slot 96)) (passedOver : Bool) :
    s.Evolves cmd (s.cycleStep samples passedOver) := by
  have hline := s.lineStep_evolves (cmd := cmd) samples passedOver
  have hcount := State.Evolves.foldl (cmd := cmd) (fun t g => t.countDownGroup_evolves
    (s.lineStep samples passedOver).2.increment g) allGroups (s.lineStep samples passedOver).1
  have hstands := State.Evolves.foldl (cmd := cmd)
    (State.standStep_evolves samples passedOver (s.lineStep samples passedOver).2) allStands
    ((s.lineStep samples passedOver).1.countDown (s.lineStep samples passedOver).2.increment)
  exact .of_same rfl rfl rfl
    ((((hline.trans hcount).trans hstands).trans (State.decideAll_evolves _)).trans (State.joinLog_evolves _))

/-! ### The press link -/

theorem State.pendingStep_evolves (s : State) : s.Evolves cmd s.pendingStep := by
  unfold State.pendingStep
  split
  · exact (State.Evolves.of_same (u := { s with stepPending := false }) rfl rfl rfl (.refl s)).trans
      (State.cycleStep_evolves _ none false)
  · exact .refl s

theorem State.passOver_evolves (n : Nat) (s : State) : s.Evolves cmd (State.passOver n s) := by
  induction n generalizing s with
  | zero => exact .refl s
  | succ n ih =>
    have hnext : s.Evolves cmd { s with engineCycle := some (s.cycle + 1) } := .of_same rfl rfl rfl (.refl s)
    exact (hnext.trans (State.cycleStep_evolves _ none true)).trans (ih _)

theorem State.modStand_evolves {f : Stand → Stand} (hrole : ∀ st : Stand, st.SameRole (f st))
    (hmoves : ∀ agree grades k (st : Stand), Stand.Moves cmd agree grades k st (f st)) (s : State) (k : StandId) :
    s.Evolves cmd (s.modStand k f) :=
  .setStand (hrole _) fun agree => hmoves agree _ k _

theorem State.dropFires_evolves (s : State) : s.Evolves cmd s.dropFires :=
  .foldl (State.modStand_evolves Stand.dropFire_sameRole fun _ _ _ st => .quiet st.dropFire_core) allStands s

theorem State.restart_evolves (s : State) : s.Evolves cmd s.restart :=
  (State.Evolves.of_same (u := { s with line := { s.line with hist := [] } }) rfl rfl rfl (.refl s)).trans
    (.foldl (State.modStand_evolves Stand.restart_sameRole fun _ _ _ st => st.restart_moves) allStands _)

theorem State.advanceCycle_evolves (s : State) (c : Word) (d : Nat) : s.Evolves cmd (s.advanceCycle c d) := by
  have hdrop : s.Evolves cmd (if d = 1 then s else s.dropFires) := by
    split
    · exact .refl s
    · exact s.dropFires_evolves
  have hrestart (t : State) : t.Evolves cmd (if s.breaks d then t.restart else t) := by
    split
    · exact t.restart_evolves
    · exact .refl t
  exact .of_same rfl rfl rfl (((hdrop.trans (State.pendingStep_evolves _)).trans (hrestart _)).trans
    (State.passOver_evolves (d - 1) _))

theorem State.beginCycle_evolves (s : State) (num : BitVec 16) : s.Evolves cmd (s.beginCycle num) := by
  have hdiscard : s.Evolves cmd { s.discardSamples with heldReply := none } := .of_same rfl rfl rfl (.refl s)
  unfold State.beginCycle
  generalize { s.discardSamples with heldReply := none } = s0 at hdiscard ⊢
  dsimp only
  split
  case h_1 => exact .of_same rfl rfl rfl hdiscard
  case h_2 c _ => exact .of_same rfl rfl rfl (hdiscard.trans (s0.advanceCycle_evolves c _))

theorem State.claimLost_actsAt {agree : Prop} (s : State) (k : StandId) :
    s.ActsAt cmd agree k (s.modStand k fun st => { st with claimLost := true }) :=
  .setStand_core ⟨rfl, rfl, rfl, rfl, rfl, rfl, rfl, rfl, rfl, rfl, rfl, rfl, rfl⟩

theorem State.claimConflict_evolves (s : State) (k : StandId) : s.Evolves cmd (s.claimConflict k) := by
  have hfault : s.Evolves cmd
      ((s.modStand k fun st => { st with claimLost := true }).takeFault k .claimConflict none) :=
    .of_actsAt (fun _ => (s.claimLost_actsAt k).trans (State.takeFault_actsAt _ k .claimConflict none)) fun h =>
      ((State.modStand_sameRoles Stand.claimLost_sameRole s k).groupsAgree h).takeFault k .claimConflict none
  exact (hfault.trans (State.decideChanged_evolves s _)).trans (State.joinLog_evolves _)

theorem State.checkClaims_evolves (s : State) (slots : Vector Slot 48) : s.Evolves cmd (s.checkClaims slots) :=
  .of_same rfl rfl rfl (.foldl State.claimConflict_evolves _ s)

/-- A stand that holds its group goes through moves within FIRING and CONFIRM. -/
theorem State.fireStep_evolves (s : State) (k : StandId) (m : Word) : s.Evolves cmd (s.fireStep k m).1 := by
  refine .of_actsAt (k := k) (fun agree => ?_) fun h => (s.fireStep_keepsAgreement k m h).1
  unfold State.fireStep
  dsimp only
  split
  · split
    case isTrue hfire => exact .setStand_move (.fire _ _ hfire.1) rfl
    case isFalse => exact .setStand_core (Stand.dropFire_core _)
  · exact .refl s

theorem State.knifeStep_evolves (s : State) (k : StandId) (m : Word) : s.Evolves cmd (s.knifeStep k m).1 := by
  refine .of_actsAt (k := k) (fun agree => ?_) fun h => (s.knifeStep_keepsAgreement k m h).1
  unfold State.knifeStep
  dsimp only
  split
  case h_1 p hp =>
    split
    case isTrue hknife => exact .setStand_move (.knife p m hknife.1 hp) rfl
    case isFalse => exact .refl s
  case h_2 => exact .refl s

theorem State.writeStand_evolves (m : Word) (acc : State × Vector Slot 48) (k : StandId) :
    acc.1.Evolves cmd (State.writeStand m acc k).1 := by
  unfold State.writeStand
  split
  · have hcounts (t : State) : t.Evolves cmd (t.modStand k fun st => { st with counts := st.counts.advance }) :=
      State.modStand_evolves Stand.counts_sameRole
        (fun _ _ _ _ => .quiet ⟨rfl, rfl, rfl, rfl, rfl, rfl, rfl, rfl, rfl, rfl, rfl, rfl, rfl⟩) t k
    exact ((State.fireStep_evolves acc.1 k m).trans (State.knifeStep_evolves _ k m)).trans (hcounts _)
  · exact .refl acc.1

theorem State.foldl_writeStand_evolves (m : Word) (l : List StandId) (acc : State × Vector Slot 48) :
    acc.1.Evolves cmd (l.foldl (State.writeStand m) acc).1 := by
  induction l generalizing acc with
  | nil => exact .refl acc.1
  | cons k l ih => exact (State.writeStand_evolves m acc k).trans (ih _)

theorem State.passOutbound_evolves (s : State) (f : OutFrame) : s.Evolves cmd (s.passOutbound f) := by
  have hwritten := (s.checkClaims_evolves (cmd := cmd) f.slots).trans
    (State.foldl_writeStand_evolves s.cycle allStands (s.checkClaims f.slots, f.slots))
  unfold State.passOutbound
  split
  · generalize allStands.foldl (State.writeStand s.cycle) (s.checkClaims f.slots, f.slots) = written
      at hwritten ⊢
    exact .of_same rfl rfl rfl hwritten
  · exact .of_same rfl rfl rfl (.refl s)

theorem State.startMarker_evolves (s : State) (f : OutFrame) : s.Evolves cmd (s.startMarker f) := by
  unfold State.startMarker
  split
  · exact .of_same rfl rfl rfl (.refl s)
  · exact (s.beginCycle_evolves f.cycle).trans (State.passOutbound_evolves _ f)

theorem State.endReturn_evolves (s : State) : s.Evolves cmd s.endReturn := by
  have hend (v : Option RetFrame) (b : Bool) :
      s.Evolves cmd { s with inFlight := none, retFrame := v, stepPending := b } := .of_same rfl rfl rfl (.refl s)
  unfold State.endReturn
  dsimp only
  split
  · split
    · exact (hend _ false).trans (State.cycleStep_evolves _ _ false)
    · exact hend _ s.stepPending
  · exact .refl s

theorem State.matchReturn_evolves (s : State) (f : RetFrame) : s.Evolves cmd (s.matchReturn f) := by
  unfold State.matchReturn; split <;> exact .of_same rfl rfl rfl (.refl s)

theorem State.beginReturn_evolves (s : State) (f : RetFrame) : s.Evolves cmd (s.beginReturn f) := by
  have hend : s.Evolves cmd { s.endReturn with outPassing := false } := .of_same rfl rfl rfl s.endReturn_evolves
  unfold State.beginReturn
  generalize { s.endReturn with outPassing := false } = s1 at hend ⊢
  dsimp only
  split
  · exact .of_same rfl rfl rfl hend
  · split
    · split
      · exact hend.trans (s1.matchReturn_evolves f)
      · exact .of_same rfl rfl rfl hend
    · exact .of_same rfl rfl rfl hend

theorem State.returnEvent_evolves (s : State) (e : RetEvent) : s.Evolves cmd (s.returnEvent e) := by
  have hpass (f : RetFrame) : s.Evolves cmd (s.passReturn f) := .of_same rfl rfl rfl (.refl s)
  cases e with
  | whole f =>
    unfold State.returnEvent
    dsimp only
    split
    · exact hpass f
    · exact (s.beginReturn_evolves f).trans (State.endReturn_evolves _)
  | head f =>
    unfold State.returnEvent
    dsimp only
    split
    · exact hpass f
    · exact s.beginReturn_evolves f
  | tail =>
    unfold State.returnEvent
    dsimp only
    split
    · exact .refl s
    · exact s.endReturn_evolves
  | early f =>
    unfold State.returnEvent
    dsimp only
    split
    · exact hpass f
    · exact .of_same rfl rfl rfl s.endReturn_evolves

theorem State.linkLossAt_evolves (s : State) (k : StandId) : s.Evolves cmd (s.linkLossAt k) :=
  .of_actsAt (fun _ => s.linkLossAt_actsAt k) fun h => h.linkLossAt k

theorem State.watchExpiry_evolves (s : State) : s.Evolves cmd s.watchExpiry := by
  unfold State.watchExpiry State.loseLink
  split
  · exact .refl s
  · have hstart : s.Evolves cmd { s with watchArmed := false, linkLost := true, outPassing := false } :=
      .of_same rfl rfl rfl (.refl s)
    have hstruck := hstart.trans (.foldl State.linkLossAt_evolves allStands _)
    exact .of_same rfl rfl rfl
      ((hstruck.trans (State.decideChanged_evolves s _)).trans (State.joinLog_evolves _))

end

end Sys2Proof.Machine
end

section
/-!
SUPPORT. The commands that are about one stand: the work of that stand, and the decisions that follow (R131, R175).
-/
namespace Sys2Proof.Machine

/-! ### The work of one stand in a command -/

/-- From s to m command `cmd` does the work of stand k, after which groups and stands agree if they did. -/
structure State.WorksAt (cmd : Instr) (k : StandId) (s m : State) : Prop where
  acts : ∀ agree : Prop, s.ActsAt cmd agree k m
  agrees : GroupsAgree s → GroupsAgree m

/-- An event of a step about stand k: nothing, or its work and the end of the event. Only a confirm timeout forms a
log entry. -/
def State.EventAt (cmd : Instr) (k : StandId) (s t : State) : Prop :=
  t = s ∨ ∃ m, s.WorksAt cmd k m ∧ (cmd ≠ .confirmTimeout k → m.formed = s.formed) ∧ t = m.endEvent

/-- A pin or a request of stand k: its work, no log entry, and the decisions of its group. -/
def State.AnsweredAt (cmd : Instr) (k : StandId) (s t : State) : Prop :=
  ∃ m, s.WorksAt cmd k m ∧ m.formed = s.formed ∧ m.GrantsIn (· = s.groupOf k) t

section
variable {cmd : Instr} {k : StandId} {s m t : State}

theorem State.WorksAt.refl (s : State) : s.WorksAt cmd k s := ⟨fun _ => .refl s, id⟩

theorem State.WorksAt.evolves (h : s.WorksAt cmd k m) : s.Evolves cmd m := .of_actsAt h.acts h.agrees

theorem State.EventAt.evolves (h : s.EventAt cmd k t) : s.Evolves cmd t := by
  rcases h with rfl | ⟨m, hworks, -, rfl⟩
  · exact .refl t
  · exact hworks.evolves.trans m.endEvent_evolves

theorem State.AnsweredAt.evolves (h : s.AnsweredAt cmd k t) : s.Evolves cmd t := by
  obtain ⟨m, hworks, -, hgrants⟩ := h
  exact hworks.evolves.trans hgrants.evolves

theorem State.WorksAt.endEvent (h : s.WorksAt cmd k m) (hformed : m.formed = s.formed) : s.EventAt cmd k m.endEvent :=
  .inr ⟨m, h, fun _ => hformed, rfl⟩

/-- R131, points 3 and 4: the decisions at the end of a pin event or a request. -/
theorem State.WorksAt.decided (h : s.WorksAt cmd k m) (hformed : m.formed = s.formed) :
    s.AnsweredAt cmd k (State.decideChanged s m) :=
  ⟨m, h, hformed, State.decideChanged_grantsIn fun g hg => ((h.acts False).groups g hg).symm⟩

theorem State.AnsweredAt.refl (s : State) : s.AnsweredAt cmd k s := ⟨s, .refl s, rfl, .refl s⟩

/-- The work is a change of the stand that the arbiters do not see. -/
theorem State.WorksAt.setStand {st : Stand} (hrole : (s.stand k).SameRole st)
    (h : ∀ agree, Stand.Moves cmd agree s.grades k (s.stand k) st) : s.WorksAt cmd k (s.setStand k st) :=
  ⟨fun agree => .setStand (h agree) (congrArg Params.group hrole.params), (State.setStand_sameRoles hrole).groupsAgree⟩

/-! ### Log entries formed -/

@[simp] theorem State.leaveGroup_formed (s : State) (k : StandId) : (s.leaveGroup k).formed = s.formed := by
  rw [State.leaveGroup_frame]; rfl

@[simp] theorem State.refreshRequest_formed (s : State) (k : StandId) : (s.refreshRequest k).formed = s.formed := by
  unfold State.refreshRequest
  dsimp only
  split
  · split <;> rfl
  · rfl

/-- R160: only a fault after the fire forms an entry. -/
theorem State.takeFault_formed {s : State} {k : StandId} (kind : FaultKind) (sig : Option StaleSignal)
    (h : (s.stand k).state.afterFire = false) : (s.takeFault k kind sig).formed = s.formed := by
  by_cases hoffline : (s.stand k).state = .offline
  · rw [s.takeFault_of_offline k kind sig hoffline]
  by_cases hfault : (s.stand k).state = .fault
  · rw [s.takeFault_of_fault k kind sig hfault]
    rfl
  rw [s.takeFault_of_service k kind sig hoffline hfault, if_neg (by simp [h])]
  exact State.leaveGroup_formed s k

theorem State.takeFault_state {s : State} {k : StandId} (kind : FaultKind) (sig : Option StaleSignal)
    (h : (s.stand k).inService = true) : ((s.takeFault k kind sig).stand k).state = .fault := by
  have hoffline : (s.stand k).state ≠ .offline := by simpa [Stand.inService] using h
  by_cases hfault : (s.stand k).state = .fault
  · rw [s.takeFault_of_fault k kind sig hfault, State.stand_modStand, if_pos rfl]
    exact (Stand.markFurther_sameRole _).state.trans hfault
  · rw [s.takeFault_of_service k kind sig hoffline hfault, State.stand_modStand, if_pos rfl]
    rfl

@[simp] theorem State.becomeInhibited_formed (s : State) (k : StandId) : (s.becomeInhibited k).formed = s.formed := by
  unfold State.becomeInhibited
  split
  · exact State.leaveGroup_formed s k
  · rfl

/-! ### The events of a step -/

theorem Stand.watchExpired_watched {st : Stand} {lineStale : Bool} {sig : StaleSignal}
    (h : (st.watchStep lineStale).watchExpired = some sig) : st.state.watched = true := by
  by_contra hnot
  simp [Stand.watchExpired, Stand.watchStep, watchCount, hnot] at h

theorem StandState.afterFire_of_watched {x : StandState} (h : x.watched = true) : x.afterFire = false := by
  cases x <;> simp_all [StandState.watched, StandState.afterFire]

theorem State.signalStale_eventAt (s : State) (k : StandId) : s.EventAt cmd k (s.signalStale k) := by
  unfold State.signalStale
  split
  · refine State.WorksAt.endEvent ⟨fun _ => s.watchStand_actsAt k _, fun h => h.watchStand k _⟩ ?_
    unfold State.watchStand
    dsimp only
    split
    case h_1 sig hsig =>
      refine State.takeFault_formed _ _ ?_
      rw [State.stand_setStand_same]
      have hwatched : (s.stand k).state.watched = true := Stand.watchExpired_watched hsig
      exact StandState.afterFire_of_watched hwatched
    case h_2 => rfl
  · exact .inl rfl

theorem State.windowComplete_eventAt (s : State) (k : StandId) (inc : BitVec 23) (travel : Angle) :
    s.EventAt cmd k (s.windowComplete k inc travel) := by
  unfold State.windowComplete
  split
  case h_1 w _ =>
    split
    · have hwindow := ((s.stand k).advanceAnchor_sameStanding inc.toNat).trans
        (Stand.advanceWindow_sameStanding _ w inc.toNat travel s.grades)
      have hlength := hwindow.trans (Stand.measureLength_sameStanding _ s.lineSpeed)
      have hmoves (agree : Prop) : Stand.Moves cmd agree s.grades k (s.stand k)
          ((((s.stand k).advanceAnchor inc.toNat).advanceWindow w inc.toNat travel s.grades).measureLength
            s.lineSpeed) :=
        ((Relation.ReflTransGen.single (.anchor inc.toNat)).trans (Stand.advanceWindow_moves _ w inc.toNat travel)).tail
          (.quiet (Stand.measureLength_core _ _))
      refine State.WorksAt.endEvent ⟨fun agree => ?_, fun h => ?_⟩ (State.refreshRequest_formed _ k)
      · exact (State.ActsAt.setStand (hmoves agree) (congrArg Params.group hlength.params)).trans
          (State.refreshRequest_actsAt _ k)
      · refine ((h.agreesBut k).setStand_sameStanding hlength).refreshRequest ?_
        rw [State.stand_setStand_same]
        exact (h.inhibitAgrees k).of_sameStanding hlength
    · exact .inl rfl
  case h_2 => exact .inl rfl

theorem State.gaugeDone_formed {s : State} {k : StandId} (dg : Nat) (h : (s.stand k).state = .checking) :
    (s.gaugeDone k dg).formed = s.formed := by
  unfold State.gaugeDone
  split
  · rfl
  · exact State.takeFault_formed _ _ (by rw [h]; rfl)

theorem State.gaugeComplete_eventAt (s : State) (k : StandId) (reading : BitVec 14) :
    s.EventAt cmd k (s.gaugeComplete k reading) := by
  unfold State.gaugeComplete
  split
  case h_1 w _ =>
    split
    · unfold State.completeGauge
      dsimp only
      have hcore := (s.stand k).countReading_core w (boundDiameter reading.toNat)
      have hrole := (s.stand k).countReading_sameRole w (boundDiameter reading.toNat)
      have hcount : s.WorksAt cmd k (s.setStand k ((s.stand k).countReading w (boundDiameter reading.toNat)).1) :=
        .setStand hrole fun _ => .quiet hcore
      split
      case isTrue hchecking =>
        have hstate : ((s.setStand k ((s.stand k).countReading w (boundDiameter reading.toNat)).1).stand k).state =
            .checking := by rw [State.stand_setStand_same, hcore.state, hchecking]
        refine State.WorksAt.endEvent ⟨fun agree => (hcount.acts agree).trans (State.gaugeDone_actsAt _ hstate),
          fun h => ?_⟩ (State.gaugeDone_formed _ hstate)
        have hagrees := hcount.agrees h
        exact (hagrees.agreesBut k).gaugeDone (hagrees.inhibitAgrees k) hstate _
      case isFalse => exact State.WorksAt.endEvent hcount rfl
    · exact .inl rfl
  case h_2 => exact .inl rfl

/-- R107: a fault verdict of a stand before its fire forms no entry. -/
theorem State.applyVerdict_fault_formed {s : State} {k : StandId} (kind : FaultKind) (further : Bool)
    (h : (s.stand k).state.watched = true) : (s.applyVerdict k (.fault kind further)).formed = s.formed := by
  have hfirst := State.takeFault_formed (s := s) (k := k) kind none (StandState.afterFire_of_watched h)
  have hservice : (s.stand k).inService = true := by
    cases hstate : (s.stand k).state <;> simp_all [StandState.watched, Stand.inService]
  unfold State.applyVerdict
  dsimp only
  split
  · rw [State.takeFault_formed _ _ (by rw [State.takeFault_state kind none hservice]; rfl), hfirst]
  · exact hfirst

theorem State.tapeLost_eventAt (s : State) (k : StandId) (travel : Angle) :
    s.EventAt cmd k (s.tapeLost k travel) := by
  unfold State.tapeLost
  dsimp only
  split
  case isTrue hdue =>
    simp only [Bool.and_eq_true] at hdue
    obtain ⟨⟨-, hwatched⟩, -⟩ := hdue
    unfold State.loseTape
    dsimp only
    have hticked : (s.stand k).SameStanding
        (if ((s.stand k).addTapeTravel travel.toNat).state = .accel then
          ((s.stand k).addTapeTravel travel.toNat).tickAccel
        else (s.stand k).addTapeTravel travel.toNat) := by
      split <;> exact ⟨⟨rfl, rfl, rfl, rfl⟩, rfl⟩
    have hcore : (s.stand k).SameCore
        (if ((s.stand k).addTapeTravel travel.toNat).state = .accel then
          ((s.stand k).addTapeTravel travel.toNat).tickAccel
        else (s.stand k).addTapeTravel travel.toNat) := by
      split <;> exact ⟨rfl, rfl, rfl, rfl, rfl, rfl, rfl, rfl, rfl, rfl, rfl, rfl, rfl⟩
    generalize (if ((s.stand k).addTapeTravel travel.toNat).state = .accel then
      ((s.stand k).addTapeTravel travel.toNat).tickAccel
      else (s.stand k).addTapeTravel travel.toNat) = st at hticked hcore ⊢
    refine State.WorksAt.endEvent ⟨fun agree => (State.ActsAt.setStand_core hcore).trans
      (State.applyVerdict_actsAt ⟨nofun, nofun, nofun⟩), fun h => ?_⟩ ?_
    · refine ((h.agreesBut k).setStand_sameStanding hticked).applyVerdict ?_ nofun nofun
      rw [State.stand_setStand_same]
      exact (h.inhibitAgrees k).of_sameStanding hticked
    · refine State.applyVerdict_fault_formed _ _ ?_
      rw [State.stand_setStand_same, hticked.state, hwatched]
  case isFalse => exact .inl rfl

theorem State.accelTimeout_eventAt (s : State) (k : StandId) : s.EventAt cmd k (s.accelTimeout k) := by
  unfold State.accelTimeout
  dsimp only
  split
  case isTrue hdue =>
    simp only [Bool.and_eq_true, beq_iff_eq] at hdue
    obtain ⟨⟨-, haccel⟩, -⟩ := hdue
    have htick : s.WorksAt cmd k (s.setStand k (s.stand k).tickAccel) :=
      .setStand (s.stand k).tickAccel_sameRole fun _ => .quiet (Stand.tickAccel_core _)
    refine State.WorksAt.endEvent ⟨fun agree => (htick.acts agree).trans (State.takeFault_actsAt _ k _ none),
      fun h => (htick.agrees h).takeFault k .accelTimeout none⟩ (State.takeFault_formed _ _ ?_)
    rw [State.stand_setStand_same, haccel]
    rfl
  case isFalse => exact .inl rfl

theorem State.confirmTimeout_eventAt (s : State) (k : StandId) :
    s.EventAt (.confirmTimeout k) k (s.confirmTimeout k) := by
  unfold State.confirmTimeout
  split
  · exact .inr ⟨_, ⟨fun _ => s.takeFault_actsAt k .confirmTimeout none, fun h => h.takeFault k .confirmTimeout none⟩,
      fun h => absurd rfl h, rfl⟩
  · exact .inl rfl

/-- R31: the signals of a stand. -/
theorem Stand.spindleStale_moves {agree : Prop} {grades : Vector Grade 16} (st : Stand) (x : Arm) :
    Stand.Moves cmd agree grades k st (st.spindleStale x) := by
  unfold Stand.spindleStale
  dsimp only
  split
  · have harm : Stand.Moves cmd agree grades k st (st.setArm x
        { st.arm x with spindle := (st.arm x).spindle.goStale (st.map.spindle x) }) :=
      .single (.arm x _ ⟨fun _ => by simp [Spindle.goStale], id⟩)
    split
    · exact harm.tail (.quiet (.window _ none))
    · exact harm
  · exact .refl

theorem Stand.gaugeStale_moves {agree : Prop} {grades : Vector Grade 16} (st : Stand) (x : Arm) :
    Stand.Moves cmd agree grades k st (st.gaugeStale x) := by
  unfold Stand.gaugeStale
  dsimp only
  split
  · exact .single (.arm x _ ⟨id, id⟩)
  · exact .refl

theorem Stand.statusStale_core (st : Stand) : st.SameCore st.statusStale := by
  unfold Stand.statusStale
  split
  · exact ⟨rfl, rfl, rfl, rfl, rfl, rfl, rfl, rfl, rfl, rfl, rfl, rfl, rfl⟩
  · exact .refl st

theorem State.signalStaleLimit_worksAt (s : State) {g : SignalName} (hg : signalStand g = some k) :
    s.WorksAt cmd k (s.signalStaleLimit g) ∧ (s.signalStaleLimit g).formed = s.formed := by
  unfold State.signalStaleLimit
  split
  · exact ⟨.refl s, rfl⟩
  · cases g with
    | line => cases hg
    | spindle j x =>
      cases hg
      exact ⟨.setStand (Stand.spindleStale_sameRole _ x) fun _ => Stand.spindleStale_moves _ x, rfl⟩
    | gauge j x =>
      cases hg
      exact ⟨.setStand (Stand.gaugeStale_sameRole _ x) fun _ => Stand.gaugeStale_moves _ x, rfl⟩
    | status j =>
      cases hg
      exact ⟨.setStand (Stand.statusStale_sameRole _) fun _ => .quiet (Stand.statusStale_core _), rfl⟩

/-! ### Pins -/

/-- R98, R100: the stand becomes inhibited, by its pin or by a request. -/
theorem State.inhibit_worksAt {s : State} {k : StandId} {st : Stand} (hcore : (s.stand k).SameCore st)
    (hstate : st.state = (s.stand k).state) (hpin : GroupsAgree s → st.pinSettled = false → st.pinAsserted = true) :
    s.WorksAt cmd k (if (s.stand k).inhibited then s.setStand k st else (s.setStand k st).becomeInhibited k) := by
  refine ⟨fun agree => ?_, fun h =>
    (State.Prepares.inhibit h hstate hcore.params hcore.running (hpin h)).1⟩
  split
  · exact .setStand_core hcore
  · exact (State.ActsAt.setStand_core hcore).trans (State.becomeInhibited_actsAt _ k)

theorem State.pinAssertion_answeredAt (s : State) (k : StandId) : s.AnsweredAt cmd k (s.pinAssertion k) := by
  unfold State.pinAssertion State.pinAssert
  dsimp only
  split
  · exact .refl s
  · refine State.WorksAt.decided (State.inhibit_worksAt (st := { s.stand k with pinAsserted := true })
      ⟨rfl, rfl, rfl, rfl, rfl, rfl, rfl, rfl, rfl, rfl, rfl, rfl, rfl⟩ rfl fun _ _ => rfl) ?_
    split
    · rfl
    · exact State.becomeInhibited_formed _ k

theorem State.pinRelease_answeredAt (s : State) (k : StandId) :
    s.AnsweredAt (.inhibitPinRelease k) k (s.pinRelease k) := by
  unfold State.pinRelease State.pinLetGo
  dsimp only
  split
  case isTrue => exact .refl s
  case isFalse hedge =>
    simp only [Bool.or_eq_true, Bool.not_eq_true', not_or, Bool.not_eq_false] at hedge
    obtain ⟨⟨-, hsettled⟩, hasserted⟩ := hedge
    have hpin (agree : Prop) : s.ActsAt (.inhibitPinRelease k) agree k
        (s.modStand k fun st => { st with pinAsserted := false, awaitsRelease := false }) :=
      .setStand_move (.edge rfl) rfl
    have hnot (h : GroupsAgree s) : (s.stand k).state.watched = false := Bool.eq_false_iff.mpr fun hw => by
      simpa [Stand.inhibited, hasserted] using (h.inhibitAgrees k).2 hw
    have hreleased (h : GroupsAgree s) : Stand.InhibitAgrees
        { s.stand k with pinAsserted := false, awaitsRelease := false } :=
      ⟨fun hunsettled => by simp [hsettled] at hunsettled, fun hw => by simp [hnot h] at hw⟩
    split
    case isTrue hfault =>
      split
      case isTrue =>
        refine State.WorksAt.decided ⟨hpin, fun h => ?_⟩ rfl
        exact (State.Prepares.setStand_rest h (by rw [hfault]; exact ⟨rfl, nofun⟩) (hfault ▸ ⟨rfl, rfl⟩)
          (hreleased h).1).1
      case isFalse harm =>
        refine State.WorksAt.decided ⟨fun agree => (hpin agree).trans (.setStand_move ?_ ?_), fun h => ?_⟩ rfl
        · have hclears : (s.stand k).needsArm = false := by simpa using harm
          rw [State.stand_modStand, if_pos rfl]
          exact .clear false hfault hclears
        · rw [((Stand.clearFault_sameSetup _ false)).params]; rfl
        · rw [State.modStand_eq, State.modStand_eq, State.setStand_setStand, State.stand_setStand_same]
          exact (State.Prepares.clearFault h hfault (hreleased h).1 false).1
    case isFalse =>
      refine State.WorksAt.decided ⟨fun agree => (hpin agree).trans (State.refreshRequest_actsAt _ k), fun h => ?_⟩
        (State.refreshRequest_formed _ k)
      exact (State.Prepares.refresh (st := { s.stand k with pinAsserted := false, awaitsRelease := false }) h rfl rfl
        rfl (hreleased h)).1

/-! ### Requests -/

/-- R62: the record of a payload has a caliper in its range. -/
theorem recordOf_caliperInRange {p : Payload} {rec : ReelRecord} (h : recordOf p = some rec) :
    rec.caliperInRange = true := by
  unfold recordOf at h
  dsimp only at h
  split at h
  case isTrue hok =>
    cases h
    simp only [recordOk, Bool.and_eq_true, Bool.or_eq_true, beq_iff_eq, decide_eq_true_eq] at hok
    obtain ⟨-, hcaliper⟩ := hok
    unfold ReelRecord.caliperInRange orAbsent
    split
    case h_1 t ht =>
      dsimp only at ht
      split at ht
      · cases ht
      case isFalse hne =>
        cases ht
        simpa using hcaliper.resolve_left hne
    case h_2 => rfl
  case isFalse => cases h

/-- The work of a request at its stand, with its answer: no log entry, and no grant but one of the stand's group. -/
def State.AnswerAt (cmd : Instr) (k : StandId) (s t : State) : Prop :=
  ∃ m, s.WorksAt cmd k m ∧ m.formed = s.formed ∧ (t = m ∨ t = m.decideGroup (s.groupOf k))

theorem State.AnswerAt.refl (s : State) : s.AnswerAt cmd k s := ⟨s, .refl s, rfl, .inl rfl⟩

theorem State.WorksAt.answerAt (h : s.WorksAt cmd k m) (hformed : m.formed = s.formed) : s.AnswerAt cmd k m :=
  ⟨m, h, hformed, .inl rfl⟩

/-- The work of stand k without a log entry. -/
def State.ActsQuietly (cmd : Instr) (k : StandId) (s m : State) : Prop :=
  (∀ agree : Prop, s.ActsAt cmd agree k m) ∧ m.formed = s.formed

theorem State.ActsQuietly.refl (s : State) : s.ActsQuietly cmd k s := ⟨fun _ => .refl s, rfl⟩

theorem State.ActsQuietly.setStand {st : Stand} (h : ∀ agree, Stand.Moves cmd agree s.grades k (s.stand k) st)
    (hgroup : st.params.group = s.groupOf k) : s.ActsQuietly cmd k (s.setStand k st) :=
  ⟨fun agree => .setStand (h agree) hgroup, rfl⟩

theorem State.ActsQuietly.refreshRequest (h : s.ActsQuietly cmd k m) : s.ActsQuietly cmd k (m.refreshRequest k) :=
  ⟨fun agree => (h.1 agree).trans (m.refreshRequest_actsAt k), (m.refreshRequest_formed k).trans h.2⟩

theorem State.ActsQuietly.answerAt (h : s.ActsQuietly cmd k m) (hagrees : GroupsAgree s → GroupsAgree m) :
    s.AnswerAt cmd k m := ⟨m, ⟨h.1, hagrees⟩, h.2, .inl rfl⟩

/-- R175: the decisions at the end of the request. -/
theorem State.AnswerAt.decided (h : s.AnswerAt cmd k t) : s.AnsweredAt cmd k (State.decideChanged s t) := by
  obtain ⟨m, hworks, hformed, rfl | rfl⟩ := h
  · exact hworks.decided hformed
  · have hfirst := m.decideGroup_grantsIn (s.groupOf k)
    refine ⟨m, hworks, hformed, hfirst.trans (State.decideChanged_grantsIn fun g hg => ?_)⟩
    rw [hfirst.group g hg, (hworks.acts False).groups g hg]

theorem State.AnswerAt.evolves (h : s.AnswerAt cmd k t) : s.Evolves cmd t := by
  obtain ⟨m, hworks, -, rfl | rfl⟩ := h
  · exact hworks.evolves
  · exact hworks.evolves.trans (m.decideGroup_grantsIn _).evolves

theorem readItemAnswer_answerAt (sel : BitVec 16) (s : State) (k : StandId) :
    s.AnswerAt cmd k (readItemAnswer sel s k).state := by
  unfold readItemAnswer; split <;> exact .refl s

theorem mapEntryAnswer_answerAt (r : Request) (sel : BitVec 16) (p : Payload) (s : State) (k : StandId) :
    s.AnswerAt (.writeSlotMapEntry r sel p) k (mapEntryAnswer sel p s k).state := by
  refine State.ActsQuietly.answerAt ?_ fun h => (mapEntryAnswer_prepares h k sel p).1
  unfold mapEntryAnswer
  dsimp only
  split
  · exact .refl s
  · split
    · exact .setStand (fun _ => .single (.map _ ⟨r, sel, p, rfl⟩)) rfl
    · exact .refl s

theorem queueReelAnswer_answerAt (p : Payload) (s : State) (k : StandId) :
    s.AnswerAt cmd k (queueReelAnswer p s k).state := by
  refine State.ActsQuietly.answerAt ?_ fun h => (queueReelAnswer_prepares h k p).1
  unfold queueReelAnswer
  dsimp only
  split
  case h_1 => exact .refl s
  case h_2 rec hrec =>
    split
    · exact .refl s
    split
    · exact .refl s
    case isFalse hroom =>
      have henqueue (agree : Prop) : Stand.Moves cmd agree s.grades k (s.stand k)
          (Stand.tryBind { s.stand k with queue := (s.stand k).queue ++ [rec] } s.stepPending) :=
        (Relation.ReflTransGen.single (.enqueue rec (by omega) (recordOf_caliperInRange hrec))).tail (.bind _)
      exact .setStand henqueue (Stand.tryBind_group _ _)

theorem withdrawAnswer_answerAt (p : Payload) (s : State) (k : StandId) :
    s.AnswerAt cmd k (withdrawAnswer p s k).state := by
  refine State.ActsQuietly.answerAt ?_ fun h => (withdrawAnswer_prepares h k p).1
  unfold withdrawAnswer
  dsimp only
  split
  · exact .refl s
  split
  · exact .setStand (fun _ => .single (.dequeue _)) rfl
  split
  · split
    case isTrue hstate =>
      exact .setStand (fun _ => .single (.drop _ hstate))
        (congrArg Params.group (Stand.dropReady_standing _ _).1.params)
    case isFalse => exact .refl s
  split <;> exact .refl s

/-- R177: the record of a STAND-ONLINE has a caliper in its range. -/
theorem onlineRecord_caliperInRange {sel : BitVec 16} {p : Payload} {q : ReelRecord}
    (h : onlineRecord sel p = some (some q)) : q.caliperInRange = true := by
  unfold onlineRecord at h
  split at h
  · obtain ⟨q', hq', heq⟩ := Option.map_eq_some_iff.mp h
    cases heq
    exact recordOf_caliperInRange hq'
  · cases h

theorem standOnlineAnswer_answerAt (r : Request) (sel : BitVec 16) (p : Payload) (s : State) (k : StandId) :
    s.AnswerAt (.standOnline r sel p) k (standOnlineAnswer sel p s k).state := by
  refine State.ActsQuietly.answerAt ?_ fun h => (standOnlineAnswer_prepares h k sel p).1
  unfold standOnlineAnswer
  dsimp only
  split
  · exact .refl s
  split
  · exact .refl s
  split
  case h_1 x mounted rec _ _ hrec =>
    split
    · refine .setStand (fun _ => .single (.online x mounted rec ⟨r, sel, p, rfl⟩ ?_)) rfl
      rintro q rfl
      exact onlineRecord_caliperInRange hrec
    · exact .refl s
  case h_2 => exact .refl s

theorem standOfflineAnswer_answerAt (r : Request) (s : State) (k : StandId) :
    s.AnswerAt (.standOffline r) k (standOfflineAnswer s k).state := by
  refine State.ActsQuietly.answerAt ?_ fun h => (standOfflineAnswer_prepares h k).1
  unfold standOfflineAnswer
  dsimp only
  split
  · exact .refl s
  split
  · exact .setStand (fun _ => .single (.offline ⟨r, rfl⟩))
      (congrArg Params.group (Stand.returnToHead_sameSetup _).params)
  · exact .refl s

theorem inhibitAnswer_answerAt (s : State) (k : StandId) : s.AnswerAt cmd k (inhibitAnswer s k).state := by
  unfold inhibitAnswer
  dsimp only
  split
  · refine State.WorksAt.answerAt (State.inhibit_worksAt (st := { s.stand k with requestInhibit := true })
      ⟨rfl, rfl, rfl, rfl, rfl, rfl, rfl, rfl, rfl, rfl, rfl, rfl, rfl⟩ rfl fun h => (h.inhibitAgrees k).1) ?_
    dsimp only [done]
    split
    · rfl
    · exact State.becomeInhibited_formed _ k
  · exact .refl s

theorem releaseAnswer_answerAt (s : State) (k : StandId) : s.AnswerAt cmd k (releaseAnswer s k).state := by
  refine State.ActsQuietly.answerAt ?_ fun h => (releaseAnswer_prepares h k).1
  unfold releaseAnswer
  dsimp only
  split
  · exact State.ActsQuietly.refreshRequest (.setStand
      (fun _ => .quiet ⟨rfl, rfl, rfl, rfl, rfl, rfl, rfl, rfl, rfl, rfl, rfl, rfl, rfl⟩) rfl)
  · exact .refl s

theorem spliceNowAnswer_answerAt (s : State) (k : StandId) : s.AnswerAt cmd k (spliceNowAnswer s k).state := by
  have hforced : s.ActsQuietly cmd k (s.setStand k { s.stand k with forced := true }) :=
    .setStand (fun _ => .quiet ⟨rfl, rfl, rfl, rfl, rfl, rfl, rfl, rfl, rfl, rfl, rfl, rfl, rfl⟩) rfl
  refine State.ActsQuietly.answerAt ?_ fun h => (spliceNowAnswer_prepares h k).1
  unfold spliceNowAnswer
  dsimp only
  split
  case h_1 => exact .refl s
  case h_2 => exact .refl s
  case h_3 => exact .refl s
  case h_4 => exact hforced
  case h_5 => exact hforced
  case h_6 => exact hforced.refreshRequest
  case h_7 => exact .refl s

theorem clearFaultAnswer_answerAt (sel : BitVec 16) (s : State) (k : StandId) :
    s.AnswerAt cmd k (clearFaultAnswer sel s k).state := by
  unfold clearFaultAnswer
  dsimp only
  split
  · exact .refl s
  split
  · exact .refl s
  split
  case isTrue hfault =>
    have hclear {st : Stand} (hsetup : (s.stand k).SameSetup st) (hsame : (s.stand k).SameSetting st)
        (hmove : ∀ agree, (s.stand k).Move cmd agree s.grades k (st.clearFault s.stepPending)) :
        s.AnswerAt cmd k (s.clearWith k st) := by
      have hcleared := hsetup.trans (Stand.clearFault_sameSetup st s.stepPending)
      refine ⟨_, ⟨fun agree => .setStand_move (hmove agree) (congrArg Params.group hcleared.params), fun h => ?_⟩, rfl,
        .inr rfl⟩
      refine (State.Prepares.clearFault h hfault ?_ s.stepPending).1
      rw [hsame.pinSettled, hsame.pinAsserted]
      exact (h.inhibitAgrees k).1
    split
    case isTrue harm =>
      split
      · exact .refl s
      · exact hclear (Stand.nameArm_sameSetup _ _ s.grades) (Stand.nameArm_sameSetting _ _ s.grades)
          fun _ => .clearNamed _ _ hfault harm
    case isFalse harm =>
      exact hclear (.refl _) (.refl _) fun _ => .clear _ hfault (by simpa using harm)
  case isFalse => exact .refl s

/-- R183: the write of a parameter; its stand may change its group. -/
theorem parameterAnswer_cases {sel : BitVec 16} (p : Payload) (s : State) (k : StandId)
    (hsel : itemIndex sel < 18) :
    (parameterAnswer sel p s k).state = s ∨
      ∃ (i : Fin 18) (v : Nat), paramInRange i v = true ∧ (s.stand k).params.linkOk i v = true ∧
        (parameterAnswer sel p s k).state =
          s.setStand k { s.stand k with params := (s.stand k).params.set i v } := by
  unfold parameterAnswer
  dsimp only
  split
  · exact .inl rfl
  split
  · exact .inl rfl
  split
  · exact .inl rfl
  case isFalse hbusy hrange hlink =>
    exact .inr ⟨⟨itemIndex sel, hsel⟩, _, by simpa using hrange, by simpa using hlink, rfl⟩

theorem parameterAnswer_evolves (r : Request) {sel : BitVec 16} (p : Payload) (s : State) (k : StandId)
    (hsel : itemIndex sel < 18) :
    s.Evolves (.writeStandParameter r sel p) (parameterAnswer sel p s k).state := by
  intro agree hs
  have hagrees (ha : agree) := (parameterAnswer_prepares (hs ha) k sel p).1
  rcases parameterAnswer_cases p s k hsel with h | ⟨i, v, hrange, hlink, h⟩
  · rw [h]; exact ⟨hs, rfl, fun _ => .refl⟩
  · rw [h] at hagrees ⊢
    refine ⟨hagrees, rfl, fun j => ?_⟩
    rw [State.stand_setStand]
    split
    case isTrue hj =>
      subst hj
      exact .single (.param i v ⟨r, sel, p, rfl⟩ hrange hlink)
    case isFalse => exact .refl

end

end Sys2Proof.Machine
end

section
/-!
SUPPORT. Every command but a reset and a grade table write makes moves of the stands (O55, O56, O59), and O59.
-/
namespace Sys2Proof.Machine

section
variable {cmd : Instr}

/-! ### The remaining events and pins -/

theorem State.signalStaleLimit_evolves (s : State) (g : SignalName) : s.Evolves cmd (s.signalStaleLimit g) := by
  have hmapped {k : StandId} (hg : signalStand g = some k) : s.Evolves cmd (s.signalStaleLimit g) :=
    (s.signalStaleLimit_worksAt hg).1.evolves
  cases g with
  | line =>
    unfold State.signalStaleLimit State.lineStale
    dsimp only
    split
    · exact .refl s
    split
    case h_1 e _ =>
      split
      · have hline : s.Evolves cmd { s with line := { s.line with cap := s.line.cap.age e.divisor.limit, hist := [] } } :=
          .of_same rfl rfl rfl (.refl s)
        exact hline.trans (.foldl (State.modStand_evolves Stand.noWindow_sameRole
          fun _ _ _ st => .quiet (.window st none)) allStands _)
      · exact .refl s
    case h_2 => exact .refl s
  | spindle k x => exact hmapped rfl
  | gauge k x => exact hmapped rfl
  | status k => exact hmapped rfl

theorem State.spacingEnd_evolves (s : State) (g : GroupId) (inc : BitVec 23) : s.Evolves cmd (s.spacingEnd g inc) := by
  unfold State.spacingEnd
  split
  · exact (s.countDownGroup_evolves inc.toNat g).trans (State.endEvent_evolves _)
  · exact .refl s

theorem Stand.settlePin_core (st : Stand) (steady high : Bool) : st.SameCore (st.settlePin steady high) := by
  unfold Stand.settlePin
  split
  · exact ⟨rfl, rfl, rfl, rfl, rfl, rfl, rfl, rfl, rfl, rfl, rfl, rfl, rfl⟩
  · exact .refl st

theorem State.settlePins_evolves (s : State) (steady high : BitVec 8) : s.Evolves cmd (s.settlePins steady high) := by
  unfold State.settlePins
  split
  · exact .refl s
  · exact .foldl (fun t k => .of_actsAt (k := k) (fun _ => .setStand_core (Stand.settlePin_core _ _ _))
      fun h => (t.settlePin_keepsAgreement k _ _ h).1) allStands s

/-! ### Requests -/

theorem State.answer_evolves {s : State} (r : Request) (kind : BitVec 4) {a : Answer}
    (h : s.Evolves cmd a.state) : s.Evolves cmd (s.answer r kind a) :=
  .of_same rfl rfl rfl (h.trans (State.decideChanged_evolves s a.state))

/-- What a request makes of the stands is what its answer, and the decisions after it, make of them (R175). -/
theorem State.serve_evolves {s : State} (r : Request) (kind : BitVec 4) {ok : Bool} {f : StandId → Answer}
    (h : ok = true → ∀ k, s.Evolves cmd (f k).state) : s.Evolves cmd (s.serve r kind ok f) := by
  have hbad : s.Evolves cmd (s.answer r kind (refuse s .badRequest)) := State.answer_evolves r kind (.refl s)
  unfold State.serve
  split
  · split
    · split
      case isTrue hok => exact State.answer_evolves r kind (h hok _)
      case isFalse => exact hbad
    · exact hbad
  · exact .of_same rfl rfl rfl (.refl s)

theorem State.setGroup_stagger_evolves (s : State) (g : GroupId) (n : Nat) :
    s.Evolves cmd (s.setGroup g { s.group g with stagger := n }) :=
  fun _ hs => ⟨fun ha => GroupsAgree.setGroup (hs ha) (fun _ => .rfl) fun _ => rfl, rfl, fun _ => .refl⟩

theorem lineMapAnswer_evolves (sel : BitVec 16) (p : Payload) (s : State) (k : StandId) :
    s.Evolves cmd (lineMapAnswer sel p s k).state := by
  unfold lineMapAnswer
  split
  · exact .refl s
  · split <;> exact .of_same rfl rfl rfl (.refl s)

theorem imageMapAnswer_evolves (sel : BitVec 16) (p : Payload) (s : State) (k : StandId) :
    s.Evolves cmd (imageMapAnswer sel p s k).state := by
  unfold imageMapAnswer
  split
  · exact .refl s
  · split <;> exact .of_same rfl rfl rfl (.refl s)

theorem readLogAnswer_evolves (sel : BitVec 16) (s : State) : s.Evolves cmd (readLogAnswer sel s).state := by
  unfold readLogAnswer; split <;> exact .refl s

theorem ackLogAnswer_evolves (s : State) : s.Evolves cmd (ackLogAnswer s).state := by
  unfold ackLogAnswer; split <;> exact .of_same rfl rfl rfl (.refl s)

theorem itemIndex_of_writable {sel : BitVec 16} (h : writable 1 sel = true) : itemIndex sel < 18 := by
  simp only [writable, Bool.and_eq_true, decide_eq_true_eq] at h
  exact h.2

end

/-! ### Every command -/

/-- Every command but the two of RESET and the write of a grade makes moves of the stands. -/
theorem exec_evolves (i : Instr) (s : State) (hassert : i ≠ .resetAssertion) (hrelease : ∀ a, i ≠ .resetRelease a)
    (hgrade : ∀ r sel p, i ≠ .writeGradeTableEntry r sel p) : ∃ t, exec i s = .next t ∧ s.Evolves i t := by
  cases i with
  | outboundStartMarker f => exact ⟨_, rfl, s.startMarker_evolves f⟩
  | returnFrame e => exact ⟨_, rfl, s.returnEvent_evolves e⟩
  | signalStaleLimit g => exact ⟨_, rfl, s.signalStaleLimit_evolves g⟩
  | signalStale k => exact ⟨_, rfl, (s.signalStale_eventAt k).evolves⟩
  | runningDiameterWindowComplete k inc travel => exact ⟨_, rfl, (s.windowComplete_eventAt k inc travel).evolves⟩
  | gaugeWindowComplete k reading => exact ⟨_, rfl, (s.gaugeComplete_eventAt k reading).evolves⟩
  | tapeLost k travel => exact ⟨_, rfl, (s.tapeLost_eventAt k travel).evolves⟩
  | accelTimeout k => exact ⟨_, rfl, (s.accelTimeout_eventAt k).evolves⟩
  | confirmTimeout k => exact ⟨_, rfl, (s.confirmTimeout_eventAt k).evolves⟩
  | spacingEnd g inc => exact ⟨_, rfl, s.spacingEnd_evolves g inc⟩
  | linkLoss => exact ⟨_, rfl, s.watchExpiry_evolves⟩
  | resetAssertion => exact absurd rfl hassert
  | resetRelease addr => exact absurd rfl (hrelease addr)
  | inhibitFilterSettle steady high => exact ⟨_, rfl, s.settlePins_evolves steady high⟩
  | inhibitPinAssertion k => exact ⟨_, rfl, (s.pinAssertion_answeredAt k).evolves⟩
  | inhibitPinRelease k => exact ⟨_, rfl, (s.pinRelease_answeredAt k).evolves⟩
  | readItem r sel => exact ⟨_, rfl, State.serve_evolves r 1 fun _ k => (readItemAnswer_answerAt sel s k).evolves⟩
  | writeStandParameter r sel p =>
    exact ⟨_, rfl, State.serve_evolves r 2 fun hok k => parameterAnswer_evolves r p s k (itemIndex_of_writable hok)⟩
  | writeSlotMapEntry r sel p =>
    exact ⟨_, rfl, State.serve_evolves r 2 fun _ k => (mapEntryAnswer_answerAt r sel p s k).evolves⟩
  | writeLineMap r sel p => exact ⟨_, rfl, State.serve_evolves r 2 fun _ k => lineMapAnswer_evolves sel p s k⟩
  | writeImageMap r sel p => exact ⟨_, rfl, State.serve_evolves r 2 fun _ k => imageMapAnswer_evolves sel p s k⟩
  | writeGradeTableEntry r sel p => exact absurd rfl (hgrade r sel p)
  | writeGroupTableEntry r sel p =>
    exact ⟨_, rfl, State.serve_evolves r 2 fun _ k => s.setGroup_stagger_evolves _ _⟩
  | queueReel r p => exact ⟨_, rfl, State.serve_evolves r 3 fun _ k => (queueReelAnswer_answerAt p s k).evolves⟩
  | withdrawReel r p => exact ⟨_, rfl, State.serve_evolves r 4 fun _ k => (withdrawAnswer_answerAt p s k).evolves⟩
  | standOnline r sel p =>
    exact ⟨_, rfl, State.serve_evolves r 5 fun _ k => (standOnlineAnswer_answerAt r sel p s k).evolves⟩
  | standOffline r => exact ⟨_, rfl, State.serve_evolves r 6 fun _ k => (standOfflineAnswer_answerAt r s k).evolves⟩
  | inhibit r => exact ⟨_, rfl, State.serve_evolves r 7 fun _ k => (inhibitAnswer_answerAt s k).evolves⟩
  | release r => exact ⟨_, rfl, State.serve_evolves r 8 fun _ k => (releaseAnswer_answerAt s k).evolves⟩
  | spliceNow r => exact ⟨_, rfl, State.serve_evolves r 9 fun _ k => (spliceNowAnswer_answerAt s k).evolves⟩
  | clearFault r sel => exact ⟨_, rfl, State.serve_evolves r 10 fun _ k => (clearFaultAnswer_answerAt sel s k).evolves⟩
  | readLog r sel => exact ⟨_, rfl, State.serve_evolves r 11 fun _ _ => readLogAnswer_evolves sel s⟩
  | ackLog r => exact ⟨_, rfl, State.serve_evolves r 12 fun _ _ => ackLogAnswer_evolves s⟩
  | unknownKindRequest r kind => exact ⟨_, rfl, State.serve_evolves r kind fun _ _ => .refl s⟩

/-- R66, R67, R72: moves keep the contexts of a stand. -/
theorem Stand.Moves.contextsAgree {cmd : Instr} {grades : Vector Grade 16} {k : StandId} {st st' : Stand}
    (h : Stand.Moves cmd True grades k st st') (hst : st.contextsAgree = true) : st'.contextsAgree = true := by
  induction h with
  | refl => exact hst
  | tail _ hmove ih => exact hmove.contextsAgree ih

/-! ### The other commands -/

/-- R187: from a RESET every stand is as after reset, or no RESET came. -/
theorem exec_reset_stand {i : Instr} {s t : State} (hreset : i = .resetAssertion ∨ ∃ a, i = .resetRelease a)
    (h : exec i s = .next t) : t = s ∨ (∀ k, t.stand k = .afterReset) ∧ t.line = ⟨.entry, none, []⟩ ∧
      t.lineSpeed = 0 ∧ t.lineInc = 0 ∧ t.grades = (State.afterReset 0).grades ∧ t.log = [] ∧ t.formed = [] ∧
      t.outPassing = false ∧ t.pending = s.pending := by
  have hstand (k : StandId) : (Vector.replicate 8 Stand.afterReset)[k] = .afterReset := by
    simp
  rcases hreset with rfl | ⟨a, rfl⟩
  · cases h
    unfold State.assertReset
    split
    · exact .inl rfl
    · exact .inr ⟨hstand, rfl, rfl, rfl, rfl, rfl, rfl, rfl, rfl⟩
  · cases h
    unfold State.releaseReset
    split
    · exact .inr ⟨hstand, rfl, rfl, rfl, rfl, rfl, rfl, rfl, rfl⟩
    · exact .inl rfl

/-- R175: a request that changes no group takes no decision. -/
theorem State.answer_of_same_groups {s : State} (r : Request) (kind : BitVec 4) {a : Answer}
    (h : a.state.groups = s.groups) :
    s.answer r kind a = { a.state with
      heldReply := some ⟨s.nodeAddr, kind, r.stand, a.code, a.payload⟩, outPassing := false } := by
  unfold State.answer
  rw [State.decideChanged_of_same s a.state fun g => by rw [State.group, State.group, h]]

/-- R186: the write of a grade changes the table alone, to a grade in its ranges, if anything. -/
theorem exec_writeGrade {r : Request} {sel : BitVec 16} {p : Payload} {s t : State}
    (h : exec (.writeGradeTableEntry r sel p) s = .next t) :
    ∃ gr reply, t = { s with grades := gr, heldReply := reply, outPassing := false } ∧
      ((∀ i : Fin 16, s.grades[i].inRange = true) → ∀ i : Fin 16, gr[i].inRange = true) := by
  cases h
  have hkeep (u : State) (hu : ∃ reply, u = { s with heldReply := reply, outPassing := false }) :
      ∃ gr reply, u = { s with grades := gr, heldReply := reply, outPassing := false } ∧
        ((∀ i : Fin 16, s.grades[i].inRange = true) → ∀ i : Fin 16, gr[i].inRange = true) := by
    obtain ⟨reply, rfl⟩ := hu
    exact ⟨s.grades, reply, rfl, id⟩
  by_cases htakes : s.takes r = true
  · by_cases hbad : 8 ≤ r.stand.toNat ∨ writable 5 sel = false
    · rw [State.serve_of_bad s r 2 _ _ htakes hbad]
      exact hkeep _ ⟨_, rfl⟩
    · obtain ⟨hstand, hsel⟩ := not_or.mp hbad
      rw [Bool.not_eq_false] at hsel
      rw [hsel, State.serve_of_taken s r 2 _ ⟨r.stand.toNat, by omega⟩ ⟨htakes, rfl⟩]
      unfold gradeAnswer
      split
      case h_1 g hg =>
        refine ⟨s.grades.set (Fin.ofNat 16 (itemIndex sel)) g, _, State.answer_of_same_groups r 2 rfl, ?_⟩
        · intro hgrades i
          rw [Fin.getElem_fin, Vector.getElem_set]
          split
          · unfold gradeOf at hg
            dsimp only at hg
            split at hg
            case isTrue hrange =>
              cases hg
              simpa [Grade.inRange, and_assoc] using hrange
            case isFalse => cases hg
          · exact hgrades i
      case h_2 =>
        rw [State.answer_refuse]
        exact hkeep _ ⟨_, rfl⟩
  · rw [State.serve_of_not_taken s r 2 _ _ (by simpa using htakes)]
    exact hkeep _ ⟨s.heldReply, rfl⟩

/-- Settles O59: a command moves every stand, and no move of a part whose grants go to stands in MATCHED leaves a
stand with other contexts than those of its state; after a RESET no stand is in service. -/
theorem stepKeepsContextsAgree : Obligations.StepKeepsContextsAgree := by
  intro s t hagree hcontexts hstep
  unfold step at hstep
  split at hstep
  case h_2 =>
    cases hstep
    exact hcontexts
  case h_1 c rest _ =>
    by_cases hreset : c = .resetAssertion ∨ ∃ a, c = .resetRelease a
    · rcases exec_reset_stand hreset hstep with rfl | ⟨hstands, -⟩
      · exact hcontexts
      · exact fun k => by rw [hstands]; rfl
    by_cases hgrade : ∃ r sel p, c = .writeGradeTableEntry r sel p
    · obtain ⟨r, sel, p, rfl⟩ := hgrade
      obtain ⟨gr, reply, rfl, -⟩ := exec_writeGrade hstep
      exact hcontexts
    · push Not at hreset hgrade
      obtain ⟨u, hu, hevolves⟩ := exec_evolves c { s with pending := rest } hreset.1 hreset.2 hgrade
      cases hu.symm.trans hstep
      obtain ⟨-, -, hmoves⟩ := hevolves True fun _ => hagree
      exact fun k => (hmoves k).contextsAgree (hcontexts k)

end Sys2Proof.Machine
end

section
/-!
SUPPORT. What the part's own work leaves of everything but the stands: the link, the maps and tables, the frames; and
the bounds of the log and of LINE (R36, R40, R42, R159). Then O56.
-/
namespace Sys2Proof.Machine

/-! ### The part's own work -/

/-- From s to t nothing changes but LINE with its speed and increment, groups, stands, the log, the entries formed and
the free index: what the steps of a cycle and the events of a step write. -/
def State.OnlyWork (s t : State) : Prop :=
  t = { s with
    line := t.line, lineSpeed := t.lineSpeed, lineInc := t.lineInc, groups := t.groups, stands := t.stands
    log := t.log, overrun := t.overrun, formed := t.formed, freeIndex := t.freeIndex }

section
variable {cmd : Instr} {agree : Prop} {k : StandId} {s t u : State}

theorem State.OnlyWork.refl (s : State) : s.OnlyWork s := rfl

theorem State.OnlyWork.trans (h : s.OnlyWork t) (h' : t.OnlyWork u) : s.OnlyWork u := by
  unfold State.OnlyWork at h h' ⊢
  rw [h', h]

theorem State.OnlyWork.foldl {α : Type} {f : State → α → State} (h : ∀ (s : State) (a : α), s.OnlyWork (f s a))
    (l : List α) (s : State) : s.OnlyWork (l.foldl f s) := by
  induction l generalizing s with
  | nil => exact .refl s
  | cons a l ih => exact (h s a).trans (ih _)

theorem State.ActsAt.onlyWork (h : s.ActsAt cmd agree k t) : s.OnlyWork t := by
  have hframe := h.frame
  unfold State.OnlyWork
  rw [hframe]

theorem State.GrantsIn.onlyWork {G : GroupId → Prop} (h : s.GrantsIn G t) : s.OnlyWork t := by
  have hframe := h.frame
  unfold State.OnlyWork
  rw [hframe]

theorem State.joinLog_onlyWork (s : State) : s.OnlyWork s.joinLog := by
  unfold State.OnlyWork
  rw [State.joinLog_frame]

theorem State.decideAll_onlyWork (s : State) : s.OnlyWork s.decideAll :=
  (State.decideAll_grantsIn (G := fun _ => True) fun _ h => absurd trivial h).onlyWork

theorem State.decideChanged_onlyWork (before s : State) : s.OnlyWork (State.decideChanged before s) :=
  (State.decideChanged_grantsIn (G := fun _ => True) fun _ h => absurd trivial h).onlyWork

theorem State.modStand_onlyWork (s : State) (k : StandId) (f : Stand → Stand) : s.OnlyWork (s.modStand k f) := rfl

/-! ### The log (R159, R163) -/

theorem State.foldl_appendEntry_log_length (l : List LogEntry) {s : State} (h : s.log.length ≤ 32) :
    (l.foldl State.appendEntry s).log.length ≤ 32 := by
  induction l generalizing s with
  | nil => exact h
  | cons e l ih => exact ih (pushEntry_length s.log e h)

theorem State.joinLog_logBounded {s : State} (h : s.log.length ≤ 32) : LogBounded s.joinLog :=
  ⟨State.foldl_appendEntry_log_length _ h, by rw [State.joinLog_frame]⟩

/-! ### Bounds kept -/

/-- From s to t the queue of commands is kept, and so are the bounds of the log and of LINE. -/
structure State.KeepsBounds (s t : State) : Prop where
  pending : t.pending = s.pending
  log : LogBounded s → LogBounded t
  hist : s.line.hist.length ≤ 17 → t.line.hist.length ≤ 17
  speed : s.lineSpeed < 2 ^ 23 → t.lineSpeed < 2 ^ 23
  inc : s.lineInc < 2 ^ 23 → t.lineInc < 2 ^ 23

theorem State.KeepsBounds.refl (s : State) : s.KeepsBounds s := ⟨rfl, id, id, id, id⟩

theorem State.KeepsBounds.trans (h : s.KeepsBounds t) (h' : t.KeepsBounds u) : s.KeepsBounds u :=
  ⟨h'.pending.trans h.pending, h'.log ∘ h.log, h'.hist ∘ h.hist, h'.speed ∘ h.speed, h'.inc ∘ h.inc⟩

theorem State.KeepsBounds.foldl {α : Type} {f : State → α → State} (h : ∀ (s : State) (a : α), s.KeepsBounds (f s a))
    (l : List α) (s : State) : s.KeepsBounds (l.foldl f s) := by
  induction l generalizing s with
  | nil => exact .refl s
  | cons a l ih => exact (h s a).trans (ih _)

/-- Only log, LINE, speed, increment and the queue of commands count. -/
theorem State.KeepsBounds.of_same (h : s.KeepsBounds t) (hpending : u.pending = t.pending) (hlog : u.log = t.log)
    (hformed : u.formed = t.formed) (hline : u.line = t.line) (hspeed : u.lineSpeed = t.lineSpeed)
    (hinc : u.lineInc = t.lineInc) : s.KeepsBounds u where
  pending := hpending.trans h.pending
  log := fun hs => by unfold LogBounded; rw [hlog, hformed]; exact h.log hs
  hist := fun hs => hline ▸ h.hist hs
  speed := fun hs => hspeed ▸ h.speed hs
  inc := fun hs => hinc ▸ h.inc hs

/-- Work that touches only stands, groups and the entries formed, and the joining of the log that follows. -/
theorem State.KeepsBounds.joined (hframe : t = { s with groups := t.groups, stands := t.stands, formed := t.formed }) :
    s.KeepsBounds t.joinLog := by
  have hsame : s.KeepsBounds { s with groups := t.groups, stands := t.stands } :=
    .of_same (.refl s) rfl rfl rfl rfl rfl rfl
  have hlog (h : LogBounded s) : LogBounded t.joinLog := State.joinLog_logBounded (by rw [hframe]; exact h.1)
  rw [State.joinLog_frame] at hlog ⊢
  refine ⟨?_, hlog, ?_, ?_, ?_⟩ <;> rw [hframe]
  · exact id
  · exact id
  · exact id

theorem State.ActsAt.endEvent_keepsBounds (h : s.ActsAt cmd agree k t) : s.KeepsBounds t.endEvent := by
  have hdecided := (State.decideAll_grantsIn (G := fun _ => True) (s := t) fun _ h => absurd trivial h).frame
  have hframe := h.frame
  refine .of_same (State.KeepsBounds.joined (t := t.decideAll) ?_) rfl rfl rfl rfl rfl rfl
  rw [hdecided, hframe]

theorem State.EventAt.keepsBounds (h : s.EventAt cmd k t) : s.KeepsBounds t ∧ s.OnlyWork t := by
  rcases h with rfl | ⟨m, hworks, -, rfl⟩
  · exact ⟨.refl t, .refl t⟩
  · have hacts := hworks.acts False
    refine ⟨hacts.endEvent_keepsBounds, ?_⟩
    have hwork := (hacts.onlyWork.trans m.decideAll_onlyWork).trans (State.joinLog_onlyWork _)
    unfold State.OnlyWork at hwork ⊢
    unfold State.endEvent
    rw [hwork]

/-- R175: an answered request or pin event touches only stands and groups. -/
theorem State.AnsweredAt.frame (h : s.AnsweredAt cmd k t) : t = { s with groups := t.groups, stands := t.stands } := by
  obtain ⟨m, hworks, hformed, hgrants⟩ := h
  have hacts := (hworks.acts False).frame
  have hframe := hgrants.frame
  rw [hframe, hacts, hformed]

theorem State.KeepsBounds.of_frame (h : t = { s with groups := t.groups, stands := t.stands }) : s.KeepsBounds t := by
  rw [h]; exact .of_same (.refl s) rfl rfl rfl rfl rfl rfl

/-! ### The step of a cycle -/

theorem speedOf_lt {h : List (BitVec 24)} {old : Nat} (hold : old < 2 ^ 23) : speedOf h old < 2 ^ 23 := by
  unfold speedOf
  split
  · split
    · split
      · assumption
      · decide
    · exact hold
  · exact hold

theorem lineIncrement_lt (before after : Option (BitVec 24)) : lineIncrement before after < 2 ^ 23 := by
  unfold lineIncrement
  split
  · split
    · assumption
    · decide
  · decide

theorem Line.step_hist_length (g : Line) (e : Option RetEntry) (samples : Option (Vector Slot 96))
    (passedOver : Bool) (h : g.hist.length ≤ 17) : (g.step e samples passedOver).hist.length ≤ 17 := by
  unfold Line.step
  dsimp only
  split
  case h_1 sl _ _ =>
    have hpushed := stepHistory_length g.hist (g.cap.take (entryLimit e) (entrySlot e samples)).1
      (some (linePosition sl.payload)) passedOver h
    exact hpushed
  case h_2 => exact stepHistory_length g.hist _ _ passedOver h

theorem State.lineStep_keepsBounds (s : State) (samples : Option (Vector Slot 96)) (passedOver : Bool) :
    s.KeepsBounds (s.lineStep samples passedOver).1 := by
  unfold State.lineStep
  split
  · exact .refl s
  · exact ⟨rfl, id, Line.step_hist_length _ _ _ _, speedOf_lt, fun _ => lineIncrement_lt _ _⟩

theorem State.lineStep_onlyWork (s : State) (samples : Option (Vector Slot 96)) (passedOver : Bool) :
    s.OnlyWork (s.lineStep samples passedOver).1 := by
  unfold State.lineStep
  split <;> rfl

/-- What the stands' part of a cycle's steps leaves: all but stands, groups and entries formed. -/
theorem State.foldl_standStep_frame (samples : Option (Vector Slot 96)) (passedOver : Bool) (lh : LineHand)
    (l : List StandId) (s : State) :
    l.foldl (State.standStep samples passedOver lh) s = { s with
      groups := (l.foldl (State.standStep samples passedOver lh) s).groups
      stands := (l.foldl (State.standStep samples passedOver lh) s).stands
      formed := (l.foldl (State.standStep samples passedOver lh) s).formed } := by
  induction l generalizing s with
  | nil => rfl
  | cons k l ih =>
    have hframe := (State.standStep_actsAt (cmd := .linkLoss) (agree := False) samples passedOver lh s k).frame
    rw [List.foldl_cons, ih, hframe]

theorem State.countDown_frame (s : State) (inc : Nat) : s.countDown inc = { s with groups := (s.countDown inc).groups } :=
  rfl

/-- The whole of a cycle's steps, but for the work on LINE, touches stands, groups and the log. -/
theorem State.cycleStep_frame (s : State) (samples : Option (Vector Slot 96)) (passedOver : Bool) :
    s.cycleStep samples passedOver = { (s.lineStep samples passedOver).1 with
      groups := (s.cycleStep samples passedOver).groups
      stands := (s.cycleStep samples passedOver).stands
      log := (s.cycleStep samples passedOver).log
      overrun := (s.cycleStep samples passedOver).overrun
      formed := []
      freeIndex := s.freeIndex + 1 } := by
  have hstands := State.foldl_standStep_frame samples passedOver (s.lineStep samples passedOver).2 allStands
    ((s.lineStep samples passedOver).1.countDown (s.lineStep samples passedOver).2.increment)
  have hdecided := (State.decideAll_grantsIn (G := fun _ => True)
    (s := allStands.foldl (State.standStep samples passedOver (s.lineStep samples passedOver).2)
      ((s.lineStep samples passedOver).1.countDown (s.lineStep samples passedOver).2.increment))
    fun _ h => absurd trivial h).frame
  have hjoined := State.joinLog_frame (State.decideAll
    (allStands.foldl (State.standStep samples passedOver (s.lineStep samples passedOver).2)
      ((s.lineStep samples passedOver).1.countDown (s.lineStep samples passedOver).2.increment)))
  unfold State.cycleStep
  dsimp only
  rw [hjoined, hdecided, hstands, State.countDown_frame]

theorem State.cycleStep_onlyWork (s : State) (samples : Option (Vector Slot 96)) (passedOver : Bool) :
    s.OnlyWork (s.cycleStep samples passedOver) := by
  have hline := s.lineStep_onlyWork samples passedOver
  unfold State.OnlyWork at hline ⊢
  rw [State.cycleStep_frame, hline]

theorem State.cycleStep_keepsBounds (s : State) (samples : Option (Vector Slot 96)) (passedOver : Bool) :
    s.KeepsBounds (s.cycleStep samples passedOver) := by
  have hstands := State.foldl_standStep_frame samples passedOver (s.lineStep samples passedOver).2 allStands
    ((s.lineStep samples passedOver).1.countDown (s.lineStep samples passedOver).2.increment)
  have hdecided := (State.decideAll_grantsIn (G := fun _ => True)
    (s := allStands.foldl (State.standStep samples passedOver (s.lineStep samples passedOver).2)
      ((s.lineStep samples passedOver).1.countDown (s.lineStep samples passedOver).2.increment))
    fun _ h => absurd trivial h).frame
  refine .of_same ((s.lineStep_keepsBounds samples passedOver).trans
    (State.KeepsBounds.joined (t := State.decideAll (allStands.foldl
      (State.standStep samples passedOver (s.lineStep samples passedOver).2)
      ((s.lineStep samples passedOver).1.countDown (s.lineStep samples passedOver).2.increment))) ?_))
    rfl rfl rfl rfl rfl rfl
  rw [hdecided, hstands, State.countDown_frame]

end

end Sys2Proof.Machine
end

section
/-!
SUPPORT. What the press link's commands leave of the part, the bounds they keep, and O56.
-/
namespace Sys2Proof.Machine

/-- As `OnlyWork`, with the engine cycle and the mark of its step: what the advance of the cycle writes. -/
def State.OnlySteps (s t : State) : Prop :=
  t = { s with
    engineCycle := t.engineCycle, stepPending := t.stepPending
    line := t.line, lineSpeed := t.lineSpeed, lineInc := t.lineInc, groups := t.groups, stands := t.stands
    log := t.log, overrun := t.overrun, formed := t.formed, freeIndex := t.freeIndex }

section
variable {cmd : Instr} {agree : Prop} {k : StandId} {s t u : State}

theorem State.OnlyWork.onlySteps (h : s.OnlyWork t) : s.OnlySteps t := by
  unfold State.OnlyWork at h
  unfold State.OnlySteps
  rw [h]

theorem State.OnlySteps.refl (s : State) : s.OnlySteps s := rfl

theorem State.OnlySteps.trans (h : s.OnlySteps t) (h' : t.OnlySteps u) : s.OnlySteps u := by
  unfold State.OnlySteps at h h' ⊢
  rw [h', h]

/-! ### The advance of the cycle -/

theorem State.pendingStep_onlySteps (s : State) : s.OnlySteps s.pendingStep := by
  have hmark : s.OnlySteps { s with stepPending := false } := rfl
  unfold State.pendingStep
  split
  · exact hmark.trans (State.cycleStep_onlyWork _ none false).onlySteps
  · exact .refl s

theorem State.passOver_onlySteps (n : Nat) (s : State) : s.OnlySteps (State.passOver n s) := by
  induction n generalizing s with
  | zero => exact .refl s
  | succ n ih =>
    have hnext : s.OnlySteps { s with engineCycle := some (s.cycle + 1) } := rfl
    exact (hnext.trans (State.cycleStep_onlyWork _ none true).onlySteps).trans (ih _)

theorem State.dropFires_onlyWork (s : State) : s.OnlyWork s.dropFires :=
  .foldl (fun t k => t.modStand_onlyWork k Stand.dropFire) allStands s

theorem State.restart_onlyWork (s : State) : s.OnlyWork s.restart := by
  have hline : s.OnlyWork { s with line := { s.line with hist := [] } } := rfl
  exact hline.trans (.foldl (fun t k => t.modStand_onlyWork k Stand.restart) allStands _)

theorem State.advanceCycle_onlySteps (s : State) (c : Word) (d : Nat) : s.OnlySteps (s.advanceCycle c d) := by
  have hdrop : s.OnlySteps (if d = 1 then s else s.dropFires) := by
    split
    · exact .refl s
    · exact s.dropFires_onlyWork.onlySteps
  have hrestart (t : State) : t.OnlySteps (if s.breaks d then t.restart else t) := by
    split
    · exact t.restart_onlyWork.onlySteps
    · exact .refl t
  have hpassed := ((hdrop.trans (State.pendingStep_onlySteps _)).trans (hrestart _)).trans
    (State.passOver_onlySteps (d - 1) _)
  unfold State.OnlySteps at hpassed ⊢
  unfold State.advanceCycle
  dsimp only
  rw [hpassed]

/-- R1, R3, R11, R13, R14, R23: what a marker writes, but for the steps of cycles it makes up for. -/
theorem State.beginCycle_frame (s : State) (num : BitVec 16) :
    (∃ c, (s.beginCycle num).engineCycle = some c) ∧
      s.beginCycle num = { s with
        engineCycle := (s.beginCycle num).engineCycle
        line := (s.beginCycle num).line
        lineSpeed := (s.beginCycle num).lineSpeed
        lineInc := (s.beginCycle num).lineInc
        groups := (s.beginCycle num).groups
        stands := (s.beginCycle num).stands
        log := (s.beginCycle num).log
        overrun := (s.beginCycle num).overrun
        formed := (s.beginCycle num).formed
        freeIndex := (s.beginCycle num).freeIndex
        heldReply := none
        inFlight := s.inFlight.map fun f => { f with samples := none }
        lastCycle := some num
        watchArmed := true
        linkLost := false
        stepPending := true
        returnDecided := false
        imageActive := s.imageMap } := by
  unfold State.beginCycle
  dsimp only
  split
  case h_1 => exact ⟨⟨_, rfl⟩, rfl⟩
  case h_2 c _ =>
    have hsteps := State.advanceCycle_onlySteps { s.discardSamples with heldReply := none } c (cycleAdvance c num)
    unfold State.OnlySteps at hsteps
    refine ⟨⟨c + BitVec.ofNat 32 (cycleAdvance c num), rfl⟩, ?_⟩
    rw [hsteps]
    rfl

/-! ### The outbound frame -/

theorem State.claimConflict_onlyWork (s : State) (k : StandId) : s.OnlyWork (s.claimConflict k) := by
  have hfault := ((s.claimLost_actsAt (cmd := .linkLoss) (agree := False) k).trans
    (State.takeFault_actsAt _ k .claimConflict none)).onlyWork
  exact (hfault.trans (State.decideChanged_onlyWork s _)).trans (State.joinLog_onlyWork _)

theorem State.checkClaims_onlyWork (s : State) (slots : Vector Slot 48) : s.OnlyWork (s.checkClaims slots) := by
  have hstruck := State.OnlyWork.foldl State.claimConflict_onlyWork
    (sortKeyed (Config.eventOrder s.freeIndex) (allStands.filter (s.claimFails slots))) s
  unfold State.OnlyWork at hstruck ⊢
  unfold State.checkClaims
  dsimp only
  rw [hstruck]

theorem State.fireStep_actsAt (s : State) (k : StandId) (m : Word) : s.ActsAt cmd agree k (s.fireStep k m).1 := by
  unfold State.fireStep
  dsimp only
  split
  · split
    case isTrue hfire => exact .setStand_move (.fire _ _ hfire.1) rfl
    case isFalse => exact .setStand_core (Stand.dropFire_core _)
  · exact .refl s

theorem State.knifeStep_actsAt (s : State) (k : StandId) (m : Word) : s.ActsAt cmd agree k (s.knifeStep k m).1 := by
  unfold State.knifeStep
  dsimp only
  split
  case h_1 p hp =>
    split
    case isTrue hknife => exact .setStand_move (.knife p m hknife.1 hp) rfl
    case isFalse => exact .refl s
  case h_2 => exact .refl s

/-- R5: the writes of a stand change that stand alone. -/
theorem State.writeStand_actsAt (m : Word) (acc : State × Vector Slot 48) (k : StandId) :
    acc.1.ActsAt cmd agree k (State.writeStand m acc k).1 := by
  unfold State.writeStand
  split
  · exact ((acc.1.fireStep_actsAt k m).trans (State.knifeStep_actsAt _ k m)).trans
      (.setStand_core ⟨rfl, rfl, rfl, rfl, rfl, rfl, rfl, rfl, rfl, rfl, rfl, rfl, rfl⟩)
  · exact .refl acc.1

theorem State.fireStep_formed (s : State) (k : StandId) (m : Word) : (s.fireStep k m).1.formed = s.formed := by
  unfold State.fireStep
  dsimp only
  split
  · split <;> rfl
  · rfl

theorem State.knifeStep_formed (s : State) (k : StandId) (m : Word) : (s.knifeStep k m).1.formed = s.formed := by
  unfold State.knifeStep
  dsimp only
  split
  · split <;> rfl
  · rfl

theorem State.writeStand_formed (m : Word) (acc : State × Vector Slot 48) (k : StandId) :
    (State.writeStand m acc k).1.formed = acc.1.formed := by
  unfold State.writeStand
  split
  · exact (State.knifeStep_formed _ k m).trans (acc.1.fireStep_formed k m)
  · rfl

/-- R5, R135, R136: the writes of a frame change stands and groups alone. -/
theorem State.foldl_writeStand_frame (m : Word) (l : List StandId) (acc : State × Vector Slot 48) :
    (l.foldl (State.writeStand m) acc).1 = { acc.1 with
      groups := (l.foldl (State.writeStand m) acc).1.groups
      stands := (l.foldl (State.writeStand m) acc).1.stands } := by
  induction l generalizing acc with
  | nil => rfl
  | cons k l ih =>
    have hacts := (State.writeStand_actsAt (cmd := .linkLoss) (agree := False) m acc k).frame
    have hformed := State.writeStand_formed m acc k
    rw [List.foldl_cons, ih, hacts, hformed]

/-- R1, R5, R18: what an outbound frame writes beside its claims and fires. -/
theorem State.passOutbound_frame (s : State) (f : OutFrame) :
    s.passOutbound f = { s with
      line := (s.passOutbound f).line
      lineSpeed := (s.passOutbound f).lineSpeed
      lineInc := (s.passOutbound f).lineInc
      groups := (s.passOutbound f).groups
      stands := (s.passOutbound f).stands
      log := (s.passOutbound f).log
      overrun := (s.passOutbound f).overrun
      formed := (s.passOutbound f).formed
      freeIndex := (s.passOutbound f).freeIndex
      outFrame := (s.passOutbound f).outFrame
      outArrived := some f
      outPassing := s.hasAddress } := by
  have hclaims := s.checkClaims_onlyWork f.slots
  have hwritten := State.foldl_writeStand_frame s.cycle allStands (s.checkClaims f.slots, f.slots)
  unfold State.passOutbound
  split
  case isTrue haddr =>
    generalize allStands.foldl (State.writeStand s.cycle) (s.checkClaims f.slots, f.slots) = written at hwritten ⊢
    dsimp only at hwritten ⊢
    unfold State.OnlyWork at hclaims
    rw [hwritten, hclaims, haddr]
  case isFalse haddr =>
    rw [Bool.not_eq_true] at haddr
    unfold State.passOut
    rw [haddr]

/-! ### The bounds the link keeps -/

theorem State.pendingStep_keepsBounds (s : State) : s.KeepsBounds s.pendingStep := by
  unfold State.pendingStep
  split
  · exact (State.KeepsBounds.of_same (u := { s with stepPending := false }) (.refl s) rfl rfl rfl rfl rfl rfl).trans
      (State.cycleStep_keepsBounds _ none false)
  · exact .refl s

theorem State.passOver_keepsBounds (n : Nat) (s : State) : s.KeepsBounds (State.passOver n s) := by
  induction n generalizing s with
  | zero => exact .refl s
  | succ n ih =>
    have hnext : s.KeepsBounds { s with engineCycle := some (s.cycle + 1) } :=
      .of_same (.refl s) rfl rfl rfl rfl rfl rfl
    exact (hnext.trans (State.cycleStep_keepsBounds _ none true)).trans (ih _)

theorem State.modStand_keepsBounds (f : StandId → Stand → Stand) (s : State) (k : StandId) :
    s.KeepsBounds (s.modStand k (f k)) := .of_same (.refl s) rfl rfl rfl rfl rfl rfl

theorem State.dropFires_keepsBounds (s : State) : s.KeepsBounds s.dropFires :=
  .foldl (State.modStand_keepsBounds fun _ => Stand.dropFire) allStands s

theorem State.restart_keepsBounds (s : State) : s.KeepsBounds s.restart := by
  have hline : s.KeepsBounds { s with line := { s.line with hist := [] } } := ⟨rfl, id, fun _ => by simp, id, id⟩
  exact hline.trans (.foldl (State.modStand_keepsBounds fun _ => Stand.restart) allStands _)

theorem State.beginCycle_keepsBounds (s : State) (num : BitVec 16) : s.KeepsBounds (s.beginCycle num) := by
  have hdiscard : s.KeepsBounds { s.discardSamples with heldReply := none } :=
    .of_same (.refl s) rfl rfl rfl rfl rfl rfl
  unfold State.beginCycle
  generalize { s.discardSamples with heldReply := none } = s0 at hdiscard ⊢
  dsimp only
  split
  case h_1 => exact .of_same hdiscard rfl rfl rfl rfl rfl rfl
  case h_2 c _ =>
    have hdrop : s0.KeepsBounds (if cycleAdvance c num = 1 then s0 else s0.dropFires) := by
      split
      · exact .refl s0
      · exact s0.dropFires_keepsBounds
    have hrestart (t : State) : t.KeepsBounds (if s0.breaks (cycleAdvance c num) then t.restart else t) := by
      split
      · exact t.restart_keepsBounds
      · exact .refl t
    exact .of_same ((((hdiscard.trans hdrop).trans (State.pendingStep_keepsBounds _)).trans (hrestart _)).trans
      (State.passOver_keepsBounds (cycleAdvance c num - 1) _)) rfl rfl rfl rfl rfl rfl

/-- R7, R131: a claim conflict joins its log entry. -/
theorem State.claimConflict_keepsBounds (s : State) (k : StandId) : s.KeepsBounds (s.claimConflict k) := by
  have hfault := ((s.claimLost_actsAt (cmd := .linkLoss) (agree := False) k).trans
    (State.takeFault_actsAt _ k .claimConflict none)).frame
  have hdecided := (State.decideChanged_grantsIn (G := fun _ => True) (before := s)
    (s := (s.modStand k fun st => { st with claimLost := true }).takeFault k .claimConflict none)
    fun _ h => absurd trivial h).frame
  refine State.KeepsBounds.joined ?_
  rw [hdecided, hfault]

theorem State.passOutbound_keepsBounds (s : State) (f : OutFrame) : s.KeepsBounds (s.passOutbound f) := by
  have hclaims : s.KeepsBounds (s.checkClaims f.slots) := .of_same
    (State.KeepsBounds.foldl State.claimConflict_keepsBounds
      (sortKeyed (Config.eventOrder s.freeIndex) (allStands.filter (s.claimFails f.slots))) s) rfl rfl rfl rfl rfl rfl
  have hwritten := State.KeepsBounds.of_frame
    (State.foldl_writeStand_frame s.cycle allStands (s.checkClaims f.slots, f.slots))
  unfold State.passOutbound
  split
  · generalize allStands.foldl (State.writeStand s.cycle) (s.checkClaims f.slots, f.slots) = written at hwritten ⊢
    exact .of_same (hclaims.trans hwritten) rfl rfl rfl rfl rfl rfl
  · exact .of_same (.refl s) rfl rfl rfl rfl rfl rfl

theorem State.startMarker_keepsBounds (s : State) (f : OutFrame) : s.KeepsBounds (s.startMarker f) := by
  unfold State.startMarker
  split
  · exact .of_same (.refl s) rfl rfl rfl rfl rfl rfl
  · exact (s.beginCycle_keepsBounds f.cycle).trans (State.passOutbound_keepsBounds _ f)

/-! ### The return side -/

/-- R11, R13: what the end of a return frame writes beside the steps of its cycle. -/
theorem State.endReturn_frame (s : State) :
    s.endReturn = { s with
      line := s.endReturn.line, lineSpeed := s.endReturn.lineSpeed, lineInc := s.endReturn.lineInc
      groups := s.endReturn.groups, stands := s.endReturn.stands, log := s.endReturn.log
      overrun := s.endReturn.overrun, formed := s.endReturn.formed, freeIndex := s.endReturn.freeIndex
      inFlight := none, retFrame := s.endReturn.retFrame, stepPending := s.endReturn.stepPending } := by
  unfold State.endReturn
  split
  case h_1 g _ =>
    dsimp only
    split
    case h_1 v _ =>
      have hstep := State.cycleStep_onlyWork
        { s with inFlight := none, retFrame := s.replyWritten, stepPending := false } (some v) false
      unfold State.OnlyWork at hstep
      rw [hstep]
    case h_2 => rfl
  case h_2 hnone =>
    rw [← hnone]

theorem State.endReturn_keepsBounds (s : State) : s.KeepsBounds s.endReturn := by
  have hend (v : Option RetFrame) (b : Bool) :
      s.KeepsBounds { s with inFlight := none, retFrame := v, stepPending := b } :=
    .of_same (.refl s) rfl rfl rfl rfl rfl rfl
  unfold State.endReturn
  dsimp only
  split
  · split
    · exact (hend _ false).trans (State.cycleStep_keepsBounds _ _ false)
    · exact hend _ s.stepPending
  · exact .refl s

theorem State.matchReturn_keepsBounds (s : State) (f : RetFrame) : s.KeepsBounds (s.matchReturn f) := by
  unfold State.matchReturn; split <;> exact .of_same (.refl s) rfl rfl rfl rfl rfl rfl

theorem State.beginReturn_keepsBounds (s : State) (f : RetFrame) : s.KeepsBounds (s.beginReturn f) := by
  have hend : s.KeepsBounds { s.endReturn with outPassing := false } :=
    .of_same s.endReturn_keepsBounds rfl rfl rfl rfl rfl rfl
  unfold State.beginReturn
  generalize { s.endReturn with outPassing := false } = s1 at hend ⊢
  dsimp only
  split
  · exact .of_same hend rfl rfl rfl rfl rfl rfl
  · split
    · split
      · exact hend.trans (s1.matchReturn_keepsBounds f)
      · exact .of_same hend rfl rfl rfl rfl rfl rfl
    · exact .of_same hend rfl rfl rfl rfl rfl rfl

theorem State.returnEvent_keepsBounds (s : State) (e : RetEvent) : s.KeepsBounds (s.returnEvent e) := by
  have hpass (f : RetFrame) : s.KeepsBounds (s.passReturn f) := .of_same (.refl s) rfl rfl rfl rfl rfl rfl
  unfold State.returnEvent
  cases e with
  | whole f =>
    dsimp only
    split
    · exact hpass f
    · exact (s.beginReturn_keepsBounds f).trans (State.endReturn_keepsBounds _)
  | head f =>
    dsimp only
    split
    · exact hpass f
    · exact s.beginReturn_keepsBounds f
  | tail =>
    dsimp only
    split
    · exact .refl s
    · exact s.endReturn_keepsBounds
  | early f =>
    dsimp only
    split
    · exact hpass f
    · exact .of_same s.endReturn_keepsBounds rfl rfl rfl rfl rfl rfl

/-! ### Link loss -/

theorem State.foldl_linkLossAt_frame (l : List StandId) (s : State) :
    l.foldl State.linkLossAt s = { s with
      groups := (l.foldl State.linkLossAt s).groups
      stands := (l.foldl State.linkLossAt s).stands
      formed := (l.foldl State.linkLossAt s).formed } := by
  induction l generalizing s with
  | nil => rfl
  | cons k l ih =>
    have hframe := (State.linkLossAt_actsAt (cmd := .linkLoss) (agree := False) s k).frame
    rw [List.foldl_cons, ih, hframe]

theorem State.watchExpiry_keepsBounds (s : State) : s.KeepsBounds s.watchExpiry := by
  unfold State.watchExpiry State.loseLink
  split
  · exact .refl s
  · have hstart : s.KeepsBounds { s with watchArmed := false, linkLost := true, outPassing := false } :=
      .of_same (.refl s) rfl rfl rfl rfl rfl rfl
    have hstruck := State.foldl_linkLossAt_frame allStands
      { s with watchArmed := false, linkLost := true, outPassing := false }
    have hdecided := (State.decideChanged_grantsIn (G := fun _ => True) (before := s)
      (s := allStands.foldl State.linkLossAt { s with watchArmed := false, linkLost := true, outPassing := false })
      fun _ h => absurd trivial h).frame
    refine .of_same (hstart.trans (State.KeepsBounds.joined (t := State.decideChanged s (allStands.foldl
      State.linkLossAt { s with watchArmed := false, linkLost := true, outPassing := false })) ?_))
      rfl rfl rfl rfl rfl rfl
    rw [hdecided, hstruck]

end

end Sys2Proof.Machine
end

section
/-!
SUPPORT. The bounds every command keeps, the outbound frame that is passing (log 19), and O56.
-/
namespace Sys2Proof.Machine

section
variable {cmd : Instr} {k : StandId} {s t : State}

/-! ### The remaining events, pins and requests -/

theorem State.signalStaleLimit_keepsBounds (s : State) (g : SignalName) :
    s.KeepsBounds (s.signalStaleLimit g) ∧ s.OnlyWork (s.signalStaleLimit g) := by
  unfold State.signalStaleLimit
  split
  · exact ⟨.refl s, .refl s⟩
  cases g with
  | line =>
    unfold State.lineStale
    dsimp only
    split
    case h_1 e _ =>
      split
      · have hbounds : s.KeepsBounds { s with line := { s.line with cap := s.line.cap.age e.divisor.limit, hist := [] } } :=
          ⟨rfl, id, fun _ => by simp, id, id⟩
        have hline : s.OnlyWork { s with line := { s.line with cap := s.line.cap.age e.divisor.limit, hist := [] } } := rfl
        exact ⟨hbounds.trans (.foldl (State.modStand_keepsBounds fun _ st => { st with window := none }) allStands _),
          hline.trans (.foldl (fun t k => t.modStand_onlyWork k fun st => { st with window := none }) allStands _)⟩
      · exact ⟨.refl s, .refl s⟩
    case h_2 => exact ⟨.refl s, .refl s⟩
  | spindle k x => exact ⟨s.modStand_keepsBounds (fun _ st => st.spindleStale x) k, s.modStand_onlyWork k _⟩
  | gauge k x => exact ⟨s.modStand_keepsBounds (fun _ st => st.gaugeStale x) k, s.modStand_onlyWork k _⟩
  | status k => exact ⟨s.modStand_keepsBounds (fun _ => Stand.statusStale) k, s.modStand_onlyWork k _⟩

theorem State.spacingEnd_keepsBounds (s : State) (g : GroupId) (inc : BitVec 23) :
    s.KeepsBounds (s.spacingEnd g inc) ∧ s.OnlyWork (s.spacingEnd g inc) := by
  unfold State.spacingEnd
  split
  · have hdecided := (State.decideAll_grantsIn (G := fun _ => True) (s := s.countDownGroup inc.toNat g)
      fun _ h => absurd trivial h).frame
    refine ⟨.of_same (State.KeepsBounds.joined (t := (s.countDownGroup inc.toNat g).decideAll) ?_)
      rfl rfl rfl rfl rfl rfl, ?_⟩
    · rw [hdecided]
      rfl
    · have hjoined := State.joinLog_frame (s.countDownGroup inc.toNat g).decideAll
      unfold State.OnlyWork State.endEvent
      rw [hjoined, hdecided]
      rfl
  · exact ⟨.refl s, .refl s⟩

theorem State.settlePins_frame (s : State) (steady high : BitVec 8) :
    s.settlePins steady high = { s with stands := (s.settlePins steady high).stands } := by
  unfold State.settlePins
  split
  · rfl
  · exact State.foldl_modStand_frame (fun k st => st.settlePin (steady.getLsbD k.val) (high.getLsbD k.val)) allStands s

/-- A request keeps the bounds its answer keeps (R175). -/
theorem State.serve_keepsBounds (s : State) (r : Request) (kind : BitVec 4) {ok : Bool} {f : StandId → Answer}
    (h : ok = true → ∀ k, s.KeepsBounds (f k).state) : s.KeepsBounds (s.serve r kind ok f) := by
  have hanswer (a : Answer) (ha : s.KeepsBounds a.state) : s.KeepsBounds (s.answer r kind a) := by
    have hdecided := State.KeepsBounds.of_frame
      (State.decideChanged_grantsIn (G := fun _ => True) (before := s) (s := a.state) fun _ h => absurd trivial h).frame
    exact .of_same (ha.trans hdecided) rfl rfl rfl rfl rfl rfl
  unfold State.serve
  split
  · split
    · split
      case isTrue hok => exact hanswer _ (h hok _)
      case isFalse => exact hanswer _ (.refl s)
    · exact hanswer _ (.refl s)
  · exact .of_same (.refl s) rfl rfl rfl rfl rfl rfl

theorem State.AnswerAt.keepsBounds (h : s.AnswerAt cmd k t) : s.KeepsBounds t := by
  obtain ⟨m, hworks, hformed, hm⟩ := h
  have hacts := (hworks.acts False).frame
  rw [hformed] at hacts
  rcases hm with rfl | rfl
  · exact .of_frame hacts
  · exact (State.KeepsBounds.of_frame hacts).trans (.of_frame (m.decideGroup_grantsIn _).frame)

theorem lineMapAnswer_keepsBounds (sel : BitVec 16) (p : Payload) (s : State) (k : StandId) :
    s.KeepsBounds (lineMapAnswer sel p s k).state := by
  have hset (v : Option RetEntry) : s.KeepsBounds (s.setLineMap v) :=
    ⟨rfl, id, fun _ => by simp [State.setLineMap], fun _ => by simp [State.setLineMap],
      fun _ => by simp [State.setLineMap]⟩
  unfold lineMapAnswer
  split
  · exact .refl s
  · split
    · exact .refl s
    · exact hset none
    · exact hset _

theorem imageMapAnswer_keepsBounds (sel : BitVec 16) (p : Payload) (s : State) (k : StandId) :
    s.KeepsBounds (imageMapAnswer sel p s k).state := by
  unfold imageMapAnswer
  split
  · exact .refl s
  · split <;> exact .of_same (.refl s) rfl rfl rfl rfl rfl rfl

theorem gradeAnswer_keepsBounds (sel : BitVec 16) (p : Payload) (s : State) (k : StandId) :
    s.KeepsBounds (gradeAnswer sel p s k).state := by
  unfold gradeAnswer; split <;> exact .of_same (.refl s) rfl rfl rfl rfl rfl rfl

theorem parameterAnswer_keepsBounds {sel : BitVec 16} (p : Payload) (s : State) (k : StandId)
    (hsel : itemIndex sel < 18) : s.KeepsBounds (parameterAnswer sel p s k).state := by
  rcases parameterAnswer_cases p s k hsel with h | ⟨i, v, -, -, h⟩ <;> rw [h]
  · exact .refl s
  · exact .of_same (.refl s) rfl rfl rfl rfl rfl rfl

theorem readLogAnswer_keepsBounds (sel : BitVec 16) (s : State) : s.KeepsBounds (readLogAnswer sel s).state := by
  unfold readLogAnswer; split <;> exact .refl s

theorem ackLogAnswer_keepsBounds (s : State) : s.KeepsBounds (ackLogAnswer s).state := by
  unfold ackLogAnswer
  split
  · exact .refl s
  case h_2 e rest hlog =>
    refine ⟨rfl, fun h => ⟨?_, h.2⟩, id, id, id⟩
    obtain ⟨hlength, -⟩ := h
    rw [hlog] at hlength
    exact (Nat.le_succ _).trans hlength

theorem State.serve_outPassing (s : State) (r : Request) (kind : BitVec 4) (ok : Bool) (f : StandId → Answer) :
    (s.serve r kind ok f).outPassing = false := by
  unfold State.serve
  split
  · split
    · split <;> rfl
    · rfl
  · rfl

/-! ### Every command -/

theorem exec_reset_keepsBounds {i : Instr} (hreset : i = .resetAssertion ∨ ∃ a, i = .resetRelease a)
    (h : exec i s = .next t) : s.KeepsBounds t := by
  rcases exec_reset_stand hreset h with rfl | ⟨-, hline, hspeed, hinc, -, hlog, hformed, -, hpending⟩
  · exact .refl t
  · exact ⟨hpending, fun _ => ⟨by simp [hlog], hformed⟩, fun _ => by simp [hline], fun _ => by simp [hspeed],
      fun _ => by simp [hinc]⟩

theorem exec_keepsBounds (i : Instr) (s : State) : ∃ t, exec i s = .next t ∧ s.KeepsBounds t := by
  cases i with
  | outboundStartMarker f => exact ⟨_, rfl, s.startMarker_keepsBounds f⟩
  | returnFrame e => exact ⟨_, rfl, s.returnEvent_keepsBounds e⟩
  | signalStaleLimit g => exact ⟨_, rfl, (s.signalStaleLimit_keepsBounds g).1⟩
  | signalStale k => exact ⟨_, rfl, (s.signalStale_eventAt (cmd := .linkLoss) k).keepsBounds.1⟩
  | runningDiameterWindowComplete k inc travel =>
    exact ⟨_, rfl, (s.windowComplete_eventAt (cmd := .linkLoss) k inc travel).keepsBounds.1⟩
  | gaugeWindowComplete k reading =>
    exact ⟨_, rfl, (s.gaugeComplete_eventAt (cmd := .linkLoss) k reading).keepsBounds.1⟩
  | tapeLost k travel => exact ⟨_, rfl, (s.tapeLost_eventAt (cmd := .linkLoss) k travel).keepsBounds.1⟩
  | accelTimeout k => exact ⟨_, rfl, (s.accelTimeout_eventAt (cmd := .linkLoss) k).keepsBounds.1⟩
  | confirmTimeout k => exact ⟨_, rfl, (s.confirmTimeout_eventAt k).keepsBounds.1⟩
  | spacingEnd g inc => exact ⟨_, rfl, (s.spacingEnd_keepsBounds g inc).1⟩
  | linkLoss => exact ⟨_, rfl, s.watchExpiry_keepsBounds⟩
  | resetAssertion => exact ⟨_, rfl, exec_reset_keepsBounds (.inl rfl) rfl⟩
  | resetRelease addr => exact ⟨_, rfl, exec_reset_keepsBounds (.inr ⟨addr, rfl⟩) rfl⟩
  | inhibitFilterSettle steady high =>
    refine ⟨_, rfl, ?_⟩
    rw [State.settlePins_frame]
    exact .of_same (.refl s) rfl rfl rfl rfl rfl rfl
  | inhibitPinAssertion k => exact ⟨_, rfl, .of_frame (s.pinAssertion_answeredAt (cmd := .linkLoss) k).frame⟩
  | inhibitPinRelease k => exact ⟨_, rfl, .of_frame (s.pinRelease_answeredAt k).frame⟩
  | readItem r sel =>
    exact ⟨_, rfl, s.serve_keepsBounds r 1 fun _ k => (readItemAnswer_answerAt (cmd := .linkLoss) sel s k).keepsBounds⟩
  | writeStandParameter r sel p =>
    exact ⟨_, rfl, s.serve_keepsBounds r 2 fun hok k => parameterAnswer_keepsBounds p s k (itemIndex_of_writable hok)⟩
  | writeSlotMapEntry r sel p =>
    exact ⟨_, rfl, s.serve_keepsBounds r 2 fun _ k => (mapEntryAnswer_answerAt r sel p s k).keepsBounds⟩
  | writeLineMap r sel p => exact ⟨_, rfl, s.serve_keepsBounds r 2 fun _ k => lineMapAnswer_keepsBounds sel p s k⟩
  | writeImageMap r sel p => exact ⟨_, rfl, s.serve_keepsBounds r 2 fun _ k => imageMapAnswer_keepsBounds sel p s k⟩
  | writeGradeTableEntry r sel p =>
    exact ⟨_, rfl, s.serve_keepsBounds r 2 fun _ k => gradeAnswer_keepsBounds sel p s k⟩
  | writeGroupTableEntry r sel p =>
    exact ⟨_, rfl, s.serve_keepsBounds r 2 fun _ k => .of_same (.refl s) rfl rfl rfl rfl rfl rfl⟩
  | queueReel r p =>
    exact ⟨_, rfl, s.serve_keepsBounds r 3 fun _ k => (queueReelAnswer_answerAt (cmd := .linkLoss) p s k).keepsBounds⟩
  | withdrawReel r p =>
    exact ⟨_, rfl, s.serve_keepsBounds r 4 fun _ k => (withdrawAnswer_answerAt (cmd := .linkLoss) p s k).keepsBounds⟩
  | standOnline r sel p =>
    exact ⟨_, rfl, s.serve_keepsBounds r 5 fun _ k => (standOnlineAnswer_answerAt r sel p s k).keepsBounds⟩
  | standOffline r =>
    exact ⟨_, rfl, s.serve_keepsBounds r 6 fun _ k => (standOfflineAnswer_answerAt r s k).keepsBounds⟩
  | inhibit r =>
    exact ⟨_, rfl, s.serve_keepsBounds r 7 fun _ k => (inhibitAnswer_answerAt (cmd := .linkLoss) s k).keepsBounds⟩
  | release r =>
    exact ⟨_, rfl, s.serve_keepsBounds r 8 fun _ k => (releaseAnswer_answerAt (cmd := .linkLoss) s k).keepsBounds⟩
  | spliceNow r =>
    exact ⟨_, rfl, s.serve_keepsBounds r 9 fun _ k => (spliceNowAnswer_answerAt (cmd := .linkLoss) s k).keepsBounds⟩
  | clearFault r sel =>
    exact ⟨_, rfl, s.serve_keepsBounds r 10 fun _ k =>
      (clearFaultAnswer_answerAt (cmd := .linkLoss) sel s k).keepsBounds⟩
  | readLog r sel => exact ⟨_, rfl, s.serve_keepsBounds r 11 fun _ _ => readLogAnswer_keepsBounds sel s⟩
  | ackLog r => exact ⟨_, rfl, s.serve_keepsBounds r 12 fun _ _ => ackLogAnswer_keepsBounds s⟩
  | unknownKindRequest r kind => exact ⟨_, rfl, s.serve_keepsBounds r kind fun _ _ => .refl s⟩

/-! ### The outbound frame that is passing -/

theorem PassingAgrees.of_not_passing (h : t.outPassing = false) : PassingAgrees t := fun hpassing => by
  rw [h] at hpassing; cases hpassing

/-- What the part's own work writes has no part in the promise. -/
theorem PassingAgrees.onlyWork (h : PassingAgrees s) (hwork : s.OnlyWork t) : PassingAgrees t := by
  unfold State.OnlyWork at hwork
  rw [hwork]
  exact h

theorem PassingAgrees.frame (h : PassingAgrees s) (hframe : t = { s with groups := t.groups, stands := t.stands }) :
    PassingAgrees t := by
  rw [hframe]
  exact h

/-- R10, R13, R14, R18: a marker begins the frame that is passing, in a part that has an address and a cycle. -/
theorem State.startMarker_passingAgrees (s : State) (f : OutFrame) : PassingAgrees (s.startMarker f) := by
  obtain ⟨⟨c, hc⟩, hbegin⟩ := s.beginCycle_frame f.cycle
  cases hreset : s.inReset with
  | true => exact .of_not_passing (by rw [State.startMarker_outPassing, hreset]; rfl)
  | false =>
    intro hpassing
    rw [State.startMarker_outPassing, hreset, Bool.not_false, Bool.true_and] at hpassing
    have hmarker : s.startMarker f = (s.beginCycle f.cycle).passOutbound f := by
      unfold State.startMarker
      rw [if_neg (by simp [hreset])]
    have hinReset : (s.beginCycle f.cycle).inReset = false := by rw [hbegin]; exact hreset
    have harmed : (s.beginCycle f.cycle).watchArmed = true := by rw [hbegin]
    have hreply : (s.beginCycle f.cycle).heldReply = none := by rw [hbegin]
    have hdecided : (s.beginCycle f.cycle).returnDecided = false := by rw [hbegin]
    rw [hmarker, State.passOutbound_frame]
    exact ⟨hinReset, hpassing, by rw [hc]; rfl, harmed, hreply, hdecided⟩

theorem State.endReturn_passingAgrees (h : PassingAgrees s) : PassingAgrees s.endReturn := by
  rw [State.endReturn_frame]
  exact h

theorem State.beginReturn_outPassing (s : State) (f : RetFrame) : (s.beginReturn f).outPassing = false := by
  unfold State.beginReturn
  dsimp only
  split
  · rfl
  · split
    · split
      · unfold State.matchReturn; split <;> rfl
      · rfl
    · rfl

theorem State.returnEvent_passingAgrees (e : RetEvent) (h : PassingAgrees s) : PassingAgrees (s.returnEvent e) := by
  have hpass (f : RetFrame) : PassingAgrees (s.passReturn f) := h
  unfold State.returnEvent
  cases e with
  | whole f =>
    dsimp only
    split
    · exact hpass f
    · exact State.endReturn_passingAgrees (.of_not_passing (s.beginReturn_outPassing f))
  | head f =>
    dsimp only
    split
    · exact hpass f
    · exact .of_not_passing (s.beginReturn_outPassing f)
  | tail =>
    dsimp only
    split
    · exact h
    · exact State.endReturn_passingAgrees h
  | early f =>
    dsimp only
    split
    · exact hpass f
    · exact State.endReturn_passingAgrees h

theorem State.watchExpiry_passingAgrees (h : PassingAgrees s) : PassingAgrees s.watchExpiry := by
  unfold State.watchExpiry State.loseLink
  split
  · exact h
  · refine .of_not_passing ?_
    have hstruck := State.foldl_linkLossAt_frame allStands
      { s with watchArmed := false, linkLost := true, outPassing := false }
    have hdecided := (State.decideChanged_grantsIn (G := fun _ => True) (before := s)
      (s := allStands.foldl State.linkLossAt { s with watchArmed := false, linkLost := true, outPassing := false })
      fun _ h => absurd trivial h).frame
    dsimp only
    rw [State.joinLog_frame, hdecided, hstruck]

theorem exec_passingAgrees (i : Instr) {s : State} (h : PassingAgrees s) :
    ∃ t, exec i s = .next t ∧ PassingAgrees t := by
  have hserve (r : Request) (kind : BitVec 4) (ok : Bool) (f : StandId → Answer) :
      PassingAgrees (s.serve r kind ok f) := .of_not_passing (s.serve_outPassing r kind ok f)
  have hreset {i : Instr} (hi : i = .resetAssertion ∨ ∃ a, i = .resetRelease a) {t : State}
      (ht : exec i s = .next t) : PassingAgrees t := by
    rcases exec_reset_stand hi ht with rfl | ⟨-, -, -, -, -, -, -, hpassing, -⟩
    · exact h
    · exact .of_not_passing hpassing
  cases i with
  | outboundStartMarker f => exact ⟨_, rfl, s.startMarker_passingAgrees f⟩
  | returnFrame e => exact ⟨_, rfl, State.returnEvent_passingAgrees e h⟩
  | signalStaleLimit g => exact ⟨_, rfl, h.onlyWork (s.signalStaleLimit_keepsBounds g).2⟩
  | signalStale k => exact ⟨_, rfl, h.onlyWork (s.signalStale_eventAt (cmd := .linkLoss) k).keepsBounds.2⟩
  | runningDiameterWindowComplete k inc travel =>
    exact ⟨_, rfl, h.onlyWork (s.windowComplete_eventAt (cmd := .linkLoss) k inc travel).keepsBounds.2⟩
  | gaugeWindowComplete k reading =>
    exact ⟨_, rfl, h.onlyWork (s.gaugeComplete_eventAt (cmd := .linkLoss) k reading).keepsBounds.2⟩
  | tapeLost k travel => exact ⟨_, rfl, h.onlyWork (s.tapeLost_eventAt (cmd := .linkLoss) k travel).keepsBounds.2⟩
  | accelTimeout k => exact ⟨_, rfl, h.onlyWork (s.accelTimeout_eventAt (cmd := .linkLoss) k).keepsBounds.2⟩
  | confirmTimeout k => exact ⟨_, rfl, h.onlyWork (s.confirmTimeout_eventAt k).keepsBounds.2⟩
  | spacingEnd g inc => exact ⟨_, rfl, h.onlyWork (s.spacingEnd_keepsBounds g inc).2⟩
  | linkLoss => exact ⟨_, rfl, State.watchExpiry_passingAgrees h⟩
  | resetAssertion => exact ⟨_, rfl, hreset (.inl rfl) rfl⟩
  | resetRelease addr => exact ⟨_, rfl, hreset (.inr ⟨addr, rfl⟩) rfl⟩
  | inhibitFilterSettle steady high =>
    refine ⟨_, rfl, ?_⟩
    rw [State.settlePins_frame]
    exact h
  | inhibitPinAssertion k => exact ⟨_, rfl, h.frame (s.pinAssertion_answeredAt (cmd := .linkLoss) k).frame⟩
  | inhibitPinRelease k => exact ⟨_, rfl, h.frame (s.pinRelease_answeredAt k).frame⟩
  | readItem r sel => exact ⟨_, rfl, hserve _ _ _ _⟩
  | writeStandParameter r sel p => exact ⟨_, rfl, hserve _ _ _ _⟩
  | writeSlotMapEntry r sel p => exact ⟨_, rfl, hserve _ _ _ _⟩
  | writeLineMap r sel p => exact ⟨_, rfl, hserve _ _ _ _⟩
  | writeImageMap r sel p => exact ⟨_, rfl, hserve _ _ _ _⟩
  | writeGradeTableEntry r sel p => exact ⟨_, rfl, hserve _ _ _ _⟩
  | writeGroupTableEntry r sel p => exact ⟨_, rfl, hserve _ _ _ _⟩
  | queueReel r p => exact ⟨_, rfl, hserve _ _ _ _⟩
  | withdrawReel r p => exact ⟨_, rfl, hserve _ _ _ _⟩
  | standOnline r sel p => exact ⟨_, rfl, hserve _ _ _ _⟩
  | standOffline r => exact ⟨_, rfl, hserve _ _ _ _⟩
  | inhibit r => exact ⟨_, rfl, hserve _ _ _ _⟩
  | release r => exact ⟨_, rfl, hserve _ _ _ _⟩
  | spliceNow r => exact ⟨_, rfl, hserve _ _ _ _⟩
  | clearFault r sel => exact ⟨_, rfl, hserve _ _ _ _⟩
  | readLog r sel => exact ⟨_, rfl, hserve _ _ _ _⟩
  | ackLog r => exact ⟨_, rfl, hserve _ _ _ _⟩
  | unknownKindRequest r kind => exact ⟨_, rfl, hserve _ _ _ _⟩

end

end Sys2Proof.Machine
end

section
/-! SUPPORT. The bounds of the stands, command by command, and O56, O1 and O60. -/
namespace Sys2Proof.Machine

/-! ### What every move keeps, every command keeps -/

/-- A promise about single stands that holds after reset and is kept by every move is kept by every command. -/
theorem exec_keeps_stands {P : Stand → Prop} {i : Instr} {s t : State} (hreset : P .afterReset)
    (hmove : ∀ k st st', st.Move i False s.grades k st' → P st → P st') (h : exec i s = .next t)
    (hs : ∀ k, P (s.stand k)) (k : StandId) : P (t.stand k) := by
  by_cases hreset' : i = .resetAssertion ∨ ∃ a, i = .resetRelease a
  · rcases exec_reset_stand hreset' h with rfl | ⟨hstands, -⟩
    · exact hs k
    · rw [hstands]; exact hreset
  by_cases hgrade : ∃ r sel p, i = .writeGradeTableEntry r sel p
  · obtain ⟨r, sel, p, rfl⟩ := hgrade
    obtain ⟨gr, reply, rfl, -⟩ := exec_writeGrade h
    exact hs k
  push Not at hreset' hgrade
  obtain ⟨u, hu, hevolves⟩ := exec_evolves i s hreset'.1 hreset'.2 hgrade
  cases hu.symm.trans h
  obtain ⟨-, -, hmoves⟩ := hevolves False False.elim
  have hsteps := hmoves k
  generalize t.stand k = st at hsteps ⊢
  induction hsteps with
  | refl => exact hs k
  | tail _ hstep ih => exact hmove k _ _ hstep ih

/-- R186: every command keeps the grade table in its ranges. -/
theorem exec_keeps_grades {i : Instr} {s t : State} (h : exec i s = .next t)
    (hs : ∀ j : Fin 16, s.grades[j].inRange = true) : ∀ j : Fin 16, t.grades[j].inRange = true := by
  by_cases hreset' : i = .resetAssertion ∨ ∃ a, i = .resetRelease a
  · rcases exec_reset_stand hreset' h with rfl | ⟨-, -, -, -, hgrades, -⟩
    · exact hs
    · rw [hgrades]; decide
  by_cases hgrade : ∃ r sel p, i = .writeGradeTableEntry r sel p
  · obtain ⟨r, sel, p, rfl⟩ := hgrade
    obtain ⟨gr, reply, rfl, hgr⟩ := exec_writeGrade h
    exact hgr hs
  push Not at hreset' hgrade
  obtain ⟨u, hu, hevolves⟩ := exec_evolves i s hreset'.1 hreset'.2 hgrade
  cases hu.symm.trans h
  obtain ⟨-, hgrades, -⟩ := hevolves False False.elim
  exact hgrades ▸ hs

/-- R182: every parameter of a stand lies in its range. -/
def Stand.paramsInRange (st : Stand) : Prop := ∀ i : Fin 18, paramInRange i.val (st.params.get i.val) = true

theorem Stand.Move.paramsInRange {cmd : Instr} {agree : Prop} {grades : Vector Grade 16} {k : StandId}
    {st st' : Stand} (h : st.Move cmd agree grades k st') (hst : st.paramsInRange) : st'.paramsInRange := by
  intro j
  rcases h.params_cases with heq | ⟨i, v, -, hrange, -, heq⟩
  · rw [heq]; exact hst j
  · rw [heq]
    by_cases hj : j = i
    · rw [hj, Params.get_set_same _ hrange]; exact hrange
    · rw [Params.get_set_other _ v hj]; exact hst j

theorem Stand.Move.paramsLinked {cmd : Instr} {agree : Prop} {grades : Vector Grade 16} {k : StandId}
    {st st' : Stand} (h : st.Move cmd agree grades k st') (hst : st.params.linked = true) :
    st'.params.linked = true := by
  rcases h.params_cases with heq | ⟨i, v, -, -, hlink, heq⟩
  · rw [heq]; exact hst
  · rw [heq]; exact (Params.linkOk_iff_linked_set hst i v).mp hlink

/-- The bounds of a stand's arms (R36, R41). -/
def Stand.histsBounded (st : Stand) : Prop := st.armA.spindle.hist.length ≤ 17 ∧ st.armB.spindle.hist.length ≤ 17

def Stand.ratesBounded (st : Stand) : Prop := st.armA.rate ≤ 4095 ∧ st.armB.rate ≤ 4095

theorem Stand.Move.histsBounded {cmd : Instr} {agree : Prop} {grades : Vector Grade 16} {k : StandId}
    {st st' : Stand} (h : st.Move cmd agree grades k st') (hst : st.histsBounded) : st'.histsBounded :=
  ⟨(h.arms .a).hist hst.1, (h.arms .b).hist hst.2⟩

theorem Stand.Move.ratesBounded {cmd : Instr} {agree : Prop} {grades : Vector Grade 16} {k : StandId}
    {st st' : Stand} (h : st.Move cmd agree grades k st') (hst : st.ratesBounded) : st'.ratesBounded :=
  ⟨(h.arms .a).rate hst.1, (h.arms .b).rate hst.2⟩

theorem Stand.afterReset_paramsInRange : Stand.afterReset.paramsInRange := by unfold Stand.paramsInRange; decide

/-! ### One command -/

section
variable {i : Instr} {s t : State} (h : exec i s = .next t)
include h

theorem exec_queuesBounded (hs : QueuesBounded s) : QueuesBounded t :=
  exec_keeps_stands (P := fun st => st.occupancy ≤ 6) (by decide) (fun _ _ _ hmove => hmove.occupancy_le) h hs

theorem exec_historiesBounded (hs : HistoriesBounded s) : HistoriesBounded t := by
  obtain ⟨u, hu, hbounds⟩ := exec_keepsBounds i s
  cases hu.symm.trans h
  exact ⟨hbounds.hist hs.1, exec_keeps_stands (P := Stand.histsBounded) ⟨by decide, by decide⟩
    (fun _ _ _ hmove => hmove.histsBounded) h hs.2⟩

theorem exec_ratesBounded (hs : RatesBounded s) : RatesBounded t := by
  obtain ⟨u, hu, hbounds⟩ := exec_keepsBounds i s
  cases hu.symm.trans h
  obtain ⟨hspeed, hinc, hrates⟩ := hs
  exact ⟨hbounds.speed hspeed, hbounds.inc hinc, exec_keeps_stands (P := Stand.ratesBounded) ⟨by decide, by decide⟩
    (fun _ _ _ hmove => hmove.ratesBounded) h hrates⟩

theorem exec_calipersInRange (hs : CalipersInRange s) : CalipersInRange t := by
  obtain ⟨hgrades, hstands⟩ := hs
  exact ⟨exec_keeps_grades h hgrades, exec_keeps_stands (P := fun st => st.calipersInRange = true) (by decide)
    (fun _ _ _ hmove => hmove.calipersInRange hgrades) h hstands⟩

theorem exec_paramsInRange (hs : ParamsInRange s) : ParamsInRange t :=
  exec_keeps_stands (P := Stand.paramsInRange) Stand.afterReset_paramsInRange
    (fun _ _ _ hmove => hmove.paramsInRange) h hs

theorem exec_paramsLinked (hs : ParamsLinked s) : ParamsLinked t :=
  exec_keeps_stands (P := fun st => st.params.linked = true) (by decide) (fun _ _ _ hmove => hmove.paramsLinked) h hs

end

/-- Settles O56: the command at the front of the queue makes moves of the stands and work on LINE and the log, each of
which keeps its bounds; an idle step changes nothing. -/
theorem stepKeepsBounds : Obligations.StepKeepsBounds := by
  intro s t hstep
  unfold step at hstep
  split at hstep
  case h_1 c rest hpending =>
    obtain ⟨u, hu, hbounds⟩ := exec_keepsBounds c { s with pending := rest }
    cases hu.symm.trans hstep
    refine ⟨fun c' rest' hfront => ?_, hbounds.log, fun hs => exec_queuesBounded hstep hs,
      fun hs => exec_historiesBounded hstep hs, fun hs => exec_ratesBounded hstep hs,
      fun hs => exec_calipersInRange hstep hs, fun hs => exec_paramsInRange hstep hs,
      fun hs => exec_paramsLinked hstep hs, fun hpassing => ?_⟩
    · rw [hbounds.pending]
      exact (List.cons.inj (hpending.symm.trans hfront)).2
    · obtain ⟨v, hv, hagrees⟩ := exec_passingAgrees c (s := { s with pending := rest }) hpassing
      cases hv.symm.trans hstep
      exact hagrees
  case h_2 hpending =>
    cases hstep
    exact ⟨fun c rest hfront => (by rw [hpending] at hfront; cases hfront), id, id, id, id, id, id, id, id⟩

/-! ### The step and the reset state -/

/-- Settles O1, by the two cases of a step. -/
theorem stepRunsFrontCommand : Obligations.StepRunsFrontCommand := by
  refine ⟨fun c rest s => rfl, fun s hs => ?_⟩
  unfold step
  rw [hs]

theorem State.stand_afterReset (a : BitVec 5) (k : StandId) : (State.afterReset a).stand k = .afterReset := by
  simp [State.stand, State.afterReset]

/-- The part right after reset, with whatever address, is in a safe state. -/
theorem safeState_afterReset (a : BitVec 5) : SafeState (.afterReset a) := by
  obtain ⟨hagree, hmade⟩ := agreement_of_afterReset (t := .afterReset a) (addr := a) rfl rfl
  have hstand := State.stand_afterReset a
  have hrolls : (State.afterReset a).rolls = [] := by
    unfold State.rolls
    simp only [hstand]
    decide
  refine ⟨⟨Nat.zero_le _, rfl⟩, fun k => ?_, fun k => ?_, fun k => ?_, ⟨Nat.zero_le _, fun k => ?_⟩,
    ⟨Nat.two_pow_pos 23, Nat.two_pow_pos 23, fun k => ?_⟩, ⟨?_, fun k => ?_⟩, ?_, hagree, hmade, fun k => ?_,
    .of_not_passing rfl⟩
  · rw [hstand]; decide
  · rw [hstand]; decide
  · rw [hstand]; exact Stand.afterReset_paramsInRange
  · rw [hstand]; decide
  · rw [hstand]; decide
  · show ∀ i : Fin 16, (Vector.replicate 16 (⟨70, 200⟩ : Grade))[i].inRange = true
    decide
  · rw [hstand]; decide
  · unfold RollsUnique
    rw [hrolls]
    exact List.nodup_nil
  · rw [hstand]; decide

/-- Settles O60: State.reset is the reset state with address 7. -/
theorem resetIsSafe : Obligations.ResetIsSafe := ⟨safeState_afterReset 7#5, safeState_afterReset⟩

end Sys2Proof.Machine
end

section
/-! SUPPORT. The frame of the commands that are about one stand (R11, R85, R131, R175), and O55. -/
namespace Sys2Proof.Machine

/-! ### One stand and its group -/

/-- From s to t no group but that of stand k changes, and no other stand but by a grant of that group. -/
structure State.TouchesOnly (k : StandId) (s t : State) : Prop where
  group : ∀ g, g ≠ s.groupOf k → t.group g = s.group g
  stagger : (t.group (s.groupOf k)).stagger = (s.group (s.groupOf k)).stagger
  others : ∀ j, j ≠ k → t.stand j = s.stand j ∨
    ((s.stand j).requests = true ∧ s.groupOf j = s.groupOf k ∧
      ∃ g, t.stand j = { s.stand j with state := .firingPending, grant := some g })

section
variable {cmd : Instr} {k : StandId} {s m t u : State}

theorem State.TouchesOnly.of_same (h : s.TouchesOnly k t) (hgroups : u.groups = t.groups)
    (hstands : u.stands = t.stands) : s.TouchesOnly k u := by
  have hgroup (g : GroupId) : u.group g = t.group g := by unfold State.group; rw [hgroups]
  have hstand (j : StandId) : u.stand j = t.stand j := by unfold State.stand; rw [hstands]
  exact ⟨fun g hg => (hgroup g).trans (h.group g hg), by rw [hgroup]; exact h.stagger, fun j hj => by
    rw [hstand]; exact h.others j hj⟩

theorem State.TouchesOnly.refl (s : State) : s.TouchesOnly k s := ⟨fun _ _ => rfl, rfl, fun _ _ => .inl rfl⟩

/-- The work of stand k, and the grants its group then makes. -/
theorem State.WorksAt.touchesOnly (h : s.WorksAt cmd k m) (hgrants : m.GrantsIn (· = s.groupOf k) t)
    (hs : GroupsAgree s) : s.TouchesOnly k t := by
  have hacts := h.acts False
  refine ⟨fun g hg => (hgrants.group g hg).trans (hacts.groups g hg), (hgrants.stagger _).trans (hacts.stagger _),
    fun j hj => ?_⟩
  have hother : m.stand j = s.stand j := hacts.others j hj
  have hgroupOf : m.groupOf j = s.groupOf j := by unfold State.groupOf; rw [hother]
  rw [← hother]
  refine (hgrants.stand j).imp_right fun ⟨hreq, hgrant⟩ => ?_
  obtain ⟨hrequests, hgroup⟩ := hreq (h.agrees hs)
  exact ⟨hrequests, hgroupOf.symm.trans hgroup, hgrant⟩

/-- R131, R134: after the work of stand k only its group can have a decision due. -/
theorem State.WorksAt.decideAll (h : s.WorksAt cmd k m) (hs : GroupsAgree s) (hmade : DecisionsMade s) :
    m.GrantsIn (· = s.groupOf k) m.decideAll := by
  have hacts := h.acts False
  refine State.decideAll_grantsIn fun g hg => ?_
  have hgroup := hacts.groups g hg
  refine State.chosen_none_congr (by rw [hgroup]) (by rw [hgroup]) (fun j hhas => ?_) (hmade g)
  by_cases hj : j = k
  · obtain ⟨-, -, -, hexact⟩ := hs
    subst hj
    exact absurd ((hexact g j).mp hhas).1.symm hg
  · rw [hacts.others j hj]

/-! ### The frame of a command -/

/-- What O55 says of a command about stand k that takes s to t. -/
structure State.FrameOf (c : Instr) (k : StandId) (s t : State) : Prop where
  frame : t = { s with
    groups := t.groups, stands := t.stands, heldReply := t.heldReply, log := t.log
    overrun := t.overrun, freeIndex := t.freeIndex
    outPassing := s.outPassing && (requestOf c).isNone }
  touches : s.TouchesOnly k t
  log : c ≠ .confirmTimeout k → t.log = s.log ∧ t.overrun = s.overrun

/-- An event of a step about stand k. -/
theorem State.EventAt.frameOf (h : s.EventAt cmd k t) (hcmd : requestOf cmd = none) (hs : GroupsAgree s)
    (hmade : DecisionsMade s) (hformed : s.formed = []) : s.FrameOf cmd k t := by
  rcases h with rfl | ⟨m, hworks, hquiet, rfl⟩
  · exact ⟨by rw [hcmd, Option.isNone_none, Bool.and_true], .refl t, fun _ => ⟨rfl, rfl⟩⟩
  have hgrants := hworks.decideAll hs hmade
  have hacts := (hworks.acts False).frame
  have hdecided := hgrants.frame
  have hjoined := State.joinLog_frame m.decideAll
  refine ⟨?_, (hworks.touchesOnly hgrants hs).of_same ?_ ?_, fun hne => ?_⟩
  · rw [hcmd, Option.isNone_none, Bool.and_true]
    unfold State.endEvent
    rw [hjoined, hdecided, hacts, hformed]
  · unfold State.endEvent; rw [hjoined]
  · unfold State.endEvent; rw [hjoined]
  · have hnone : m.decideAll.formed = [] := by
      have hmformed := (hquiet hne).trans hformed
      rw [hdecided]
      exact hmformed
    have hsame : m.endEvent = { m.decideAll with freeIndex := m.freeIndex + 1 } := by
      unfold State.endEvent; rw [State.joinLog_of_formed_nil _ hnone]
    rw [hsame, hdecided, hacts]
    exact ⟨rfl, rfl⟩

/-- A pin event, or what a request of stand k comes to before its reply is held. -/
theorem State.AnsweredAt.touchesOnly (h : s.AnsweredAt cmd k t) (hs : GroupsAgree s) : s.TouchesOnly k t := by
  obtain ⟨m, hworks, -, hgrants⟩ := h
  exact hworks.touchesOnly hgrants hs

theorem State.AnsweredAt.frameOf (h : s.AnsweredAt cmd k t) (hcmd : requestOf cmd = none) (hs : GroupsAgree s) :
    s.FrameOf cmd k t := by
  have hframe := h.frame
  refine ⟨?_, h.touchesOnly hs, fun _ => ?_⟩
  · rw [hcmd, Option.isNone_none, Bool.and_true, hframe]
  · rw [hframe]; exact ⟨rfl, rfl⟩

/-- A reply is held, and the outbound frame of the request has wholly passed (log 5). -/
theorem State.FrameOf.of_reply (hcmd : (requestOf cmd).isSome = true)
    (hframe : t = { s with groups := t.groups, stands := t.stands }) (htouches : s.TouchesOnly k t)
    (reply : Option Reply) : s.FrameOf cmd k { t with heldReply := reply, outPassing := false } := by
  have hnone : (requestOf cmd).isNone = false := by rw [← Option.not_isSome, hcmd]; rfl
  refine ⟨?_, htouches.of_same rfl rfl, fun _ => ?_⟩
  · rw [hnone, Bool.and_false, hframe]
  · rw [hframe]; exact ⟨rfl, rfl⟩

theorem State.serve_frameOf {r : Request} (kind : BitVec 4) {ok : Bool} {f : StandId → Answer}
    (hcmd : (requestOf cmd).isSome = true) (hk : namedStand r = some k)
    (hanswer : ok = true → s.FrameOf cmd k (s.answer r kind (f k))) : s.FrameOf cmd k (s.serve r kind ok f) := by
  have hbad : s.FrameOf cmd k (s.answer r kind (refuse s .badRequest)) := by
    rw [State.answer_refuse]
    exact .of_reply hcmd rfl (.refl s) _
  unfold namedStand at hk
  unfold State.serve
  split
  · split
    case isTrue hlt =>
      rw [dif_pos hlt] at hk
      cases hk
      split
      case isTrue hok => exact hanswer hok
      case isFalse => exact hbad
    case isFalse => exact hbad
  · exact .of_reply hcmd rfl (.refl s) s.heldReply

/-- A request whose answer is the work of its stand. -/
theorem State.AnswerAt.frameOf {r : Request} (kind : BitVec 4) {a : Answer} (h : s.AnswerAt cmd k a.state)
    (hcmd : (requestOf cmd).isSome = true) (hs : GroupsAgree s) :
    s.FrameOf cmd k (s.answer r kind a) :=
  .of_reply hcmd h.decided.frame (h.decided.touchesOnly hs) _

/-- R183: the write of a parameter changes its stand alone. -/
theorem parameterAnswer_frameOf {r : Request} {sel : BitVec 16} (p : Payload) (s : State) (k : StandId)
    (hsel : itemIndex sel < 18) :
    s.FrameOf (.writeStandParameter r sel p) k (s.answer r 2 (parameterAnswer sel p s k)) := by
  have hset (st : Stand) : s.TouchesOnly k (s.setStand k st) :=
    ⟨fun _ _ => rfl, rfl, fun j hj => .inl (s.stand_setStand_other st hj)⟩
  rcases parameterAnswer_cases p s k hsel with h | ⟨i, v, -, -, h⟩
  · rw [State.answer_of_same_groups r 2 (by rw [h]), h]
    exact .of_reply rfl rfl (.refl s) _
  · rw [State.answer_of_same_groups r 2 (by rw [h]; rfl), h]
    exact .of_reply rfl rfl (hset _) _

end

/-! ### Every command about one stand -/

theorem exec_frameOf {c : Instr} {s t : State} {k : StandId} (hk : standOf c = some k) (hs : GroupsAgree s)
    (hmade : DecisionsMade s) (hformed : s.formed = []) (h : exec c s = .next t) : s.FrameOf c k t := by
  cases c with
  | signalStaleLimit g =>
    cases h
    obtain ⟨hworks, hquiet⟩ := s.signalStaleLimit_worksAt (cmd := .signalStaleLimit g) hk
    exact State.AnsweredAt.frameOf ⟨_, hworks, hquiet, .refl _⟩ rfl hs
  | signalStale j => cases hk; cases h; exact (s.signalStale_eventAt k).frameOf rfl hs hmade hformed
  | runningDiameterWindowComplete j inc travel =>
    cases hk; cases h; exact (s.windowComplete_eventAt k inc travel).frameOf rfl hs hmade hformed
  | gaugeWindowComplete j reading =>
    cases hk; cases h; exact (s.gaugeComplete_eventAt k reading).frameOf rfl hs hmade hformed
  | tapeLost j travel => cases hk; cases h; exact (s.tapeLost_eventAt k travel).frameOf rfl hs hmade hformed
  | accelTimeout j => cases hk; cases h; exact (s.accelTimeout_eventAt k).frameOf rfl hs hmade hformed
  | confirmTimeout j => cases hk; cases h; exact (s.confirmTimeout_eventAt k).frameOf rfl hs hmade hformed
  | inhibitPinAssertion j => cases hk; cases h; exact (s.pinAssertion_answeredAt k).frameOf rfl hs
  | inhibitPinRelease j => cases hk; cases h; exact (s.pinRelease_answeredAt k).frameOf rfl hs
  | readItem r sel =>
    cases h; exact State.serve_frameOf 1 rfl hk fun _ => (readItemAnswer_answerAt sel s k).frameOf 1 rfl hs
  | writeStandParameter r sel p =>
    cases h
    exact State.serve_frameOf 2 rfl hk fun hok => parameterAnswer_frameOf p s k (itemIndex_of_writable hok)
  | writeSlotMapEntry r sel p =>
    cases h
    exact State.serve_frameOf 2 rfl hk fun _ => (mapEntryAnswer_answerAt r sel p s k).frameOf 2 rfl hs
  | queueReel r p =>
    cases h; exact State.serve_frameOf 3 rfl hk fun _ => (queueReelAnswer_answerAt p s k).frameOf 3 rfl hs
  | withdrawReel r p =>
    cases h; exact State.serve_frameOf 4 rfl hk fun _ => (withdrawAnswer_answerAt p s k).frameOf 4 rfl hs
  | standOnline r sel p =>
    cases h
    exact State.serve_frameOf 5 rfl hk fun _ => (standOnlineAnswer_answerAt r sel p s k).frameOf 5 rfl hs
  | standOffline r =>
    cases h; exact State.serve_frameOf 6 rfl hk fun _ => (standOfflineAnswer_answerAt r s k).frameOf 6 rfl hs
  | inhibit r =>
    cases h; exact State.serve_frameOf 7 rfl hk fun _ => (inhibitAnswer_answerAt s k).frameOf 7 rfl hs
  | release r =>
    cases h; exact State.serve_frameOf 8 rfl hk fun _ => (releaseAnswer_answerAt s k).frameOf 8 rfl hs
  | spliceNow r =>
    cases h; exact State.serve_frameOf 9 rfl hk fun _ => (spliceNowAnswer_answerAt s k).frameOf 9 rfl hs
  | clearFault r sel =>
    cases h
    exact State.serve_frameOf 10 rfl hk fun _ => (clearFaultAnswer_answerAt sel s k).frameOf 10 rfl hs
  | outboundStartMarker f => cases hk
  | returnFrame e => cases hk
  | spacingEnd g inc => cases hk
  | linkLoss => cases hk
  | resetAssertion => cases hk
  | resetRelease addr => cases hk
  | inhibitFilterSettle steady high => cases hk
  | writeLineMap r sel p => cases hk
  | writeImageMap r sel p => cases hk
  | writeGradeTableEntry r sel p => cases hk
  | writeGroupTableEntry r sel p => cases hk
  | readLog r sel => cases hk
  | ackLog r => cases hk
  | unknownKindRequest r kind => cases hk

/-! ### Who writes parameters, maps and the wait for a release edge -/

section
variable {cmd : Instr} {agree : Prop} {grades : Vector Grade 16} {k : StandId} {st st' : Stand}

theorem Stand.Moves.params (h : Stand.Moves cmd agree grades k st st')
    (hne : ∀ r sel p, cmd ≠ .writeStandParameter r sel p) : st'.params = st.params := by
  induction h with
  | refl => rfl
  | tail _ hmove ih =>
    rcases hmove.params_cases with heq | ⟨i, v, ⟨r, sel, p, hcmd⟩, -⟩
    · exact heq.trans ih
    · exact absurd hcmd (hne r sel p)

theorem Stand.Moves.map (h : Stand.Moves cmd agree grades k st st')
    (hne : ∀ r sel p, cmd ≠ .writeSlotMapEntry r sel p) : st'.map = st.map := by
  induction h with
  | refl => rfl
  | tail _ hmove ih =>
    rcases hmove.map_cases with heq | ⟨r, sel, p, hcmd⟩
    · exact heq.trans ih
    · exact absurd hcmd (hne r sel p)

theorem Stand.Moves.awaitsRelease (h : Stand.Moves cmd agree grades k st st') (hedge : cmd ≠ .inhibitPinRelease k)
    (honline : ∀ r sel p, cmd ≠ .standOnline r sel p) (hoffline : ∀ r, cmd ≠ .standOffline r) :
    st'.awaitsRelease = st.awaitsRelease := by
  induction h with
  | refl => rfl
  | tail _ hmove ih =>
    rcases hmove.awaitsRelease_cases with heq | hcmd | ⟨r, sel, p, hcmd⟩ | ⟨r, hcmd⟩
    · exact heq.trans ih
    · exact absurd hcmd hedge
    · exact absurd hcmd (honline r sel p)
    · exact absurd hcmd (hoffline r)

end

/-- Every command but a reset takes each stand through moves. -/
theorem exec_moves {c : Instr} {s t : State} (h : exec c s = .next t) (hassert : c ≠ .resetAssertion)
    (hrelease : ∀ a, c ≠ .resetRelease a) (k : StandId) :
    Stand.Moves c False s.grades k (s.stand k) (t.stand k) := by
  by_cases hgrade : ∃ r sel p, c = .writeGradeTableEntry r sel p
  · obtain ⟨r, sel, p, rfl⟩ := hgrade
    obtain ⟨gr, reply, rfl, -⟩ := exec_writeGrade h
    exact .refl
  · push Not at hgrade
    obtain ⟨u, hu, hevolves⟩ := exec_evolves c s hassert hrelease hgrade
    cases hu.symm.trans h
    obtain ⟨-, -, hmoves⟩ := hevolves False False.elim
    exact hmoves k

/-- Settles O55: a command about one stand is the work of that stand and the decisions of its group; and the moves of
a stand that write its parameters, its map or its wait belong to the commands named. -/
theorem commandTouchesOneStand : Obligations.CommandTouchesOneStand := by
  refine ⟨fun c s t k hk hs hmade hformed h => ?_, fun c s t k h hassert hrelease => ?_⟩
  · obtain ⟨hframe, ⟨hgroup, hstagger, hothers⟩, hlog⟩ := exec_frameOf hk hs hmade hformed h
    exact ⟨hframe, hgroup, hstagger, hothers, hlog⟩
  · have hmoves := exec_moves h hassert hrelease k
    exact ⟨hmoves.params, hmoves.map, hmoves.awaitsRelease⟩

end Sys2Proof.Machine
end

section
/-! SUPPORT. The capture of one signal: what a refresh and any other step make of it (R27 to R31, R36); and O11. -/
namespace Sys2Proof.Machine

/-! ### Refresh and age -/

/-- R27: a slot whose count differs from the reference count refreshes the signal. -/
theorem Capture.take_snd_iff (c : Capture) (limit : Nat) (sl : Slot) :
    (c.take limit (some sl)).2 = true ↔ ∃ r, c.ref = some r ∧ sl.count ≠ r := by
  unfold Capture.take
  cases h : c.ref with
  | none => simp
  | some r => by_cases e : sl.count = r <;> simp [e]

theorem Capture.take_fst_of_fresh {c : Capture} {limit : Nat} {slot : Option Slot} (h : (c.take limit slot).2 = true) :
    ∃ sl, slot = some sl ∧ (c.take limit slot).1 = ⟨.live, 0, some sl.count⟩ := by
  rcases c.take_cases limit slot with ⟨sl, r, hslot, -, -, heq⟩ | ⟨hstale, -⟩
  · exact ⟨sl, hslot, by rw [heq]⟩
  · rw [hstale] at h; cases h

theorem Capture.take_fst_of_not_fresh {c : Capture} {limit : Nat} {slot : Option Slot}
    (h : (c.take limit slot).2 = false) :
    (c.take limit slot).1 =
      { c.age limit with ref := (slot.map (·.count)).or c.ref } := by
  rcases c.take_cases limit slot with ⟨sl, r, -, -, -, heq⟩ | ⟨-, heq⟩
  · rw [heq] at h; cases h
  · rw [heq]; cases slot <;> rfl

/-- R31: a LIVE signal stays LIVE short of its limit; no ageing makes a signal LIVE or ends its waiting. -/
theorem Capture.age_cond (c : Capture) (limit : Nat) :
    ((c.age limit).cond = .live ↔ c.cond = .live ∧ min 65535 (c.since + 1) < limit) ∧
      ((c.age limit).cond = .waiting ↔ c.cond = .waiting) := by
  unfold Capture.age
  dsimp only
  split
  case isTrue h =>
    obtain ⟨hlive, hle⟩ := h
    refine ⟨⟨fun hstale => ?_, fun ⟨_, hlt⟩ => absurd hle (not_le.mpr hlt)⟩, ?_⟩
    · cases hstale
    · simp [hlive]
  case isFalse h =>
    rw [not_and, not_le] at h
    exact ⟨⟨fun hlive => ⟨hlive, h hlive⟩, And.left⟩, Iff.rfl⟩

theorem Capture.take_ref (c : Capture) (limit : Nat) (sl : Slot) :
    (c.take limit (some sl)).1.ref = some sl.count := by
  cases h : (c.take limit (some sl)).2 with
  | true =>
    obtain ⟨sl', hslot, heq⟩ := Capture.take_fst_of_fresh h
    cases hslot
    rw [heq]
  | false => rw [Capture.take_fst_of_not_fresh h]; rfl

theorem Capture.take_none_snd (c : Capture) (limit : Nat) : (c.take limit none).2 = false := rfl

/-! ### Histories (R36, R37) -/

theorem pushHistory_eq {α : Type} (h : List α) (v : α) : pushHistory h v = (h ++ [v]).drop (h.length - 16) := by
  unfold pushHistory
  split
  · rw [Nat.sub_eq_zero_of_le (by omega), List.drop_zero]
  · rw [List.drop_append_of_le_length (by omega)]

theorem stepHistory_of_not_live {α : Type} (h : List α) {c : Capture} (held : Option α) (p : Bool)
    (hc : c.cond ≠ .live) : stepHistory h c held p = [] := by
  have hstale : c.isStale = true := bne_iff_ne.mpr hc
  simp [stepHistory, hstale]

theorem stepHistory_of_passedOver {α : Type} (h : List α) {c : Capture} (held : Option α) (hc : c.cond = .live) :
    stepHistory h c held true = h := by
  have hlive := (Capture.isStale_eq_false_iff c).mpr hc
  cases held <;> simp [stepHistory, hlive]

theorem stepHistory_of_live {α : Type} (h : List α) {c : Capture} (v : α) (hc : c.cond = .live) :
    stepHistory h c (some v) false = (h ++ [v]).drop (h.length - 16) := by
  have hlive := (Capture.isStale_eq_false_iff c).mpr hc
  rw [← pushHistory_eq]
  simp [stepHistory, hlive]

/-! ### The steps of the four kinds of signal -/

section
variable {e : Option RetEntry} {samples : Option (Vector Slot 96)} {p : Bool} {sl : Slot}

theorem Spindle.step_of_fresh {g : Spindle} (hslot : entrySlot e samples = some sl)
    (h : (g.cap.take (entryLimit e) (some sl)).2 = true) :
    g.step e samples p =
      (⟨(g.cap.take (entryLimit e) (some sl)).1, some (spindleAngle sl.payload),
        stepHistory g.hist (g.cap.take (entryLimit e) (some sl)).1 (some (spindleAngle sl.payload)) p⟩, true,
        spindleMark sl.payload) := by
  unfold Spindle.step
  simp only [hslot, h]

theorem Spindle.step_of_not_fresh {g : Spindle} (h : (g.cap.take (entryLimit e) (entrySlot e samples)).2 = false) :
    g.step e samples p =
      (⟨(g.cap.take (entryLimit e) (entrySlot e samples)).1, g.angle,
        stepHistory g.hist (g.cap.take (entryLimit e) (entrySlot e samples)).1 g.angle p⟩, false, none) := by
  unfold Spindle.step
  simp only [h]

theorem Gauge.step_of_fresh {g : Gauge} (hslot : entrySlot e samples = some sl)
    (h : (g.cap.take (entryLimit e) (some sl)).2 = true) :
    g.step e samples =
      (⟨(g.cap.take (entryLimit e) (some sl)).1, (gaugeDiameter sl.payload).or g.diameter,
        some (gaugePresent sl.payload)⟩,
        if gaugePresent sl.payload then gaugeDiameter sl.payload else none,
        g.present.bind fun b => if b = gaugePresent sl.payload then none else some (gaugePresent sl.payload),
        g.present.isNone && gaugePresent sl.payload) := by
  unfold Gauge.step
  simp only [hslot, h]
  cases gaugeDiameter sl.payload <;> cases g.present <;> rfl

theorem Gauge.step_of_not_fresh {g : Gauge} (h : (g.cap.take (entryLimit e) (entrySlot e samples)).2 = false) :
    g.step e samples =
      (⟨(g.cap.take (entryLimit e) (entrySlot e samples)).1, g.diameter, g.present⟩, none, none, false) := by
  unfold Gauge.step
  simp only [h]

theorem Status.step_of_fresh {g : Status} (hslot : entrySlot e samples = some sl)
    (h : (g.cap.take (entryLimit e) (some sl)).2 = true) :
    g.step e samples =
      (⟨(g.cap.take (entryLimit e) (some sl)).1, some (statusHome sl.payload)⟩, statusConfirm sl.payload) := by
  unfold Status.step
  simp only [hslot, h]

theorem Status.step_of_not_fresh {g : Status} (h : (g.cap.take (entryLimit e) (entrySlot e samples)).2 = false) :
    g.step e samples = (⟨(g.cap.take (entryLimit e) (entrySlot e samples)).1, g.home⟩, none) := by
  unfold Status.step
  simp only [h]

theorem Line.step_of_fresh {g : Line} (hslot : entrySlot e samples = some sl)
    (h : (g.cap.take (entryLimit e) (some sl)).2 = true) :
    g.step e samples p =
      ⟨(g.cap.take (entryLimit e) (some sl)).1, some (linePosition sl.payload),
        stepHistory g.hist (g.cap.take (entryLimit e) (some sl)).1 (some (linePosition sl.payload)) p⟩ := by
  unfold Line.step
  simp only [hslot, h]

theorem Line.step_of_not_fresh {g : Line} (h : (g.cap.take (entryLimit e) (entrySlot e samples)).2 = false) :
    g.step e samples p =
      ⟨(g.cap.take (entryLimit e) (entrySlot e samples)).1, g.pos,
        stepHistory g.hist (g.cap.take (entryLimit e) (entrySlot e samples)).1 g.pos p⟩ := by
  unfold Line.step
  simp only [h]

/-- A step without a refresh, or with one of the slot named. -/
theorem Capture.take_entrySlot_cases (c : Capture) (e : Option RetEntry) (samples : Option (Vector Slot 96)) :
    (c.take (entryLimit e) (entrySlot e samples)).2 = false ∨
      ∃ sl, entrySlot e samples = some sl ∧ (c.take (entryLimit e) (some sl)).2 = true := by
  cases h : (c.take (entryLimit e) (entrySlot e samples)).2 with
  | false => exact .inl rfl
  | true =>
    obtain ⟨sl, hslot, -⟩ := Capture.take_fst_of_fresh h
    exact .inr ⟨sl, hslot, by rw [← hslot]; exact h⟩

theorem entrySlot_none (e : Option RetEntry) : entrySlot e none = none := by unfold entrySlot; split <;> simp_all

/-- What a step makes of a SPINDLE signal's capture and history, refreshed or not. -/
theorem Spindle.step_cap_hist (g : Spindle) (e : Option RetEntry) (samples : Option (Vector Slot 96)) (p : Bool) :
    (g.step e samples p).1.cap = (g.cap.take (entryLimit e) (entrySlot e samples)).1 ∧
      (g.step e samples p).1.hist =
        stepHistory g.hist (g.step e samples p).1.cap (g.step e samples p).1.angle p := by
  rcases g.cap.take_entrySlot_cases e samples with h | ⟨sl, hslot, h⟩
  · rw [Spindle.step_of_not_fresh h]; exact ⟨rfl, rfl⟩
  · rw [Spindle.step_of_fresh hslot h, hslot]; exact ⟨rfl, rfl⟩

theorem Line.step_cap_hist (g : Line) (e : Option RetEntry) (samples : Option (Vector Slot 96)) (p : Bool) :
    (g.step e samples p).cap = (g.cap.take (entryLimit e) (entrySlot e samples)).1 ∧
      (g.step e samples p).hist =
        stepHistory g.hist (g.step e samples p).cap (g.step e samples p).pos p := by
  rcases g.cap.take_entrySlot_cases e samples with h | ⟨sl, hslot, h⟩
  · rw [Line.step_of_not_fresh h]; exact ⟨rfl, rfl⟩
  · rw [Line.step_of_fresh hslot h, hslot]; exact ⟨rfl, rfl⟩

theorem Gauge.step_cap (g : Gauge) (e : Option RetEntry) (samples : Option (Vector Slot 96)) :
    (g.step e samples).1.cap = (g.cap.take (entryLimit e) (entrySlot e samples)).1 := by
  rcases g.cap.take_entrySlot_cases e samples with h | ⟨sl, hslot, h⟩
  · rw [Gauge.step_of_not_fresh h]
  · rw [Gauge.step_of_fresh hslot h, hslot]

theorem Status.step_cap (g : Status) (e : Option RetEntry) (samples : Option (Vector Slot 96)) :
    (g.step e samples).1.cap = (g.cap.take (entryLimit e) (entrySlot e samples)).1 := by
  rcases g.cap.take_entrySlot_cases e samples with h | ⟨sl, hslot, h⟩
  · rw [Status.step_of_not_fresh h]
  · rw [Status.step_of_fresh hslot h, hslot]

/-- Without samples no signal is refreshed. -/
theorem Capture.take_without_samples (c : Capture) (e : Option RetEntry) :
    (c.take (entryLimit e) (entrySlot e none)).2 = false := by rw [entrySlot_none]; rfl

end

/-! ### O11 -/

section
variable (e : RetEntry) (slots : Vector Slot 96)

theorem not_fresh_of {c : Capture} {limit : Nat} {sl : Slot} (h : ¬ ∃ r, c.ref = some r ∧ sl.count ≠ r) :
    (c.take limit (some sl)).2 = false :=
  Bool.eq_false_iff.mpr fun ht => h ((c.take_snd_iff limit sl).mp ht)

theorem gauge_captures (g : Gauge) :
    let sl := slots[e.slot]
    let r := g.step (some e) (some slots)
    let fresh := ∃ c, g.cap.ref = some c ∧ sl.count ≠ c
    r.1.cap = (g.cap.take (8 * e.divisor.value) (some sl)).1 ∧
    (g.step (some e) none).1.cap = (g.cap.take (8 * e.divisor.value) none).1 ∧
    (¬ fresh → r.1.diameter = g.diameter ∧ r.1.present = g.present ∧ r.2 = (none, none, false)) ∧
    (fresh → r.1.present = some (sl.payload.getLsbD 14) ∧
      (sl.payload.extractLsb' 0 14 = 0#14 → r.1.diameter = g.diameter) ∧
      (∀ d, gaugeDiameter sl.payload = some d → r.1.diameter = some d) ∧
      (∀ d, r.2.1 = some d ↔ gaugeDiameter sl.payload = some d ∧ sl.payload.getLsbD 14 = true) ∧
      (∀ b, r.2.2.1 = some b ↔ sl.payload.getLsbD 14 = b ∧ g.present = some (!b)) ∧
      (r.2.2.2 = true ↔ g.present = none ∧ sl.payload.getLsbD 14 = true)) := by
  intro sl r fresh
  refine ⟨g.step_cap _ _, g.step_cap _ _, fun hnot => ?_, fun hfresh => ?_⟩
  · have hstep : r = _ := Gauge.step_of_not_fresh (not_fresh_of (limit := entryLimit (some e)) hnot)
    rw [hstep]
    exact ⟨rfl, rfl, rfl⟩
  · have hstep : r = _ := Gauge.step_of_fresh (sl := sl) rfl ((g.cap.take_snd_iff _ sl).mpr hfresh)
    rw [hstep]
    refine ⟨rfl, fun hzero => ?_, fun d hd => ?_, fun d => ?_, fun b => ?_, ?_⟩
    · simp [gaugeDiameter, hzero]
    · simp [hd]
    · cases hpresent : gaugePresent sl.payload <;> simp_all [gaugePresent]
    · cases hpresent : gaugePresent sl.payload <;> cases g.present <;> cases b <;> simp_all [gaugePresent]
    · simp [gaugePresent]

theorem spindle_captures (g : Spindle) (p : Bool) :
    let sl := slots[e.slot]
    let r := g.step (some e) (some slots) p
    let fresh := ∃ c, g.cap.ref = some c ∧ sl.count ≠ c
    (r.2.1 = true ↔ fresh) ∧ r.1.cap = (g.cap.take (8 * e.divisor.value) (some sl)).1 ∧
    (g.step (some e) none p).1.cap = (g.cap.take (8 * e.divisor.value) none).1 ∧
    (fresh → r.1.angle = some (sl.payload.extractLsb' 0 12) ∧ r.2.2 = spindleMark sl.payload) ∧
    (¬ fresh → r.1.angle = g.angle ∧ r.2.2 = none) := by
  intro sl r fresh
  have hcap := (g.step_cap_hist (some e) (some slots) p).1
  have hcap' := (g.step_cap_hist (some e) none p).1
  by_cases hfresh : fresh
  · have hstep : r = _ := Spindle.step_of_fresh (sl := sl) rfl ((g.cap.take_snd_iff _ sl).mpr hfresh)
    refine ⟨⟨fun _ => hfresh, fun _ => by rw [hstep]⟩, hcap, hcap', fun _ => ?_, fun hnot => absurd hfresh hnot⟩
    rw [hstep]
    exact ⟨rfl, rfl⟩
  · have hstep : r = _ := Spindle.step_of_not_fresh (not_fresh_of (limit := entryLimit (some e)) hfresh)
    refine ⟨⟨fun ht => ?_, fun h => absurd h hfresh⟩, hcap, hcap', fun h => absurd h hfresh, fun _ => ?_⟩
    · rw [hstep] at ht; cases ht
    · rw [hstep]; exact ⟨rfl, rfl⟩

theorem status_captures (g : Status) :
    let sl := slots[e.slot]
    let r := g.step (some e) (some slots)
    let fresh := ∃ c, g.cap.ref = some c ∧ sl.count ≠ c
    r.1.cap = (g.cap.take (8 * e.divisor.value) (some sl)).1 ∧
    (fresh → r.1.home = some ⟨sl.payload.getLsbD 1, sl.payload.getLsbD 2⟩ ∧
      r.2 = statusConfirm sl.payload) ∧
    (¬ fresh → r.1.home = g.home ∧ r.2 = none) ∧
    g.step (some e) none =
      (⟨(g.cap.take (8 * e.divisor.value) none).1, g.home⟩, none) := by
  intro sl r fresh
  refine ⟨g.step_cap _ _, fun hfresh => ?_, fun hnot => ?_, Status.step_of_not_fresh (g.cap.take_without_samples _)⟩
  · have hstep : r = _ := Status.step_of_fresh (sl := sl) rfl ((g.cap.take_snd_iff _ sl).mpr hfresh)
    rw [hstep]
    exact ⟨rfl, rfl⟩
  · have hstep : r = _ := Status.step_of_not_fresh (not_fresh_of (limit := entryLimit (some e)) hnot)
    rw [hstep]
    exact ⟨rfl, rfl⟩

theorem line_captures (g : Line) (p : Bool) :
    let sl := slots[e.slot]
    let r := g.step (some e) (some slots) p
    let fresh := ∃ c, g.cap.ref = some c ∧ sl.count ≠ c
    r.cap = (g.cap.take (8 * e.divisor.value) (some sl)).1 ∧
    (g.step (some e) none p).cap = (g.cap.take (8 * e.divisor.value) none).1 ∧
    (fresh → r.pos = some (sl.payload.extractLsb' 0 24)) ∧ (¬ fresh → r.pos = g.pos) := by
  intro sl r fresh
  refine ⟨(g.step_cap_hist _ _ p).1, (g.step_cap_hist _ _ p).1, fun hfresh => ?_, fun hnot => ?_⟩
  · have hstep : r = _ := Line.step_of_fresh (sl := sl) rfl ((g.cap.take_snd_iff _ sl).mpr hfresh)
    rw [hstep]
    rfl
  · have hstep : r = _ := Line.step_of_not_fresh (not_fresh_of (limit := entryLimit (some e)) hnot)
    rw [hstep]

end

theorem capture_takes (c : Capture) (limit : Nat) :
    (∀ sl : Slot,
      ((c.take limit (some sl)).2 = true ↔ ∃ r, c.ref = some r ∧ sl.count ≠ r) ∧
      (c.take limit (some sl)).1.ref = some sl.count ∧
      ((c.take limit (some sl)).2 = true →
        (c.take limit (some sl)).1.cond = .live ∧ (c.take limit (some sl)).1.since = 0)) ∧
    ∀ slot : Option Slot, (c.take limit slot).2 = false →
      (c.take limit slot).1.since = min 65535 (c.since + 1) ∧
      (slot = none → (c.take limit slot).1.ref = c.ref) ∧
      ((c.take limit slot).1.cond = .live ↔ c.cond = .live ∧ min 65535 (c.since + 1) < limit) ∧
      ((c.take limit slot).1.cond = .waiting ↔ c.cond = .waiting) := by
  refine ⟨fun sl => ⟨c.take_snd_iff limit sl, c.take_ref limit sl, fun hfresh => ?_⟩, fun slot hnot => ?_⟩
  · obtain ⟨sl', -, heq⟩ := Capture.take_fst_of_fresh hfresh
    rw [heq]
    exact ⟨rfl, rfl⟩
  · obtain ⟨hlive, hwaiting⟩ := c.age_cond limit
    rw [Capture.take_fst_of_not_fresh hnot]
    exact ⟨rfl, fun hslot => by rw [hslot]; rfl, hlive, hwaiting⟩

/-- Settles O11, kind of signal by kind of signal: each step either refreshes the signal from its slot or ages it. -/
theorem captureOfASlot : Obligations.CaptureOfASlot := by
  refine ⟨capture_takes, fun g e slots => gauge_captures e slots g, fun g e => ?_,
    fun g e slots p => spindle_captures e slots g p, fun g e samples p => ?_, fun v es eg samples p => ?_,
    fun st samples p => rfl, fun g e slots => status_captures e slots g, fun g e slots p => line_captures e slots g p,
    fun g e samples p => ?_⟩
  · have hstep := Gauge.step_of_not_fresh (g.cap.take_without_samples e)
    dsimp only
    rw [hstep]
    exact ⟨rfl, rfl, rfl⟩
  · obtain ⟨-, hhist⟩ := g.step_cap_hist e samples p
    refine ⟨fun hnone => ?_, fun hcond => ?_, fun hcond hp => ?_, fun v hcond hp hv => ?_⟩
    · subst hnone
      have hstep : g.step e none p = _ := Spindle.step_of_not_fresh (g.cap.take_without_samples e)
      rw [hstep]
      exact ⟨rfl, rfl⟩
    · rw [hhist]; exact stepHistory_of_not_live _ _ _ hcond
    · subst hp; rw [hhist]; exact stepHistory_of_passedOver _ _ hcond
    · rw [hhist, hv, hp]; exact stepHistory_of_live _ v (hp ▸ hcond)
  · refine ⟨rfl, ?_, ?_⟩
    · show (v.unload && (v.gauge.step eg samples).1.present.getD false) = true ↔ _
      rw [Bool.and_eq_true, show ∀ o : Option Bool, o.getD false = true ↔ o = some true from fun o => by
        cases o <;> simp]
    · unfold ArmState.step
      simp only [ArmHand.mk.injEq, true_and, and_true, Capture.isStale]
      cases hcond : v.spindle.cap.cond <;> cases hcond' : (v.spindle.step es samples p).1.cap.cond <;> simp
  · obtain ⟨-, hhist⟩ := g.step_cap_hist e samples p
    refine ⟨fun hnone => ?_, fun hcond => ?_, fun hcond hp => ?_, fun v hcond hp hv => ?_⟩
    · subst hnone
      have hstep : g.step e none p = _ := Line.step_of_not_fresh (g.cap.take_without_samples e)
      rw [hstep]
    · rw [hhist]; exact stepHistory_of_not_live _ _ _ hcond
    · subst hp; rw [hhist]; exact stepHistory_of_passedOver _ _ hcond
    · rw [hhist, hv, hp]; exact stepHistory_of_live _ v (hp ▸ hcond)

end Sys2Proof.Machine
end

section
/-! SUPPORT. A fault a step takes, and the end of the event (R131, R162); the stale limit and the stale watch: O12 and O13. -/
namespace Sys2Proof.Machine

/-! ### The end of an event -/

section
variable {s : State} {k : StandId}

theorem State.stand_endEvent (s : State) (k : StandId) : s.endEvent.stand k = s.decideAll.stand k := by
  unfold State.endEvent
  rw [State.joinLog_frame]
  rfl

theorem State.group_endEvent (s : State) (g : GroupId) : s.endEvent.group g = s.decideAll.group g := by
  unfold State.endEvent
  rw [State.joinLog_frame]
  rfl

theorem State.decideAll_grantsAny (s : State) : s.GrantsIn (fun _ => True) s.decideAll :=
  State.decideAll_grantsIn fun _ h => absurd trivial h

/-- R133: the decisions at the end leave a stand that requests nothing as it is. -/
theorem State.endEvent_stand_of_not_requests (hs : GroupsAgree s) (h : (s.stand k).requests = false) :
    s.endEvent.stand k = s.stand k := by
  rw [State.stand_endEvent]
  rcases s.decideAll_grantsAny.stand k with heq | ⟨hgrant, -⟩
  · exact heq
  · rw [(hgrant hs).1] at h; cases h

theorem State.endEvent_log_of_formed_nil (h : s.formed = []) : s.endEvent.log = s.log := by
  have hdecided := s.decideAll_grantsAny.frame
  have hformed : s.decideAll.formed = [] := by rw [hdecided]; exact h
  unfold State.endEvent
  rw [State.joinLog_of_formed_nil _ hformed, hdecided]

theorem Stand.requests_eq_false {st : Stand} (h : st.state ≠ .matched) : st.requests = false := by
  simp [Stand.requests, h]

end

/-! ### A fault taken in service -/

section
variable {s : State} {k : StandId}

/-- R142, R144: what a fault makes of a stand in service that is not in FAULT yet. -/
theorem State.takeFault_stand_self (kind : FaultKind) (sig : Option StaleSignal)
    (hoffline : (s.stand k).state ≠ .offline) (hfault : (s.stand k).state ≠ .fault) :
    (s.takeFault k kind sig).stand k = (s.stand k).enterFault kind s.cycle sig := by
  rw [s.takeFault_of_service k kind sig hoffline hfault, State.stand_modStand, if_pos rfl, State.leaveGroup_stand]
  split <;> rfl

theorem Stand.enterFault_state (st : Stand) (kind : FaultKind) (c : Word) (sig : Option StaleSignal) :
    (st.enterFault kind c sig).state = .fault := rfl

theorem Stand.enterFault_braking (st : Stand) (kind : FaultKind) (c : Word) (sig : Option StaleSignal) :
    (st.enterFault kind c sig).braking = st.brakingAtFault := rfl

theorem Stand.enterFault_record (st : Stand) (kind : FaultKind) (c : Word) (sig : Option StaleSignal) :
    (st.enterFault kind c sig).record = some (st.latched kind c sig) := by
  show some (st.newRecord kind c sig) = some (st.latched kind c sig)
  unfold Stand.newRecord Stand.latched StandState.afterFire
  cases st.state <;> rfl

theorem StandState.service_of_watched {x : StandState} (h : x.watched = true) : x ≠ .offline ∧ x ≠ .fault := by
  cases x <;> simp_all [StandState.watched]

theorem StandState.watched_eq_true_iff (x : StandState) : x.watched = true ↔ x ∈ [.accel, .matched, .firingPending] := by
  cases x <;> simp [StandState.watched]

theorem State.takeFault_log (s : State) (k : StandId) (kind : FaultKind) (sig : Option StaleSignal) :
    (s.takeFault k kind sig).log = s.log := by
  have h : s.ActsAt .linkLoss False k (s.takeFault k kind sig) := s.takeFault_actsAt k kind sig
  rw [h.frame]

/-- A fault before the fire, and the end of its event: the stand in FAULT, the log as it was. -/
theorem State.takeFault_endEvent_of_watched (hs : GroupsAgree s) (hformed : s.formed = [])
    (hwatched : (s.stand k).state.watched = true) (kind : FaultKind) (sig : Option StaleSignal) :
    ((s.takeFault k kind sig).endEvent.stand k) = (s.stand k).enterFault kind s.cycle sig ∧
      (s.takeFault k kind sig).endEvent.log = s.log := by
  obtain ⟨hoffline, hfault⟩ := StandState.service_of_watched hwatched
  have hstand := State.takeFault_stand_self kind sig hoffline hfault
  constructor
  · rw [State.endEvent_stand_of_not_requests (hs.takeFault k kind sig), hstand]
    rw [hstand]
    exact Stand.requests_eq_false (by rw [Stand.enterFault_state]; decide)
  · rw [State.endEvent_log_of_formed_nil, State.takeFault_log]
    rw [State.takeFault_formed kind sig (StandState.afterFire_of_watched hwatched)]
    exact hformed

end

/-! ### The stale limit (O12) -/

section
variable {c : Capture} {limit : Nat}

theorem entryLimit_le (e : Option RetEntry) : entryLimit e ≤ 64 := by
  cases e with
  | none => show 8 ≤ 64; decide
  | some e =>
    show 8 * e.divisor.value ≤ 64
    cases e.divisor <;> decide

theorem Capture.atLimit_eq_true (hlimit : limit ≤ 64) (hlive : c.cond = .live) (hle : limit ≤ c.since + 1) :
    c.atLimit limit = true := by
  simp only [Capture.atLimit, hlive, beq_self_eq_true, Bool.true_and, decide_eq_true_eq]
  omega

theorem Capture.atLimit_eq_false (h : c.cond ≠ .live ∨ c.since + 1 < limit) : c.atLimit limit = false := by
  rcases h with h | h
  · simp [Capture.atLimit, h]
  · simp only [Capture.atLimit, Bool.and_eq_false_iff, decide_eq_false_iff_not]
    exact .inr (by omega)

theorem Capture.age_atLimit (h : c.atLimit limit = true) :
    c.age limit = ⟨.stale, min 65535 (c.since + 1), c.ref⟩ := by
  simp only [Capture.atLimit, Bool.and_eq_true, beq_iff_eq, decide_eq_true_eq] at h
  simp [Capture.age, h.1, h.2]

end

theorem State.signalStaleLimit_eq {s : State} (hreset : s.inReset = false) (g : SignalName) :
    exec (.signalStaleLimit g) s = .next (match g with
      | .line => s.lineStale
      | .spindle k x => s.modStand k (·.spindleStale x)
      | .gauge k x => s.modStand k (·.gaugeStale x)
      | .status k => s.modStand k Stand.statusStale) := by
  show execSignalStaleLimit g s = _
  unfold execSignalStaleLimit State.signalStaleLimit
  rw [hreset]
  cases g <;> rfl

section
variable {st : Stand}

theorem Stand.spindleStale_of_not {x : Arm} (h : st.inService = false ∨
    (st.arm x).spindle.cap.atLimit (entryLimit (st.map.spindle x)) = false) : st.spindleStale x = st := by
  unfold Stand.spindleStale
  rcases h with h | h <;> simp [h]

theorem Stand.spindleStale_of_atLimit {x : Arm} (hservice : st.inService = true)
    (h : (st.arm x).spindle.cap.atLimit (entryLimit (st.map.spindle x)) = true) :
    st.spindleStale x =
      { st.setArm x { st.arm x with spindle := (st.arm x).spindle.goStale (st.map.spindle x) } with
        window := if x = st.runningArm then none else st.window } := by
  unfold Stand.spindleStale
  dsimp only
  rw [hservice, h]
  by_cases hx : x = st.runningArm
  · simp [hx]
  · cases x <;> simp [hx, Stand.setArm]

theorem Stand.gaugeStale_of_not {x : Arm} (h : st.inService = false ∨
    (st.arm x).gauge.cap.atLimit (entryLimit (st.map.gauge x)) = false) : st.gaugeStale x = st := by
  unfold Stand.gaugeStale
  rcases h with h | h <;> simp [h]

theorem Stand.gaugeStale_of_atLimit {x : Arm} (hservice : st.inService = true)
    (h : (st.arm x).gauge.cap.atLimit (entryLimit (st.map.gauge x)) = true) :
    st.gaugeStale x = st.setArm x { st.arm x with
      gauge := { (st.arm x).gauge with cap := (st.arm x).gauge.cap.age (entryLimit (st.map.gauge x)) } } := by
  unfold Stand.gaugeStale
  dsimp only
  rw [hservice, h]
  rfl

theorem Stand.statusStale_of_not (h : st.inService = false ∨
    st.status.cap.atLimit (entryLimit st.map.status) = false) : st.statusStale = st := by
  unfold Stand.statusStale
  rcases h with h | h <;> simp [h]

theorem Stand.statusStale_of_atLimit (hservice : st.inService = true)
    (h : st.status.cap.atLimit (entryLimit st.map.status) = true) :
    st.statusStale = { st with status := { st.status with cap := st.status.cap.age (entryLimit st.map.status) } } := by
  unfold Stand.statusStale
  rw [hservice, h]
  rfl

end

/-- A fold of one change over all stands is that change of the vector. -/
theorem State.foldl_allStands_modStand (f : Stand → Stand) (s : State) :
    allStands.foldl (fun t k => t.modStand k f) s = { s with stands := s.stands.map f } := by
  rw [State.foldl_modStand_frame (fun _ => f)]
  congr 1
  apply Vector.ext
  intro i hi
  rw [Vector.getElem_map]
  exact State.stand_foldl_allStands (fun _ => f) s ⟨i, hi⟩

section
variable {s : State}

theorem State.lineStale_of_unmapped (h : s.lineMap = none) : s.lineStale = s := by
  unfold State.lineStale
  rw [h]

theorem State.lineStale_of_not {e : RetEntry} (hmap : s.lineMap = some e)
    (h : s.line.cap.atLimit (8 * e.divisor.value) = false) : s.lineStale = s := by
  have h' : s.line.cap.atLimit e.divisor.limit = false := h
  simp [State.lineStale, hmap, h']

theorem State.lineStale_of_atLimit {e : RetEntry} (hmap : s.lineMap = some e)
    (h : s.line.cap.atLimit (8 * e.divisor.value) = true) :
    s.lineStale = { s with
      line := { s.line with cap := s.line.cap.age (8 * e.divisor.value), hist := [] }
      stands := s.stands.map fun st => { st with window := none } } := by
  have h' : s.line.cap.atLimit e.divisor.limit = true := h
  unfold State.lineStale
  rw [hmap]
  dsimp only
  rw [if_pos h', State.foldl_allStands_modStand]
  rfl

end

/-- Settles O12, signal by signal: at its limit the signal ages into STALE, short of it the row does nothing. -/
theorem staleLimitEmptiesHistory : Obligations.StaleLimitEmptiesHistory := by
  intro s hreset
  have hexec := State.signalStaleLimit_eq hreset
  refine ⟨fun k x hservice => ⟨fun hlive hle => ?_, fun hnot => ?_⟩,
    fun k x hservice => ⟨fun hlive hle => ?_, fun hnot => ?_⟩,
    fun k hservice => ⟨fun hlive hle => ?_, fun hnot => ?_⟩, fun k hoffline g hg => ?_,
    fun e hmap => ⟨fun hlive hle => ?_, fun hnot => ?_⟩, fun hmap => ?_⟩
  · have hlimit := Capture.atLimit_eq_true (entryLimit_le _) hlive hle
    simp only [hexec, State.modStand_eq]
    rw [Stand.spindleStale_of_atLimit hservice hlimit, Spindle.goStale, Capture.age_atLimit hlimit]
  · simp only [hexec, State.modStand_eq]
    rw [Stand.spindleStale_of_not (.inr (Capture.atLimit_eq_false hnot)), State.setStand_stand]
  · have hlimit := Capture.atLimit_eq_true (entryLimit_le _) hlive hle
    simp only [hexec, State.modStand_eq]
    rw [Stand.gaugeStale_of_atLimit hservice hlimit, Capture.age_atLimit hlimit]
  · simp only [hexec, State.modStand_eq]
    rw [Stand.gaugeStale_of_not (.inr (Capture.atLimit_eq_false hnot)), State.setStand_stand]
  · have hlimit := Capture.atLimit_eq_true (entryLimit_le _) hlive hle
    simp only [hexec, State.modStand_eq]
    rw [Stand.statusStale_of_atLimit hservice hlimit, Capture.age_atLimit hlimit]
  · simp only [hexec, State.modStand_eq]
    rw [Stand.statusStale_of_not (.inr (Capture.atLimit_eq_false hnot)), State.setStand_stand]
  · rw [hexec]
    cases g with
    | line => cases hg
    | spindle j x =>
      cases hg
      simp only [State.modStand_eq]
      rw [Stand.spindleStale_of_not (.inl hoffline), State.setStand_stand]
    | gauge j x =>
      cases hg
      simp only [State.modStand_eq]
      rw [Stand.gaugeStale_of_not (.inl hoffline), State.setStand_stand]
    | status j =>
      cases hg
      simp only [State.modStand_eq]
      rw [Stand.statusStale_of_not (.inl hoffline), State.setStand_stand]
  · have hlimit : s.line.cap.atLimit (8 * e.divisor.value) = true :=
      Capture.atLimit_eq_true (entryLimit_le (some e)) hlive hle
    rw [hexec, State.lineStale_of_atLimit hmap hlimit, Capture.age_atLimit hlimit]
  · rw [hexec, State.lineStale_of_not hmap (Capture.atLimit_eq_false hnot)]
  · rw [hexec, State.lineStale_of_unmapped hmap]

/-! ### The stale watch (O13) -/

theorem watchCount_eq (n : Nat) (stale watched : Bool) :
    watchCount n stale watched = if watched = true ∧ stale = true then min 64 (n + 1) else 0 := by
  cases stale <;> cases watched <;> rfl

theorem Capture.isStale_iff (c : Capture) : c.isStale = true ↔ c.cond ≠ .live := bne_iff_ne

theorem watchCount_eq_limit_iff (n : Nat) (stale : Bool) :
    watchCount n stale true = 64 ↔ stale = true ∧ 63 ≤ n := by
  rw [watchCount_eq]
  cases stale <;> simp

theorem spindleName_eq (x : Arm) : spindleName x = if x = .a then .spindleA else .spindleB := by cases x <;> rfl

theorem Stand.watchExpired_eq (st : Stand) : st.watchExpired =
    if st.watch.line = 64 then some .line
    else if st.watch.spindle = 64 then some (if st.readyArm = .a then .spindleA else .spindleB)
    else if st.watch.status = 64 then some .status
    else none := by
  rw [← spindleName_eq]
  rfl

theorem State.watchStand_of_none {s : State} {k : StandId} {lineStale : Bool}
    (h : ((s.stand k).watchStep lineStale).watchExpired = none) :
    s.watchStand k lineStale = s.setStand k ((s.stand k).watchStep lineStale) := by
  unfold State.watchStand
  simp only [h]

theorem State.watchStand_of_some {s : State} {k : StandId} {lineStale : Bool} {sig : StaleSignal}
    (h : ((s.stand k).watchStep lineStale).watchExpired = some sig) :
    s.watchStand k lineStale = (s.setStand k ((s.stand k).watchStep lineStale)).takeFault k .signalStale (some sig) := by
  unfold State.watchStand
  simp only [h]

/-- The signal that a watched stand's step names, in the order LINE, SPINDLE, STATUS. -/
theorem Stand.watchStep_expired {st : Stand} (hwatched : st.state.watched = true) (c : Capture) :
    (st.watchStep c.isStale).watchExpired =
      if c.cond ≠ .live ∧ 63 ≤ st.watch.line then some .line
      else if (st.arm st.readyArm).spindle.cap.cond ≠ .live ∧ 63 ≤ st.watch.spindle then
        some (if st.readyArm = .a then .spindleA else .spindleB)
      else if st.status.cap.cond ≠ .live ∧ 63 ≤ st.watch.status then some .status
      else none := by
  rw [Stand.watchExpired_eq]
  simp only [Stand.watchStep, hwatched, watchCount_eq_limit_iff, Capture.isStale_iff]
  rfl

theorem State.signalStale_of_none {s : State} {k : StandId}
    (h : ((s.stand k).watchStep s.line.cap.isStale).watchExpired = none) : s.signalStale k = s := by
  simp [State.signalStale, State.staleWatchDue, h]

theorem State.signalStale_of_some {s : State} {k : StandId} {sig : StaleSignal} (hreset : s.inReset = false)
    (hservice : (s.stand k).inService = true)
    (h : ((s.stand k).watchStep s.line.cap.isStale).watchExpired = some sig) :
    s.signalStale k =
      ((s.setStand k ((s.stand k).watchStep s.line.cap.isStale)).takeFault k .signalStale (some sig)).endEvent := by
  rw [← State.watchStand_of_some h]
  simp [State.signalStale, State.staleWatchDue, h, hreset, hservice]

/-- Settles O13: the counts are those of the watch step, and the fault is taken by the stand alone, which requests
nothing afterwards. -/
theorem staleWatchFaultsStand : Obligations.StaleWatchFaultsStand := by
  refine ⟨fun st lineStale => ⟨rfl, ?_, ?_, ?_⟩, fun s k lineStale => ⟨fun hnone => ?_, fun g hsome => ?_⟩,
    fun s k hreset hs hformed hwatched => ⟨fun hdue => ?_, fun hnot => ?_⟩⟩
  · simp only [Stand.watchStep, watchCount_eq, StandState.watched_eq_true_iff]
  · simp only [Stand.watchStep, watchCount_eq, StandState.watched_eq_true_iff, Capture.isStale_iff]
  · simp only [Stand.watchStep, watchCount_eq, StandState.watched_eq_true_iff, Capture.isStale_iff]
  · exact State.watchStand_of_none ((Stand.watchExpired_eq _).trans hnone)
  · exact State.watchStand_of_some ((Stand.watchExpired_eq _).trans hsome)
  · obtain ⟨sig, hsig⟩ : ∃ sig, ((s.stand k).watchStep s.line.cap.isStale).watchExpired = some sig := by
      rw [← Option.isSome_iff_exists, Stand.watchStep_expired hwatched]
      grind
    have hservice := (Stand.inService_iff _).mpr (StandState.service_of_watched hwatched).1
    have hrole := (s.stand k).watchStep_sameRole s.line.cap.isStale
    have hstand := State.stand_setStand_same s k ((s.stand k).watchStep s.line.cap.isStale)
    obtain ⟨hfault, hlog⟩ := State.takeFault_endEvent_of_watched (k := k)
      ((State.setStand_sameRoles hrole).groupsAgree hs) (s := s.setStand k ((s.stand k).watchStep s.line.cap.isStale))
      hformed (by rw [hstand]; exact hwatched) .signalStale (some sig)
    have hsig' := (Stand.watchStep_expired hwatched s.line.cap).symm.trans hsig
    refine ⟨_, sig, congrArg Host.Outcome.next (State.signalStale_of_some hreset hservice hsig),
      by rw [hfault]; rfl, ?_, fun hline => ?_, fun hline hspindle => ?_, fun hline hspindle => ?_, ?_, hlog⟩
    · rw [hfault, Stand.enterFault_record, hstand]; rfl
    · rw [if_pos hline] at hsig'; exact (Option.some.inj hsig').symm
    · rw [if_neg hline, if_pos hspindle] at hsig'; exact (Option.some.inj hsig').symm
    · rw [if_neg hline, if_neg hspindle, if_pos (by tauto)] at hsig'; exact (Option.some.inj hsig').symm
    · rw [hfault, hstand, Stand.enterFault_braking]
      exact if_pos hwatched
  · refine congrArg Host.Outcome.next (State.signalStale_of_none ?_)
    rw [Stand.watchStep_expired hwatched]
    grind

end Sys2Proof.Machine
end

section
/-! SUPPORT. The measurement step: rates, speeds, the running-diameter window and the anchor; O15, O16, O17. -/
namespace Sys2Proof.Machine

/-! ### Differences over a complete history (R40, R41, R42) -/

theorem List.ends_of_length_seventeen {α : Type} {h : List α} {p q : α} (hlen : h.length = 17) (hp : h[0]? = some p)
    (hq : h[16]? = some q) : h.head? = some p ∧ h.getLast? = some q := by
  rw [List.head?_eq_getElem?, List.getLast?_eq_getElem?, hlen]
  exact ⟨hp, hq⟩

theorem speedOf_of_incomplete {h : List (BitVec 24)} (old : Nat) (hlen : h.length ≠ 17) : speedOf h old = old := by
  have : historyComplete h = false := by simpa [historyComplete] using hlen
  unfold speedOf
  split
  · simp [this]
  · rfl

theorem speedOf_of_complete {h : List (BitVec 24)} {p q : BitVec 24} (old : Nat) (hlen : h.length = 17)
    (hp : h[0]? = some p) (hq : h[16]? = some q) :
    speedOf h old = if (q - p).toNat < 2 ^ 23 then (q - p).toNat else 0 := by
  obtain ⟨hhead, hlast⟩ := List.ends_of_length_seventeen hlen hp hq
  have : historyComplete h = true := by simpa [historyComplete] using hlen
  simp only [speedOf, hhead, hlast, this, if_true]

theorem rateOf_of_incomplete {h : List Angle} (old : Nat) (hlen : h.length ≠ 17) : rateOf h old = old := by
  have : historyComplete h = false := by simpa [historyComplete] using hlen
  unfold rateOf
  split
  · simp [this]
  · rfl

theorem rateOf_of_complete {h : List Angle} {p q : Angle} (old : Nat) (hlen : h.length = 17) (hp : h[0]? = some p)
    (hq : h[16]? = some q) : rateOf h old = (q - p).toNat := by
  obtain ⟨hhead, hlast⟩ := List.ends_of_length_seventeen hlen hp hq
  have : historyComplete h = true := by simpa [historyComplete] using hlen
  simp only [rateOf, hhead, hlast, this, if_true]

theorem lineIncrement_none {before after : Option (BitVec 24)} (h : before = none ∨ after = none) :
    lineIncrement before after = 0 := by
  unfold lineIncrement
  rcases h with rfl | rfl
  · rfl
  · cases before <;> rfl

theorem State.lineStep_of_mapped {s : State} {e : RetEntry} (samples : Option (Vector Slot 96)) (p : Bool)
    (hmap : s.lineMap = some e) :
    (s.lineStep samples p).1 =
      { s with
        line := s.line.step (some e) samples p
        lineSpeed := speedOf (s.line.step (some e) samples p).hist s.lineSpeed
        lineInc := lineIncrement s.line.pos (s.line.step (some e) samples p).pos } := by
  unfold State.lineStep
  rw [hmap]

theorem Stand.arm_measureRates (st : Stand) (x : Arm) : st.measureRates.arm x = (st.arm x).measureRate := by
  cases x <;> rfl

/-- Settles O15: speed and rate are read off the two ends of a history of 17, and held with any other. -/
theorem speedsSpanSixteenCycles : Obligations.SpeedsSpanSixteenCycles := by
  refine ⟨fun s e samples p hmap => ?_, fun st x => ?_⟩
  · dsimp only
    rw [State.lineStep_of_mapped samples p hmap]
    refine ⟨fun hlen => speedOf_of_incomplete _ hlen, fun a b hlen ha hb => speedOf_of_complete _ hlen ha hb,
      fun a b ha hb => ?_, lineIncrement_none, rfl⟩
    show lineIncrement s.line.pos (s.line.step (some e) samples p).pos = _
    rw [ha, show (s.line.step (some e) samples p).pos = some b from hb]
    rfl
  · dsimp only
    rw [Stand.arm_measureRates]
    refine ⟨?_, fun a b hlen ha hb => rateOf_of_complete _ hlen ha hb, rfl⟩
    by_cases hlen : (st.arm x).spindle.hist.length = 17
    · exact .inr hlen
    · exact .inl (rateOf_of_incomplete _ hlen)

/-! ### The running-diameter window (R43, R44, R46) -/

theorem Stand.windowStep_of_still {st : Stand} {lineLive : Bool} (p : Bool) (inc : Nat) (grades : Vector Grade 16)
    (h : lineLive = false ∨ (st.arm st.runningArm).spindle.cap.cond ≠ .live) :
    st.windowStep lineLive p inc grades = st := by
  have hnot : (lineLive && !(st.arm st.runningArm).spindle.cap.isStale) = false := by
    rcases h with h | h
    · rw [h]; rfl
    · rw [(Capture.isStale_iff _).mpr h, Bool.not_true, Bool.and_false]
  unfold Stand.windowStep
  simp only [hnot, Bool.false_eq_true, if_false]

theorem Stand.windowStep_of_live {st : Stand} {x : Angle} (p : Bool) (inc : Nat) (grades : Vector Grade 16)
    (hlive : (st.arm st.runningArm).spindle.cap.cond = .live) (hangle : (st.arm st.runningArm).spindle.angle = some x) :
    st.windowStep true p inc grades =
      match st.window with
      | some w => st.advanceWindow w inc (x - w.angle) grades
      | none => if p then st else { st with window := some ⟨0, 0, x⟩ } := by
  have hnot := (Capture.isStale_eq_false_iff _).mpr hlive
  unfold Stand.windowStep
  simp only [hnot, hangle, Bool.not_false, Bool.and_self, if_true]
  cases st.window <;> rfl

theorem Stand.advanceWindow_of_short {st : Stand} {w : DiameterWindow} (inc : Nat) {travel : Angle}
    (grades : Vector Grade 16) (h : w.travel + travel.toNat < 4096) :
    st.advanceWindow w inc travel grades =
      { st with window := some ⟨min (2 ^ 32 - 1) (w.line + inc), w.travel + travel.toNat, w.angle + travel⟩ } := by
  unfold Stand.advanceWindow
  exact if_neg (not_le.mpr h)

theorem Stand.advanceWindow_of_complete {st : Stand} {w : DiameterWindow} (inc : Nat) {travel : Angle}
    (grades : Vector Grade 16) (h : 4096 ≤ w.travel + travel.toNat) :
    st.advanceWindow w inc travel grades =
      { st with window := some ⟨0, 0, w.angle + travel⟩ }.acceptTest
        (measuredDiameter (min (2 ^ 32 - 1) (w.line + inc)) (w.travel + travel.toNat)) grades := by
  unfold Stand.advanceWindow
  exact if_pos h

theorem measuredDiameter_isRounded (line : Nat) {travel : Nat} (h : 4096 ≤ travel) :
    ∃ d, IsRounded (line * 4096000) (travel * 31416) d ∧ measuredDiameter line travel = min 16000 d :=
  ⟨_, roundDiv_isRounded _ _ (by omega), rfl⟩

/-- R46: the acceptance test of a stand with a running context. -/
theorem Stand.acceptTest_eq {st : Stand} {r : RunningContext} (d : Nat) (grades : Vector Grade 16)
    (hr : st.running = some r) :
    st.acceptTest d grades =
      if st.acceptOpen = true ∨ d ≤ r.dRun + st.params.riseTol then
        { st with acceptOpen := false, running := some (r.accept d grades) }
      else st := by
  simp only [Stand.acceptTest, Stand.dRun, hr, Bool.or_eq_true, decide_eq_true_eq, Option.map_some]

theorem Stand.advanceAnchor_of_some {st : Stand} {r : RunningContext} (inc : Nat) (hr : st.running = some r) :
    st.advanceAnchor inc = { st with running := some { r with anchor := r.anchor.map (·.advance inc) } } := by
  simp only [Stand.advanceAnchor, hr, Option.map_some]

theorem RunningContext.accept_frame (r : RunningContext) (d : Nat) (grades : Vector Grade 16) :
    r.accept d grades =
      { r with dRun := d, valid := true, caliper := (r.accept d grades).caliper, anchor := (r.accept d grades).anchor } := by
  unfold RunningContext.accept
  split
  · rfl
  · split <;> rfl

/-- R47: an acceptance forms D_run and leaves what the record gave the context. -/
theorem RunningContext.accept_keeps (r : RunningContext) (d : Nat) (grades : Vector Grade 16) :
    let r' := r.accept d grades
    r'.roll = r.roll ∧ r'.grade = r.grade ∧ r'.core = r.core ∧ r'.width = r.width ∧ r'.override = r.override ∧
      r'.dRun = d ∧ r'.valid = true := by
  dsimp only
  rw [r.accept_frame d grades]
  exact ⟨rfl, rfl, rfl, rfl, rfl, rfl, rfl⟩

theorem RunningContext.accept_anchor_isSome (r : RunningContext) (d : Nat) (grades : Vector Grade 16) :
    (r.accept d grades).anchor.isSome = true := by
  unfold RunningContext.accept
  split
  · rfl
  · rename_i a ha
    split
    · rfl
    · show r.anchor.isSome = true
      rw [ha]; rfl

/-- What the requests and grants of a step may change of a stand. -/
def Stand.SameButGrant (st st' : Stand) : Prop :=
  st' = { st with state := st'.state, grant := st'.grant, requestStart := st'.requestStart }

theorem Stand.SameButGrant.refl (st : Stand) : st.SameButGrant st := rfl

theorem State.refreshRequest_sameButGrant (s : State) (k : StandId) :
    (s.stand k).SameButGrant ((s.refreshRequest k).stand k) := by
  unfold State.refreshRequest
  dsimp only
  split
  · split
    · rw [State.setGroup_stand, State.stand_setStand_same]; exact .refl _
    · exact .refl _
  · exact .refl _

theorem State.endEvent_sameButGrant (s : State) (k : StandId) : (s.stand k).SameButGrant (s.endEvent.stand k) := by
  rw [State.stand_endEvent]
  rcases s.decideAll_grantsAny.stand k with heq | ⟨-, g, heq⟩ <;> rw [heq]
  · exact .refl _
  · exact rfl

theorem Stand.SameButGrant.trans {a b c : Stand} (h : a.SameButGrant b) (h' : b.SameButGrant c) : a.SameButGrant c := by
  unfold Stand.SameButGrant at *
  rw [h', h]

/-! ### The row RUNNING_DIAMETER_WINDOW_COMPLETE -/

theorem State.refreshRequest_log (s : State) (k : StandId) : (s.refreshRequest k).log = s.log := by
  have h : s.ActsAt .linkLoss False k (s.refreshRequest k) := s.refreshRequest_actsAt k
  rw [h.frame]

theorem State.windowComplete_of_complete {s : State} {k : StandId} {inc : BitVec 23} {travel : BitVec 12}
    {w : DiameterWindow} (hreset : s.inReset = false) (hlive : s.windowLive k = true)
    (hw : (s.stand k).window = some w) (hfull : 4096 ≤ w.travel + travel.toNat) :
    s.windowComplete k inc travel = s.completeWindow k w inc.toNat travel := by
  unfold State.windowComplete
  simp only [hw, hreset, hlive, hfull, Bool.not_false, Bool.and_self, decide_true, if_true]

/-- The stand the row leaves, but for requests and grants; the log is as it was. -/
theorem State.completeWindow_stand {s : State} (k : StandId) (w : DiameterWindow) (inc : Nat) (travel : Angle)
    (hformed : s.formed = []) :
    ((((s.stand k).advanceAnchor inc).advanceWindow w inc travel s.grades).measureLength s.lineSpeed).SameButGrant
        ((s.completeWindow k w inc travel).stand k) ∧
      (s.completeWindow k w inc travel).log = s.log := by
  unfold State.completeWindow
  dsimp only
  generalize hst : (((s.stand k).advanceAnchor inc).advanceWindow w inc travel s.grades).measureLength s.lineSpeed = st
  refine ⟨?_, ?_⟩
  · have hrequest := (s.setStand k st).refreshRequest_sameButGrant k
    rw [State.stand_setStand_same] at hrequest
    exact hrequest.trans (State.endEvent_sameButGrant _ k)
  · have hnone : ((s.setStand k st).refreshRequest k).formed = [] := (State.refreshRequest_formed _ k).trans hformed
    exact (State.endEvent_log_of_formed_nil hnone).trans (State.refreshRequest_log _ k)

/-- No event of this row changes a parameter. -/
theorem exec_windowComplete_params {s t : State} {k : StandId} {inc : BitVec 23} {travel : BitVec 12}
    (h : exec (.runningDiameterWindowComplete k inc travel) s = .next t) (j : StandId) :
    (t.stand j).params = (s.stand j).params := by
  obtain ⟨-, hsetup⟩ := commandTouchesOneStand
  obtain ⟨hparams, -⟩ := hsetup _ s t j h (fun hc => by cases hc) (fun a hc => by cases hc)
  exact hparams fun r sel p hc => by cases hc

/-- Settles O16: the window's two cases, whether its signals are LIVE and whether its travel is complete, and the
acceptance test on the measurement it forms. -/
theorem windowCompletionMeetsAcceptance : Obligations.WindowCompletionMeetsAcceptance := by
  refine ⟨fun st h lineLive p inc speed grades => rfl, fun st lineLive p inc grades =>
    ⟨Stand.windowStep_of_still p inc grades, fun x hline hlive hangle => ⟨fun hnone => ?_, fun w hw => ⟨fun hshort => ?_,
      fun hfull => ?_⟩⟩⟩, fun st d grades r hr => Stand.acceptTest_eq d grades hr,
    fun s k inc travel w r hreset hformed hlive hw hr hfull => ?_⟩
  · subst hline
    rw [Stand.windowStep_of_live p inc grades hlive hangle, hnone]
  · subst hline
    rw [Stand.windowStep_of_live p inc grades hlive hangle, hw]
    show st.advanceWindow w inc (x - w.angle) grades = _
    rw [Stand.advanceWindow_of_short inc grades hshort, BitVec.add_comm, BitVec.sub_add_cancel]
  · subst hline
    obtain ⟨d, hd, hmeasured⟩ := measuredDiameter_isRounded (min (2 ^ 32 - 1) (w.line + inc)) hfull
    refine ⟨d, hd, ?_⟩
    rw [Stand.windowStep_of_live p inc grades hlive hangle, hw]
    show st.advanceWindow w inc (x - w.angle) grades = _
    rw [Stand.advanceWindow_of_complete inc grades hfull, hmeasured, BitVec.add_comm, BitVec.sub_add_cancel]
  · obtain ⟨d, hd, hmeasured⟩ := measuredDiameter_isRounded (min (2 ^ 32 - 1) (w.line + inc.toNat)) hfull
    have hexec : exec (.runningDiameterWindowComplete k inc travel) s = .next (s.completeWindow k w inc.toNat travel) :=
      congrArg Host.Outcome.next (State.windowComplete_of_complete hreset hlive hw hfull)
    obtain ⟨hsame, hlog⟩ := s.completeWindow_stand k w inc.toNat travel hformed
    rw [Stand.advanceAnchor_of_some _ hr, Stand.advanceWindow_of_complete _ _ hfull, hmeasured,
      Stand.acceptTest_eq _ _ rfl] at hsame
    generalize s.completeWindow k w inc.toNat travel = t at hexec hsame hlog
    have hparams := exec_windowComplete_params hexec
    by_cases haccept : (s.stand k).acceptOpen = true ∨ min 16000 d ≤ r.dRun + (s.stand k).params.riseTol
    · rw [if_pos haccept] at hsame
      obtain ⟨hroll, hgrade, hcore, hwidth, hoverride, hdRun, hvalid⟩ := RunningContext.accept_keeps
        { r with anchor := r.anchor.map (·.advance inc.toNat) } (min 16000 d) s.grades
      refine ⟨t, d, _, hexec, hd, by rw [hsame]; rfl, by rw [hsame]; rfl, hroll, hgrade, hcore, hwidth, hoverride,
        (if_pos haccept).mpr
          ⟨rfl, hdRun, hvalid, RunningContext.accept_anchor_isSome _ _ _, by rw [hsame]; rfl⟩,
        by rw [hsame]; rfl, by rw [hsame]; rfl, hparams, hlog⟩
    · rw [if_neg haccept] at hsame
      exact ⟨t, d, { r with anchor := r.anchor.map (·.advance inc.toNat) }, hexec, hd, by rw [hsame]; rfl, by rw [hsame]; rfl, rfl, rfl, rfl, rfl, rfl,
        (if_neg haccept).mpr ⟨rfl, by rw [hsame]; rfl⟩, by rw [hsame]; rfl, by rw [hsame]; rfl, hparams, hlog⟩

/-! ### The anchor and the learning check (O17) -/

theorem Stand.measureStep_running (st : Stand) (h : StandHand) (lineLive p : Bool) (inc speed : Nat)
    (grades : Vector Grade 16) :
    (st.measureStep h lineLive p inc speed grades).1.running =
      ((st.measureRates.advanceAnchor inc).windowStep lineLive p inc grades).running := by
  show ((((st.measureRates.advanceAnchor inc).windowStep lineLive p inc grades).measureLength speed).gaugeStep h).1.running = _
  exact (Stand.gaugeStep_core _ h).running

theorem RunningContext.accept_of_no_anchor {r : RunningContext} (d : Nat) (grades : Vector Grade 16)
    (h : r.anchor = none) : r.accept d grades = { r with dRun := d, valid := true, anchor := some ⟨d, 0⟩ } := by
  simp only [RunningContext.accept, h]

theorem RunningContext.accept_of_near {r : RunningContext} {a : Anchor} {d : Nat} (grades : Vector Grade 16)
    (h : r.anchor = some a) (hnear : a.diameter < d + 200) :
    r.accept d grades = { r with dRun := d, valid := true } := by
  simp only [RunningContext.accept, h, if_neg (not_le.mpr hnear)]

theorem RunningContext.accept_of_learning {r : RunningContext} {a : Anchor} {d : Nat} (grades : Vector Grade 16)
    (h : r.anchor = some a) (hfar : d + 200 ≤ a.diameter) :
    r.accept d grades =
      { r with
        dRun := d
        valid := true
        caliper := learnedCaliper a d grades[r.grade] r.caliper
        anchor := some ⟨d, 0⟩ } := by
  simp only [RunningContext.accept, h, if_pos hfar]

theorem learnedCaliper_of_isRounded {a : Anchor} {d q : Nat} (grade : Grade) (old : Nat) (htravel : 0 < a.travel)
    (hq : IsRounded ((a.diameter ^ 2 - d ^ 2) * 7854) (10 * a.travel) q) :
    learnedCaliper a d grade old =
      if (q - grade.caliper + (grade.caliper - q)) * 1000 ≤ grade.band * grade.caliper then q else old := by
  rw [hq.eq_roundDiv (by omega)]
  exact if_neg (by omega)

/-- Settles O17, by the anchor: absent, near the measurement, or at least 200 DU above it. -/
theorem caliperIsLearnedWithinBand : Obligations.CaliperIsLearnedWithinBand := by
  refine ⟨fun st inc => ⟨fun hnone => ?_, fun r hr => ⟨fun hnone => ?_, fun a ha => ?_⟩⟩, Stand.measureStep_running,
    fun r d grades => ?_⟩
  · cases st; cases hnone; rfl
  · rw [Stand.advanceAnchor_of_some inc hr, hnone]
    cases st; cases hr; cases r; cases hnone; rfl
  · rw [Stand.advanceAnchor_of_some inc hr, ha]
    rfl
  · obtain ⟨-, hgrade, -, -, -, hdRun, hvalid⟩ := r.accept_keeps d grades
    refine ⟨hdRun, hvalid, hgrade, fun hnone => ?_, fun a ha hnear => ?_,
      fun a ha hfar => ?_⟩
    · rw [RunningContext.accept_of_no_anchor d grades hnone]; exact ⟨rfl, rfl⟩
    · rw [RunningContext.accept_of_near grades ha hnear]; exact ⟨ha, rfl⟩
    · rw [RunningContext.accept_of_learning grades ha hfar]
      exact ⟨rfl, fun hzero => if_pos hzero, fun q htravel hq => learnedCaliper_of_isRounded _ _ htravel hq⟩

end Sys2Proof.Machine
end

section
/-! SUPPORT. Gauging the ready reel (R55 to R59, R86); O19. -/
namespace Sys2Proof.Machine

/-! ### A fault in CHECKING -/

theorem Stand.returnToHead_of_returnable {st : Stand} {r : ReadyContext} (hr : st.ready = some r)
    (hspent : r.spent = false) :
    st.returnToHead = { st with queue := r.record :: st.queue, ready := none, sNew := none, gaugeWindow := none } := by
  simp only [Stand.returnToHead, hr, hspent, Bool.false_eq_true, if_false]

/-- R104: a stand in CHECKING holds no group and logs nothing at its fault. -/
theorem State.takeFault_of_checking {s : State} {k : StandId} (h : (s.stand k).state = .checking) (kind : FaultKind)
    (sig : Option StaleSignal) :
    s.takeFault k kind sig = s.setStand k ((s.stand k).enterFault kind s.cycle sig) := by
  rw [s.takeFault_of_service k kind sig (by simp [h]) (by simp [h]), h]
  simp [StandState.afterFire, State.leaveGroup, h, State.modStand_eq]

theorem Stand.enterFault_of_checking {st : Stand} {r : ReadyContext} (h : st.state = .checking) (hr : st.ready = some r)
    (hspent : r.spent = false) (kind : FaultKind) (c : Word) (sig : Option StaleSignal) :
    st.enterFault kind c sig =
      { st with
        queue := r.record :: st.queue
        ready := none
        sNew := none
        gaugeWindow := none
        state := .fault
        record := some (st.latched kind c sig)
        accelTimer := none
        forced := false
        sched := { st.sched.stopped with plan := st.sched.plan.map (·.atFault st.state) } } := by
  have hrecord := Option.some.inj (st.enterFault_record kind c sig)
  unfold Stand.enterFault
  rw [if_pos h, Stand.returnToHead_of_returnable hr hspent, ← hrecord]
  simp [Stand.brakingAtFault, h, StandState.watched, StandState.afterFire]

/-! ### The gauge window -/

theorem Stand.countReading_of_open {st : Stand} {w : GaugeWindow} (d : Nat) (h : w.count < 63) :
    st.countReading w d = ({ st with gaugeWindow := some { w with sum := w.sum + d, count := w.count + 1 } }, none) :=
  if_pos (by omega)

theorem Stand.countReading_of_last {st : Stand} {w : GaugeWindow} (d : Nat) (h : w.count = 63) :
    st.countReading w d =
      ({ st with gaugeWindow := none, lastDg := some (roundDiv (w.sum + d) 64) }, some (roundDiv (w.sum + d) 64)) :=
  if_neg (by omega)

theorem Stand.gaugeStep_of_waiting {st : Stand} {w : GaugeWindow} (h : StandHand) (hw : st.gaugeWindow = some w)
    (hwaits : w.waits = true) :
    st.gaugeStep h = ({ st with gaugeWindow := some { w with waits := false } }, none) := by
  simp only [Stand.gaugeStep, hw, hwaits, if_true]

theorem Stand.gaugeStep_of_counting {st : Stand} {w : GaugeWindow} (h : StandHand) (hw : st.gaugeWindow = some w)
    (hwaits : w.waits = false) :
    st.gaugeStep h = match (h.arm w.arm).reading with
      | some d => st.countReading w d
      | none => (st, none) := by
  unfold Stand.gaugeStep
  simp only [hw, hwaits, Bool.false_eq_true, if_false] <;> rfl

/-! ### D_g meets the sequence controller (R86) -/

theorem Stand.gaugeFits_iff {st : Stand} {r : ReadyContext} (hr : st.ready = some r) (d : Nat) :
    st.gaugeFits d = true ↔ d ≤ r.record.mount + st.params.mismatchTol ∧ r.record.mount ≤ d + st.params.mismatchTol := by
  simp only [Stand.gaugeFits, hr, decide_eq_true_eq, absDiff_le_iff]

theorem Stand.enterReady_eq {st : Stand} {r : ReadyContext} (hr : st.ready = some r) (d : Nat) :
    st.enterReady d =
      { st with
        state := .ready
        ready := some { r with dNew := some d }
        sNew := some (surfaceSpeed (st.arm st.readyArm).rate d) } := by
  simp only [Stand.enterReady, Stand.measureReady, hr, Option.map_some]
  rfl

theorem State.gaugeDone_eq {s : State} {k : StandId} (h : (s.stand k).state = .checking) (d : Nat) :
    s.gaugeDone k d =
      s.setStand k (if (s.stand k).gaugeFits d then (s.stand k).enterReady d
        else (s.stand k).enterFault .reelMismatch s.cycle none) := by
  unfold State.gaugeDone
  rw [State.takeFault_of_checking h]
  split <;> rfl

theorem State.transitions_of_checking {s : State} {k : StandId} (h : (s.stand k).state = .checking) (hand : StandHand)
    (stale : Bool) (dg : Option Nat) (b : Bool) :
    s.transitions k hand stale dg b = match dg with | some d => s.gaugeDone k d | none => s := by
  unfold State.transitions
  dsimp only
  rw [h] <;> rfl

theorem State.gaugeDone_endEvent {s : State} {k : StandId} {d : Nat} (hs : GroupsAgree s) (hformed : s.formed = [])
    (h : (s.stand k).state = .checking) :
    ((s.gaugeDone k d).endEvent.stand k =
      if (s.stand k).gaugeFits d then (s.stand k).enterReady d
        else (s.stand k).enterFault .reelMismatch s.cycle none) ∧
    (s.gaugeDone k d).endEvent.log = s.log := by
  have hagrees := (hs.agreesBut k).gaugeDone (hs.inhibitAgrees k) h d
  have hlog := State.endEvent_log_of_formed_nil ((State.gaugeDone_formed d h).trans hformed)
  rw [State.gaugeDone_eq h] at hagrees hlog ⊢
  refine ⟨(State.endEvent_stand_of_not_requests hagrees ?_).trans (State.stand_setStand_same _ _ _), hlog⟩
  rw [State.stand_setStand_same]
  refine Stand.requests_eq_false ?_
  split <;> exact fun hmatched => by cases hmatched

/-! ### The row GAUGE_WINDOW_COMPLETE -/

/-- R57: the stand whose window has closed with D_g. -/
def Stand.gaugeClosed (st : Stand) (dg : Nat) : Stand := { st with gaugeWindow := none, lastDg := some dg }

theorem Stand.gaugeClosed_sameRole (st : Stand) (dg : Nat) : st.SameRole (st.gaugeClosed dg) :=
  ⟨⟨⟨rfl, rfl, rfl, rfl⟩, rfl⟩, rfl, rfl⟩

theorem State.gaugeComplete_of_short {s : State} {k : StandId} {reading : BitVec 14} {w : GaugeWindow}
    (hw : (s.stand k).gaugeWindow = some w) (h : w.waits = true ∨ w.count < 63) : s.gaugeComplete k reading = s := by
  unfold State.gaugeComplete
  rw [hw]
  dsimp only
  refine if_neg fun hall => ?_
  simp only [Bool.and_eq_true, Bool.not_eq_true', decide_eq_true_eq] at hall
  obtain ⟨⟨⟨-, hwaits⟩, -⟩, hcount⟩ := hall
  rcases h with h | h
  · rw [hwaits] at h; cases h
  · omega

theorem State.gaugeComplete_of_last {s : State} {k : StandId} {reading : BitVec 14} {w : GaugeWindow}
    (hreset : s.inReset = false) (hstate : (s.stand k).state = .checking) (hw : (s.stand k).gaugeWindow = some w)
    (hcount : w.count = 63) (hwaits : w.waits = false) (hreading : reading ≠ 0) :
    ∃ dg, IsRounded (w.sum + min reading.toNat 16000) 64 dg ∧
      s.gaugeComplete k reading =
        ((s.setStand k ((s.stand k).gaugeClosed dg)).gaugeDone k dg).endEvent := by
  refine ⟨_, roundDiv_isRounded _ _ (by decide), ?_⟩
  unfold State.gaugeComplete
  rw [hw]
  dsimp only
  have hservice : (s.stand k).inService = true := (Stand.inService_iff _).mpr (by rw [hstate]; decide)
  rw [hreset, hservice, hwaits, bne_iff_ne.mpr hreading, hcount]
  show s.completeGauge k w (boundDiameter reading.toNat) = _
  unfold State.completeGauge
  dsimp only
  rw [if_pos hstate, Stand.countReading_of_last _ hcount]
  rfl

/-- Settles O19, by the window's count and whether D_g fits. -/
theorem gaugeWindowDecidesReel : Obligations.GaugeWindowDecidesReel := by
  refine ⟨fun s k reading w r hreset hs hformed hstate hw hcount hr hspent hreading hwaits => ?_,
    fun s k reading w hw h => congrArg Host.Outcome.next (State.gaugeComplete_of_short hw h),
    fun s k h stale dg b hstate => ⟨fun hnone => ?_, fun d r hd hr hspent => ?_⟩,
    fun st h => ⟨fun hnone => ?_, fun w hw => ⟨Stand.gaugeStep_of_waiting h hw, fun hwaits hnone => ?_,
      fun d hwaits hd => ⟨fun hcount => ?_, fun hcount => ?_⟩⟩⟩⟩
  · obtain ⟨dg, hdg, hcomplete⟩ := State.gaugeComplete_of_last hreset hstate hw hcount hwaits hreading
    have hexec : exec (.gaugeWindowComplete k reading) s = .next _ := congrArg Host.Outcome.next hcomplete
    have hstate' : ((s.setStand k ((s.stand k).gaugeClosed dg)).stand k).state = .checking := by
      rw [State.stand_setStand_same]; exact hstate
    obtain ⟨hstand, hlog⟩ := State.gaugeDone_endEvent (d := dg)
      ((State.setStand_sameRoles ((s.stand k).gaugeClosed_sameRole dg)).groupsAgree hs) hformed hstate'
    rw [State.stand_setStand_same] at hstand
    refine ⟨_, dg, hexec, hdg, ?_⟩
    by_cases hfits : dg ≤ r.record.mount + (s.stand k).params.mismatchTol ∧
        r.record.mount ≤ dg + (s.stand k).params.mismatchTol
    · rw [if_pos ((Stand.gaugeFits_iff (show ((s.stand k).gaugeClosed dg).ready = some r from hr) dg).mpr hfits), Stand.enterReady_eq (show ((s.stand k).gaugeClosed dg).ready = some r from hr)] at hstand
      rw [hstand]
      exact ⟨rfl, rfl, (if_pos hfits).mpr ⟨rfl, rfl, rfl, rfl, rfl⟩, rfl, hlog⟩
    · rw [if_neg fun h => hfits ((Stand.gaugeFits_iff (show ((s.stand k).gaugeClosed dg).ready = some r from hr) dg).mp h),
        Stand.enterFault_of_checking (show ((s.stand k).gaugeClosed dg).state = .checking from hstate) (show ((s.stand k).gaugeClosed dg).ready = some r from hr) hspent] at hstand
      rw [hstand]
      exact ⟨rfl, rfl, (if_neg hfits).mpr ⟨rfl, rfl, rfl, rfl⟩, rfl, hlog⟩
  · subst hnone
    exact State.transitions_of_checking hstate h stale none b
  · subst hd
    dsimp only
    rw [State.transitions_of_checking hstate h stale (some d) b]
    dsimp only
    rw [State.gaugeDone_eq hstate, State.stand_setStand_same]
    refine ⟨rfl, fun hfits => ?_, fun hnot => ?_⟩
    · rw [if_pos ((Stand.gaugeFits_iff hr d).mpr hfits), Stand.enterReady_eq hr]
      exact ⟨_, roundDiv_isRounded _ _ (by decide), rfl⟩
    · rw [if_neg fun hfits => hnot ((Stand.gaugeFits_iff hr d).mp hfits), Stand.enterFault_of_checking hstate hr hspent]
      exact ⟨rfl, rfl, rfl, rfl, rfl, rfl, rfl, rfl, rfl⟩
  · simp only [Stand.gaugeStep, hnone]
  · rw [Stand.gaugeStep_of_counting h hw hwaits, hnone]
  · rw [Stand.gaugeStep_of_counting h hw hwaits, hd]
    simp only [Stand.countReading_of_open d hcount, hwaits]
  · rw [Stand.gaugeStep_of_counting h hw hwaits, hd]
    exact ⟨_, roundDiv_isRounded _ _ (by decide), Stand.countReading_of_last d hcount⟩

end Sys2Proof.Machine
end

section
/-! SUPPORT. Requests that act on one stand, taken and answered; reel records and reel queues: O20, O21, O22. -/
namespace Sys2Proof.Machine

/-! ### Answers -/

section
variable {s : State} {r : Request} {k : StandId}

theorem exec_queueReel_of_taken (p : Payload) (h : s.takesAt r k) :
    exec (.queueReel r p) s = .next (s.answer r 3 (queueReelAnswer p s k)) :=
  congrArg Host.Outcome.next (s.serve_of_taken r 3 _ k h)

theorem exec_withdrawReel_of_taken (p : Payload) (h : s.takesAt r k) :
    exec (.withdrawReel r p) s = .next (s.answer r 4 (withdrawAnswer p s k)) :=
  congrArg Host.Outcome.next (s.serve_of_taken r 4 _ k h)

theorem State.answer_of_refused {kind : BitVec 4} {code : ReplyCode} {a : Answer} (h : a = refuse s code) :
    s.answer r kind a = s.replied r kind code 0 := by rw [h, State.answer_refuse]

theorem State.answer_setStand {kind : BitVec 4} {st : Stand} {p : Payload} {a : Answer}
    (h : a = doneWith (s.setStand k st) p) : s.answer r kind a = (s.setStand k st).replied r kind .done p := by
  rw [h]
  exact State.answer_doneWith r kind p rfl rfl

end

/-! ### Reel records (O21) -/

theorem recordOk_iff (roll grade mount core width override caliper : Nat) :
    recordOk roll grade mount core width override caliper = true ↔
      1 ≤ roll ∧ grade ≤ 15 ∧ 3000 ≤ mount ∧ mount ≤ 16000 ∧ 700 ≤ core ∧ core ≤ 2500 ∧ core + 501 ≤ mount ∧
        200 ≤ width ∧ width ≤ 2200 ∧
        (override = 0 ∨ 1000 ≤ override ∧ override ≤ 4000 ∧ core < override) ∧
        (caliper = 0 ∨ 40 ≤ caliper ∧ caliper ≤ 150) := by
  simp only [recordOk, Bool.and_eq_true, Bool.or_eq_true, bne_iff_ne, beq_iff_eq, decide_eq_true_eq]
  omega

theorem orAbsent_eq_some_iff (n d : Nat) : orAbsent n = some d ↔ d = n ∧ d ≠ 0 := by
  unfold orAbsent
  split <;> simp <;> omega

theorem Payload.bytes_lt (p : Payload) (b n : Nat) : Payload.bytes p b n < 2 ^ (8 * n) := BitVec.isLt _

/-- Settles O21: the checks of a record are those of its fields, which it keeps. -/
theorem recordIsAcceptedInRange : Obligations.RecordIsAcceptedInRange := by
  intro p
  have hiff := recordOk_iff (Payload.bytes p 0 4) (Payload.bytes p 4 1) (Payload.bytes p 5 2) (Payload.bytes p 7 2)
    (Payload.bytes p 9 2) (Payload.bytes p 11 2) (Payload.bytes p 13 1)
  refine ⟨?_, fun rec hrec => ?_⟩
  · rw [← hiff]
    unfold recordOf
    dsimp only
    split
    case isTrue hok => simp [hok]
    case isFalse hnot => simp [hnot]
  · unfold recordOf at hrec
    dsimp only at hrec
    split at hrec
    case isTrue hok =>
      obtain ⟨-, hgrade, -⟩ := hiff.mp hok
      cases hrec
      refine ⟨?_, ?_, rfl, rfl, rfl, orAbsent_eq_some_iff _, orAbsent_eq_some_iff _⟩
      · exact (BitVec.toNat_ofNat _ _).trans (Nat.mod_eq_of_lt (Payload.bytes_lt p 0 4))
      · exact Nat.mod_eq_of_lt (Nat.lt_succ_of_le hgrade)
    case isFalse => cases hrec

/-! ### QUEUE-REEL (O20) -/

theorem State.holdsRoll_iff (s : State) (roll : Word) : s.holdsRoll roll = true ↔ ∃ j, roll ∈ (s.stand j).rolls := by
  simp [State.holdsRoll, mem_allStands]

theorem Stand.canBind_iff (st : Stand) :
    st.canBind = true ↔ st.state = .running ∧ st.braking = false ∧ st.mountPending = true ∧ st.queue ≠ [] := by
  simp [Stand.canBind, and_assoc]

theorem Stand.tryBind_of_not {st : Stand} (waits : Bool) (h : st.canBind = false) : st.tryBind waits = st := by
  unfold Stand.tryBind
  rw [if_neg (by simp [h])]

theorem Stand.tryBind_of_head {st : Stand} (waits : Bool) {q : ReelRecord} {rest : List ReelRecord}
    (hstate : st.state = .running) (hbraking : st.braking = false) (hmount : st.mountPending = true)
    (hqueue : st.queue = q :: rest) :
    st.tryBind waits =
      { st with
        queue := rest
        ready := some ⟨q, st.readyArm, none, none, false⟩
        sNew := none
        mountPending := false
        state := .checking
        gaugeWindow := some ⟨st.readyArm, 0, 0, waits⟩ } := by
  unfold Stand.tryBind
  rw [if_pos (st.canBind_iff.mpr ⟨hstate, hbraking, hmount, by rw [hqueue]; exact List.cons_ne_nil _ _⟩)]
  unfold Stand.bindHead
  rw [hqueue]

section
variable {s : State} {k : StandId} {p : Payload} {rec : ReelRecord}

theorem queueReelAnswer_of_badValue (h : recordOf p = none) : queueReelAnswer p s k = refuse s .badValue := by
  simp only [queueReelAnswer, h]

theorem queueReelAnswer_of_duplicate (h : recordOf p = some rec) (hheld : ∃ j, rec.roll ∈ (s.stand j).rolls) :
    queueReelAnswer p s k = refuse s .duplicate := by
  simp only [queueReelAnswer, h, (s.holdsRoll_iff rec.roll).mpr hheld, if_true]

theorem queueReelAnswer_of_free (h : recordOf p = some rec) (hfree : ∀ j, rec.roll ∉ (s.stand j).rolls) :
    queueReelAnswer p s k =
      if 6 ≤ (s.stand k).occupancy then refuse s .full
      else
        doneWith (s.setStand k ({ s.stand k with queue := (s.stand k).queue ++ [rec] }.tryBind s.stepPending))
          (queuePayload ({ s.stand k with queue := (s.stand k).queue ++ [rec] }.tryBind s.stepPending)
            { s.stand k with queue := (s.stand k).queue ++ [rec] }.canBind) := by
  have hnot : ¬ s.holdsRoll rec.roll = true := fun hheld => by
    obtain ⟨j, hj⟩ := (s.holdsRoll_iff rec.roll).mp hheld
    exact hfree j hj
  simp only [queueReelAnswer, h, if_neg hnot]

end

theorem queuePayload_append (st : Stand) (rec : ReelRecord) :
    queuePayload { st with queue := st.queue ++ [rec] } false =
      pack [(1, st.queue.length + 1), (1, st.occupancy + 1), (1, 0)] := by
  have hlen : (st.queue ++ [rec]).length = st.queue.length + 1 := List.length_append
  have hoccupancy : { st with queue := st.queue ++ [rec] }.occupancy = st.occupancy + 1 := by
    show (st.queue ++ [rec]).length + _ = _
    rw [hlen, Nat.add_right_comm]
    rfl
  unfold queuePayload
  rw [hoccupancy]
  dsimp only
  rw [hlen]
  rfl

/-- Settles O20, check by check, and by whether the stand can bind. -/
theorem queueReelAppendsOrRefuses : Obligations.QueueReelAppendsOrRefuses := by
  intro s r k p h
  have hexec := exec_queueReel_of_taken p h
  refine ⟨fun hbad => ?_, fun rec hrec => ⟨fun hheld => ?_, fun hfree hfull => ?_, fun hfree hroom hnot => ?_,
    fun q rest hfree hroom hstate hbraking hmount hqueue => ?_⟩⟩
  · rw [hexec, State.answer_of_refused (queueReelAnswer_of_badValue hbad)]
  · rw [hexec, State.answer_of_refused (queueReelAnswer_of_duplicate hrec hheld)]
  · rw [hexec, State.answer_of_refused ((queueReelAnswer_of_free hrec hfree).trans (if_pos hfull.ge))]
  · have hbind : { s.stand k with queue := (s.stand k).queue ++ [rec] }.canBind = false := by
      rw [Bool.eq_false_iff, Ne, Stand.canBind_iff]
      rintro ⟨hstate, hbraking, hmount, -⟩
      rcases hnot with hnot | hnot | hnot
      · exact hnot hstate
      · rw [hnot] at hbraking; cases hbraking
      · rw [hnot] at hmount; cases hmount
    have hanswer := (queueReelAnswer_of_free (k := k) hrec hfree).trans (if_neg (not_le.mpr hroom))
    rw [Stand.tryBind_of_not _ hbind, hbind] at hanswer
    rw [hexec, State.answer_setStand hanswer, queuePayload_append]
  · have hbind := Stand.tryBind_of_head (st := { s.stand k with queue := (s.stand k).queue ++ [rec] }) s.stepPending
      hstate hbraking hmount hqueue
    have hcan : { s.stand k with queue := (s.stand k).queue ++ [rec] }.canBind = true :=
      (Stand.canBind_iff _).mpr ⟨hstate, hbraking, hmount, by simp⟩
    have hanswer := (queueReelAnswer_of_free (k := k) hrec hfree).trans (if_neg (not_le.mpr hroom))
    rw [hbind, hcan] at hanswer
    rw [hexec, State.answer_setStand hanswer]
    rfl

/-! ### WITHDRAW-REEL (O22) -/

section
variable {s : State} {k : StandId} {p : Payload} {roll : Word}

theorem Payload.roll_eq (p : Payload) : BitVec.ofNat 32 (Payload.bytes p 0 4) = p.extractLsb' 0 32 :=
  BitVec.ofNat_toNat 32 _ |>.trans (BitVec.setWidth_eq _)

theorem withdrawAnswer_of_zero (h : p.extractLsb' 0 32 = 0) : withdrawAnswer p s k = refuse s .noSuch := by
  unfold withdrawAnswer
  dsimp only
  rw [Payload.roll_eq, if_pos h]

theorem withdrawAnswer_of_queued (hzero : p.extractLsb' 0 32 ≠ 0)
    (hqueued : ∃ q ∈ (s.stand k).queue, q.roll = p.extractLsb' 0 32) :
    withdrawAnswer p s k = done (s.setStand k
      { s.stand k with queue := (s.stand k).queue.eraseP (·.roll == p.extractLsb' 0 32) }) := by
  unfold withdrawAnswer
  dsimp only
  rw [Payload.roll_eq, if_neg hzero, if_pos (by simpa using hqueued)]

/-- A roll ID that no record of the queue carries is looked for in the contexts. -/
theorem withdrawAnswer_of_not_queued (hzero : p.extractLsb' 0 32 ≠ 0)
    (hqueue : ∀ q ∈ (s.stand k).queue, q.roll ≠ p.extractLsb' 0 32) :
    withdrawAnswer p s k =
      if (s.stand k).readyHas (p.extractLsb' 0 32) then
        if (s.stand k).state = .checking ∨ (s.stand k).state = .ready then
          done (s.setStand k ((s.stand k).dropReady s.stepPending))
        else refuse s .busy
      else if (s.stand k).runningHas (p.extractLsb' 0 32) then refuse s .busy
      else refuse s .noSuch := by
  unfold withdrawAnswer
  dsimp only
  rw [Payload.roll_eq, if_neg hzero, if_neg (by simpa using hqueue)]

theorem Stand.readyHas_of_some {st : Stand} {c : ReadyContext} (hc : st.ready = some c) (hroll : c.record.roll = roll) :
    st.readyHas roll = true := by
  simp [Stand.readyHas, hc, hroll]

theorem Stand.readyHas_of_none {st : Stand} (h : ∀ c, st.ready = some c → c.record.roll ≠ roll) :
    st.readyHas roll = false := by
  unfold Stand.readyHas
  split
  case h_1 c hc => exact beq_false_of_ne (h c hc)
  case h_2 => rfl

theorem Stand.runningHas_of_some {st : Stand} {c : RunningContext} (hc : st.running = some c) (hroll : c.roll = roll) :
    st.runningHas roll = true := by
  simp [Stand.runningHas, hc, hroll]

theorem Stand.runningHas_of_none {st : Stand} (h : ∀ c, st.running = some c → c.roll ≠ roll) :
    st.runningHas roll = false := by
  unfold Stand.runningHas
  split
  case h_1 c hc => exact beq_false_of_ne (h c hc)
  case h_2 => rfl

/-- R74: the ready context is dropped, and nothing is bound. -/
theorem Stand.dropReady_of_not_bound {st : Stand} (waits : Bool)
    (h : st.queue = [] ∨ st.braking = true ∨ st.mountPending = false ∧ st.level st.readyArm = false) :
    st.dropReady waits =
      { st with
        ready := none
        sNew := none
        gaugeWindow := none
        state := .running
        mountPending := st.mountPending || st.level st.readyArm } := by
  refine Stand.tryBind_of_not waits ?_
  rw [Bool.eq_false_iff, Ne, Stand.canBind_iff]
  rintro ⟨-, hbraking, hmount, hqueue⟩
  rcases h with h | h | ⟨hpending, hlevel⟩
  · exact hqueue h
  · exact Bool.false_ne_true (hbraking.symm.trans h)
  · rw [hpending, hlevel] at hmount
    cases hmount

/-- R74, R71: the ready context is dropped, and the head is bound in the same request. -/
theorem Stand.dropReady_of_head {st : Stand} (waits : Bool) {q : ReelRecord} {rest : List ReelRecord}
    (hqueue : st.queue = q :: rest) (hbraking : st.braking = false)
    (hmount : st.mountPending = true ∨ st.level st.readyArm = true) :
    st.dropReady waits =
      { st with
        queue := rest
        ready := some ⟨q, st.readyArm, none, none, false⟩
        sNew := none
        mountPending := false
        state := .checking
        gaugeWindow := some ⟨st.readyArm, 0, 0, waits⟩ } :=
  Stand.tryBind_of_head waits rfl hbraking (by simpa using hmount) hqueue

theorem exec_withdrawReel_of_done {r : Request} {st : Stand} (h : s.takesAt r k)
    (hanswer : withdrawAnswer p s k = done (s.setStand k st)) :
    exec (.withdrawReel r p) s = .next ((s.setStand k st).replied r 4 .done 0) := by
  rw [exec_withdrawReel_of_taken p h, State.answer_setStand (p := 0) hanswer]

theorem exec_withdrawReel_of_refused {r : Request} {code : ReplyCode} (h : s.takesAt r k)
    (hanswer : withdrawAnswer p s k = refuse s code) :
    exec (.withdrawReel r p) s = .next (s.replied r 4 code 0) := by
  rw [exec_withdrawReel_of_taken p h, State.answer_of_refused hanswer]

end

/-- Settles O22, by where the roll ID is found: nowhere, in the queue, in the ready or in the running context. -/
theorem withdrawReelRemovesRecord : Obligations.WithdrawReelRemovesRecord := by
  intro s r k p h
  refine ⟨fun hzero => ?_, fun hzero hqueued => ?_, fun hzero hqueue => ⟨fun c hc hroll => ⟨fun hstate =>
    ⟨fun hnot => ?_, fun q rest hhead hbraking hmount => ?_⟩, fun hchecking hready => ?_⟩,
    fun hready => ⟨fun c hc hroll => ?_, fun hrunning => ?_⟩⟩⟩
  · exact exec_withdrawReel_of_refused h (withdrawAnswer_of_zero hzero)
  · obtain ⟨q, hq, hroll⟩ := hqueued
    obtain ⟨q', before, after, hbefore, hq', hsplit, herase⟩ :=
      List.exists_of_eraseP (p := fun q : ReelRecord => q.roll == p.extractLsb' 0 32) hq (beq_iff_eq.mpr hroll)
    refine ⟨before, q', after, hsplit, beq_iff_eq.mp hq', fun b hb heq => hbefore b hb (beq_iff_eq.mpr heq), ?_⟩
    have hanswer := withdrawAnswer_of_queued (s := s) (k := k) hzero ⟨q, hq, hroll⟩
    rw [herase] at hanswer
    exact exec_withdrawReel_of_done h hanswer
  all_goals have hanswer := withdrawAnswer_of_not_queued (s := s) (k := k) hzero hqueue
  · rw [if_pos (Stand.readyHas_of_some hc hroll), if_pos hstate, Stand.dropReady_of_not_bound _ hnot] at hanswer
    exact exec_withdrawReel_of_done h hanswer
  · rw [if_pos (Stand.readyHas_of_some hc hroll), if_pos hstate,
      Stand.dropReady_of_head _ hhead hbraking hmount] at hanswer
    exact exec_withdrawReel_of_done h hanswer
  · rw [if_pos (Stand.readyHas_of_some hc hroll), if_neg (not_or.mpr ⟨hchecking, hready⟩)] at hanswer
    exact exec_withdrawReel_of_refused h hanswer
  · rw [if_neg (by rw [Stand.readyHas_of_none hready]; decide), if_pos (Stand.runningHas_of_some hc hroll)] at hanswer
    exact exec_withdrawReel_of_refused h hanswer
  · rw [if_neg (by rw [Stand.readyHas_of_none hready]; decide),
      if_neg (by rw [Stand.runningHas_of_none hrunning]; decide)] at hanswer
    exact exec_withdrawReel_of_refused h hanswer

end Sys2Proof.Machine
end

section
/-! SUPPORT. The modes of a stand's arms; taking a stand into service and out of it: O30, O23, O24. -/
namespace Sys2Proof.Machine

/-! ### Drive modes (O30) -/

section
variable {st : Stand}

theorem Stand.driveMode_of_offline (h : st.state = .offline) (x : Arm) : st.driveMode x = .idle := if_pos h

theorem Stand.driveMode_runningArm (h : st.state ≠ .offline) : st.driveMode st.runningArm = .tension := by
  unfold Stand.driveMode
  rw [if_neg h, if_pos rfl]

theorem Stand.driveMode_readyArm (h : st.state ≠ .offline) : st.driveMode st.readyArm = st.readyMode := by
  unfold Stand.driveMode Stand.readyArm
  rw [if_neg h, if_neg]
  cases st.runningArm <;> decide

/-- Every arm of a stand is its running or its ready arm. -/
theorem Stand.arm_cases (st : Stand) (x : Arm) : x = st.runningArm ∨ x = st.readyArm := by
  unfold Stand.readyArm
  cases x <;> cases st.runningArm <;> decide

theorem Stand.brakeOrIdle_eq (st : Stand) : st.brakeOrIdle = if st.braking = true then .brake else .idle := rfl

theorem Stand.brakeOrIdle_ne_speed (st : Stand) : st.brakeOrIdle ≠ .speed := by
  unfold Stand.brakeOrIdle
  split <;> decide

theorem Stand.readyMode_of_at_rest (h : st.state ∈ [.running, .checking, .ready, .settle]) :
    st.readyMode = st.brakeOrIdle := by
  simp only [List.mem_cons, List.not_mem_nil, or_false] at h
  unfold Stand.readyMode
  rcases h with h | h | h | h <;> rw [h]

theorem Stand.readyMode_of_speed (h : st.state ∈ [.accel, .matched, .firingPending, .firingIssued, .confirm]) :
    st.readyMode = .speed := by
  simp only [List.mem_cons, List.not_mem_nil, or_false] at h
  unfold Stand.readyMode
  rcases h with h | h | h | h | h <;> rw [h]

theorem Stand.readyMode_of_fault (h : st.state = .fault) :
    st.readyMode = match st.record with
      | some r => if r.stateAt.afterFire then .tension else st.brakeOrIdle
      | none => st.brakeOrIdle := by
  unfold Stand.readyMode
  rw [h] <;> rfl

theorem Stand.readyMode_ne_speed
    (h : st.state ∈ [.fault, .offline, .running, .checking, .ready, .settle]) : st.readyMode ≠ .speed := by
  simp only [List.mem_cons, List.not_mem_nil, or_false] at h
  rcases h with h | h | h
  · rw [Stand.readyMode_of_fault h]
    split
    · split
      · decide
      · exact st.brakeOrIdle_ne_speed
    · exact st.brakeOrIdle_ne_speed
  · rw [Stand.readyMode, h]
    exact fun hidle => by cases hidle
  · rw [Stand.readyMode_of_at_rest (by simpa using h)]
    exact st.brakeOrIdle_ne_speed

theorem StandState.afterFire_iff (x : StandState) : x.afterFire = true ↔ x = .firingIssued ∨ x = .confirm := by
  cases x <;> simp [StandState.afterFire]

end

/-- Settles O30: the running arm is in TENSION, so only the ready arm can be in SPEED, and its mode is that of the
state. -/
theorem atMostOneArmInSpeed : Obligations.AtMostOneArmInSpeed := by
  intro st
  refine ⟨fun ⟨ha, hb⟩ => ?_, fun hstate x => ?_, Stand.driveMode_runningArm, fun x h => if_neg h, fun hstate => ?_,
    fun hstate => ?_, fun f hstate hrecord => ?_, Stand.driveMode_of_offline⟩
  · by_cases hoffline : st.state = .offline
    · rw [Stand.driveMode_of_offline hoffline] at ha; cases ha
    · have htension := Stand.driveMode_runningArm hoffline
      cases hx : st.runningArm <;> rw [hx] at htension
      · rw [ha] at htension; cases htension
      · rw [hb] at htension; cases htension
  · by_cases hoffline : st.state = .offline
    · rw [Stand.driveMode_of_offline hoffline]; decide
    · rcases st.arm_cases x with rfl | rfl
      · rw [Stand.driveMode_runningArm hoffline]; decide
      · rw [Stand.driveMode_readyArm hoffline]
        exact Stand.readyMode_ne_speed hstate
  · have hoffline : st.state ≠ .offline := fun h => by rw [h] at hstate; revert hstate; decide
    have hspeed := (Stand.driveMode_readyArm hoffline).trans (Stand.readyMode_of_speed hstate)
    exact ⟨hspeed, if_pos hspeed⟩
  · have hoffline : st.state ≠ .offline := fun h => by rw [h] at hstate; revert hstate; decide
    exact (Stand.driveMode_readyArm hoffline).trans (Stand.readyMode_of_at_rest hstate)
  · rw [Stand.driveMode_readyArm (by rw [hstate]; decide), Stand.readyMode_of_fault hstate, hrecord]
    simp only [StandState.afterFire_iff]
    rfl

/-! ### STAND-OFFLINE (O24) -/

section
variable {s : State} {r : Request} {k : StandId}

theorem exec_standOffline_of_taken (h : s.takesAt r k) :
    exec (.standOffline r) s = .next (s.answer r 6 (standOfflineAnswer s k)) :=
  congrArg Host.Outcome.next (s.serve_of_taken r 6 _ k h)

theorem standOfflineAnswer_of_offline (h : (s.stand k).state = .offline) :
    standOfflineAnswer s k = refuse s .notOnline := if_pos h

theorem standOfflineAnswer_of_service (h : (s.stand k).state ≠ .offline) :
    standOfflineAnswer s k =
      if (s.stand k).state.mayLeave then done (s.setStand k (s.stand k).goOffline) else refuse s .busy := if_neg h

end

theorem StandState.mayLeave_iff (x : StandState) : x.mayLeave = true ↔ x ∈ [.running, .checking, .ready, .fault] := by
  cases x <;> simp [StandState.mayLeave]

theorem Stand.returnToHead_queue (st : Stand) :
    st.returnToHead.queue = match st.ready with
      | some c => if c.spent then st.queue else c.record :: st.queue
      | none => st.queue := by
  unfold Stand.returnToHead
  cases h : st.ready with
  | none => rfl
  | some c => cases hspent : c.spent <;> simp [hspent]

/-- Settles O24, by the state: what service held is as after reset, and the queue takes the returnable context. -/
theorem standOfflineEndsService : Obligations.StandOfflineEndsService := by
  intro s r k h
  have hexec := exec_standOffline_of_taken h
  refine ⟨fun hstate => ?_, fun hstate => ?_, fun hstate => ?_⟩
  · rw [hexec, State.answer_of_refused (standOfflineAnswer_of_offline hstate)]
  · have hanswer : standOfflineAnswer s k = refuse s .busy := by
      rw [standOfflineAnswer_of_service fun hoffline => by rw [hoffline] at hstate; revert hstate; decide]
      refine if_neg fun hleave => ?_
      revert hleave hstate
      cases (s.stand k).state <;> decide
    rw [hexec, State.answer_of_refused hanswer]
  · have hanswer := (standOfflineAnswer_of_service (s := s) (k := k) fun hoffline => by
      rw [hoffline] at hstate; revert hstate; decide).trans (if_pos ((StandState.mayLeave_iff _).mpr hstate))
    have hframe := (s.stand k).returnToHead_frame
    refine ⟨(s.stand k).goOffline, ?_, rfl, rfl, rfl, rfl, (s.stand k).returnToHead_queue, rfl, rfl, rfl, rfl, rfl, rfl,
      rfl, rfl, fun x => ?_, rfl, rfl, rfl, rfl, rfl, rfl, rfl, rfl, rfl, rfl, rfl, rfl, rfl, rfl,
      (congrArg Stand.params hframe :), (congrArg Stand.map hframe :), (congrArg Stand.pinAsserted hframe :),
      (congrArg Stand.pinSettled hframe :)⟩
    · rw [hexec, State.answer_setStand (p := 0) hanswer]
    · cases x <;> rfl

/-! ### STAND-ONLINE (O23) -/

/-- The maps of the stands that are, or come, online. -/
theorem flatMap_filter_eq {α β γ : Type} (f : α → β) (g : β → List γ) (P : α → Prop) [DecidablePred P] (l : List α) :
    (l.filter fun j => P j).flatMap (fun j => g (f j)) =
      (l.filterMap fun j => if P j then some (f j) else none).flatMap g := by
  induction l with
  | nil => rfl
  | cons j l ih => by_cases h : P j <;> simp [h, ih]

theorem SlotMap.complete_iff (m : SlotMap) :
    m.complete = true ↔ (∀ e ∈ m.returnEntries, e ≠ none) ∧ ∀ e ∈ m.outboundEntries, e ≠ none := by
  simp [SlotMap.complete, Option.isSome_iff_ne_none]

/-- R24: the map check, by its four conditions. -/
theorem State.mapsValid_iff (s : State) (k : StandId) :
    let maps := ([0, 1, 2, 3, 4, 5, 6, 7] : List StandId).filterMap fun j =>
      if j = k ∨ (s.stand j).state ≠ .offline then some (s.stand j).map else none
    s.mapsValid k = true ↔
      (∀ e ∈ (s.stand k).map.returnEntries, e ≠ none) ∧ (∀ e ∈ (s.stand k).map.outboundEntries, e ≠ none) ∧
        s.lineMap ≠ none ∧
        (s.lineMap.toList.map (·.slot) ++ s.imageMap.toList.flatMap (fun e => [e.1, e.2]) ++
          maps.flatMap fun m => m.returnEntries.flatMap fun e => e.toList.map (·.slot)).Nodup ∧
        (maps.flatMap fun m => m.outboundEntries.flatMap Option.toList).Nodup := by
  intro maps
  have hmaps : maps = allStands.filterMap fun j =>
      if j = k ∨ (s.stand j).inService = true then some (s.stand j).map else none := by
    simp only [Stand.inService_iff]
    rfl
  have hreturn : s.returnSlots k = s.lineMap.toList.map (·.slot) ++ s.imageMap.toList.flatMap (fun e => [e.1, e.2]) ++
      maps.flatMap fun m => m.returnEntries.flatMap fun e => e.toList.map (·.slot) := by
    rw [hmaps, ← flatMap_filter_eq]
    unfold State.returnSlots
    cases s.imageMap <;> rfl
  have houtbound : s.outboundSlots k = maps.flatMap fun m => m.outboundEntries.flatMap Option.toList := by
    rw [hmaps, ← flatMap_filter_eq]
    rfl
  simp only [State.mapsValid, Bool.and_eq_true, SlotMap.complete_iff, decide_eq_true_eq, hreturn, houtbound,
    Option.isSome_iff_ne_none, and_assoc]

section
variable {s : State} {r : Request} {k : StandId} {sel : BitVec 16} {p : Payload}

theorem exec_standOnline_of_taken (h : s.takesAt r k) :
    exec (.standOnline r sel p) s = .next (s.answer r 5 (standOnlineAnswer sel p s k)) :=
  congrArg Host.Outcome.next (s.serve_of_taken r 5 _ k h)

theorem standOnlineAnswer_of_service (h : (s.stand k).state ≠ .offline) :
    standOnlineAnswer sel p s k = refuse s .busy := if_pos ((Stand.inService_iff _).mpr h)

theorem standOnlineAnswer_of_mapInvalid (h : (s.stand k).state = .offline) (hmaps : ¬ s.mapsValid k = true) :
    standOnlineAnswer sel p s k = refuse s .mapInvalid := by
  have hservice : (s.stand k).inService = false := Bool.eq_false_iff.mpr fun ht => (Stand.inService_iff _).mp ht h
  simp [standOnlineAnswer, hservice, hmaps]

/-- Past the first two checks, a STAND-ONLINE is decided by its three fields. -/
theorem standOnlineAnswer_of_valid (h : (s.stand k).state = .offline) (hmaps : s.mapsValid k = true) :
    standOnlineAnswer sel p s k =
      match armField sel 0 0 1, conditionField sel, onlineRecord sel p with
      | some x, some mounted, some rec =>
        if s.rollFree rec then done (s.setStand k ((s.stand k).goOnline x mounted rec s.grades))
        else refuse s .duplicate
      | _, _, _ => refuse s .badValue := by
  have hservice : (s.stand k).inService = false := Bool.eq_false_iff.mpr fun ht => (Stand.inService_iff _).mp ht h
  simp only [standOnlineAnswer, hservice, hmaps, Bool.false_eq_true, Bool.not_true, if_false] <;> rfl

theorem armField_of_large (h : 2 ≤ (sel.extractLsb' 0 2).toNat) : armField sel 0 0 1 = none := by
  unfold armField
  dsimp only
  rw [if_neg (by omega), if_neg (by omega)]

theorem armField_of_small (h : (sel.extractLsb' 0 2).toNat ≤ 1) :
    armField sel 0 0 1 = some (if (sel.extractLsb' 0 2).toNat = 0 then .a else .b) := by
  unfold armField
  dsimp only
  split
  · rfl
  · rw [if_pos (by omega)]

theorem conditionField_of_large (h : 2 ≤ (sel.extractLsb' 2 2).toNat) : conditionField sel = none := by
  unfold conditionField
  split
  · omega
  · omega
  · rfl

theorem conditionField_of_small (h : (sel.extractLsb' 2 2).toNat ≤ 1) :
    conditionField sel = some (decide ((sel.extractLsb' 2 2).toNat = 1)) := by
  unfold conditionField
  split
  case h_1 h0 => rw [h0]; rfl
  case h_2 h1 => rw [h1]; rfl
  case h_3 h0 h1 => interval_cases (sel.extractLsb' 2 2).toNat <;> simp_all

theorem onlineRecord_of_record (hbit : sel.getLsbD 4 = true) : onlineRecord sel p = (recordOf p).map some := by
  unfold onlineRecord
  rw [hbit]
  rfl

theorem onlineRecord_of_anonymous (hbit : sel.getLsbD 4 = false) : onlineRecord sel p = some none := by
  unfold onlineRecord
  rw [hbit]
  rfl

end

/-- R68, R69: what a STAND-ONLINE declares concerns the ready arm. -/
theorem Stand.goOnline_arms (st : Stand) (x : Arm) (mounted : Bool) (rec : Option ReelRecord)
    (grades : Vector Grade 16) :
    let t := st.goOnline x mounted rec grades
    t.arm t.readyArm = onlineArm true mounted ∧ t.arm t.runningArm = onlineArm false mounted := by
  cases x <;> exact ⟨rfl, rfl⟩

/-- R66, R83: the context of an accepted STAND-ONLINE is that of its record, whose roll ID is free, or anonymous. -/
theorem onlineRecord_accepted {s : State} {sel : BitVec 16} {p : Payload}
    (h : sel.getLsbD 4 = true → ∃ rec, recordOf p = some rec ∧ ∀ j, rec.roll ∉ (s.stand j).rolls) :
    ∃ q, onlineRecord sel p = some q ∧ s.rollFree q = true ∧
      (sel.getLsbD 4 = true → recordOf p = q) ∧ (sel.getLsbD 4 = false → q = none) := by
  cases hbit : sel.getLsbD 4 with
  | false => exact ⟨none, onlineRecord_of_anonymous hbit, rfl, fun h => (by cases h), fun _ => rfl⟩
  | true =>
    obtain ⟨rec, hrec, hfree⟩ := h hbit
    refine ⟨some rec, ?_, ?_, fun _ => hrec, fun h => (by cases h)⟩
    · rw [onlineRecord_of_record hbit, hrec]; rfl
    · show (!s.holdsRoll rec.roll) = true
      rw [Bool.not_eq_true', Bool.eq_false_iff]
      intro hheld
      obtain ⟨j, hj⟩ := (s.holdsRoll_iff rec.roll).mp hheld
      exact hfree j hj

/-- Settles O23, check by check; the stand an accepted request makes is written down field by field. -/
theorem standOnlineChecksInOrder : Obligations.StandOnlineChecksInOrder := by
  intro s r k sel p h
  have hexec := exec_standOnline_of_taken (sel := sel) (p := p) h
  refine ⟨fun hstate => ?_, fun hstate hnot => ?_, fun hstate hvalid hbad => ?_, fun hstate hvalid harm hcond =>
    ⟨fun rec j hbit hrec hheld => ?_, fun hfree => ?_⟩⟩
  · rw [hexec, State.answer_of_refused (standOnlineAnswer_of_service hstate)]
  · rw [hexec, State.answer_of_refused (standOnlineAnswer_of_mapInvalid hstate
      fun hmaps => hnot ((s.mapsValid_iff k).mp hmaps))]
  all_goals have hanswer := standOnlineAnswer_of_valid (sel := sel) (p := p) hstate ((s.mapsValid_iff k).mpr hvalid)
  · have hrefused : standOnlineAnswer sel p s k = refuse s .badValue := by
      rw [hanswer]
      rcases hbad with hbad | hbad | ⟨hbit, hnone⟩
      · rw [armField_of_large hbad]
      · rw [conditionField_of_large hbad]
        cases armField sel 0 0 1 <;> rfl
      · rw [onlineRecord_of_record hbit, hnone]
        cases armField sel 0 0 1 <;> cases conditionField sel <;> rfl
    rw [hexec, State.answer_of_refused hrefused]
  · rw [armField_of_small harm, conditionField_of_small hcond, onlineRecord_of_record hbit, hrec] at hanswer
    have hroll : s.rollFree (some rec) = false := by
      show (!s.holdsRoll rec.roll) = false
      rw [(s.holdsRoll_iff rec.roll).mpr ⟨j, hheld⟩]
      rfl
    rw [hexec, State.answer_of_refused (hanswer.trans (if_neg (by rw [hroll]; decide)))]
  · obtain ⟨q, hq, hroll, hrecord, hanonymous⟩ := onlineRecord_accepted (s := s) (sel := sel) (p := p) hfree
    rw [armField_of_small harm, conditionField_of_small hcond, hq] at hanswer
    have hdone := hanswer.trans (if_pos hroll)
    generalize hx : (if (sel.extractLsb' 0 2).toNat = 0 then Arm.a else Arm.b) = x at hdone
    obtain ⟨hready, hrunning⟩ :=
      (s.stand k).goOnline_arms x (decide ((sel.extractLsb' 2 2).toNat = 1)) q s.grades
    refine ⟨(s.stand k).goOnline x (decide ((sel.extractLsb' 2 2).toNat = 1)) q s.grades, ?_, rfl, rfl, ?_, ?_, ?_, ?_,
      fun y => ?_, rfl, rfl, rfl, rfl, rfl, rfl, rfl, rfl, rfl, rfl, rfl, rfl, rfl, rfl, rfl, rfl, rfl, rfl, rfl, rfl,
      rfl, rfl, rfl, rfl, fun hbit rec hrec => ?_, fun hbit => ?_, rfl, rfl, rfl, rfl, rfl⟩
    · rw [hexec, State.answer_setStand (p := 0) hdone]
    · rw [hready]
      exact Bool.true_and _
    · rw [hrunning]
      rfl
    · rw [hready]
      show (true && !decide ((sel.extractLsb' 2 2).toNat = 1)) = _
      rw [Bool.true_and, ← decide_not]
      exact decide_eq_decide.mpr (by omega)
    · rw [hrunning]
      rfl
    · cases y <;> exact ⟨rfl, rfl, rfl⟩
    · rw [← (hrecord hbit).symm.trans hrec |>.symm]
      rfl
    · rw [hanonymous hbit]
      rfl

end Sys2Proof.Machine
end

section
/-! SUPPORT. Inhibit by request and by pin, and SPLICE-NOW (R97 to R102): O25, O26, O27, O29. -/
namespace Sys2Proof.Machine

/-! ### The decisions at the end of a request or a pin event -/

section
variable {before s t : State} {k : StandId}

theorem State.decideChanged_grantsAny (before s : State) : s.GrantsIn (fun _ => True) (State.decideChanged before s) :=
  State.decideChanged_grantsIn fun _ h => absurd trivial h

/-- R133: the decisions leave a stand that requests nothing as it is. -/
theorem State.decideChanged_stand_of_not_requests (hs : GroupsAgree s) (h : (s.stand k).requests = false) :
    (State.decideChanged before s).stand k = s.stand k := by
  rcases (State.decideChanged_grantsAny before s).stand k with heq | ⟨hgrant, -⟩
  · exact heq
  · rw [(hgrant hs).1] at h; cases h

theorem State.decideChanged_sameButGrant (before s : State) (k : StandId) :
    (s.stand k).SameButGrant ((State.decideChanged before s).stand k) := by
  rcases (State.decideChanged_grantsAny before s).stand k with heq | ⟨-, g, heq⟩ <;> rw [heq]
  · exact .refl _
  · exact rfl

/-- R128, R129: a stand out of ACCEL to CONFIRM neither requests nor holds a group. -/
theorem GroupsAgree.not_in_group (h : GroupsAgree s) (hstate : (s.stand k).state.holdsGrant = false)
    (hmatched : (s.stand k).state ≠ .matched) (g : GroupId) : (s.group g).grant ≠ .held k ∧ (s.group g).has k = false := by
  obtain ⟨-, -, hholders, hexact⟩ := h
  refine ⟨fun hheld => ?_, Bool.eq_false_iff.mpr fun hhas => ?_⟩
  · rw [(hholders g k hheld).1] at hstate; cases hstate
  · have hrequests := ((hexact g k).mp hhas).2
    rw [Stand.requests_eq_false hmatched] at hrequests; cases hrequests

theorem exec_groupsAgree {i : Instr} (h : exec i s = .next t) (hs : GroupsAgree s) : GroupsAgree t := by
  obtain ⟨u, hu, hkeeps⟩ := exec_keepsAgreement i s
  cases hu.symm.trans h
  exact (hkeeps hs).1

theorem State.answer_stand (s : State) (r : Request) (kind : BitVec 4) (a : Answer) (k : StandId) :
    (s.answer r kind a).stand k = (State.decideChanged s a.state).stand k := rfl

theorem State.answer_heldReply (s : State) (r : Request) (kind : BitVec 4) (a : Answer) :
    (s.answer r kind a).heldReply = some ⟨s.nodeAddr, kind, r.stand, a.code, a.payload⟩ := rfl

end

/-! ### Becoming inhibited (R98, R99) -/

section
variable {s : State} {k : StandId} {st : Stand}

theorem State.becomeInhibited_stand (h : (s.stand k).state.watched = true) :
    (s.becomeInhibited k).stand k = (s.stand k).returnReady := by
  rw [State.becomeInhibited_of_watched h, State.stand_modStand, if_pos rfl, State.leaveGroup_stand]

theorem Stand.returnReady_inhibits (st : Stand) :
    st.returnReady.requestInhibit = st.requestInhibit ∧ st.returnReady.pinAsserted = st.pinAsserted := by
  rcases st.returnReady_cases with ⟨-, h⟩ | ⟨-, h⟩ <;> rw [h]
  · exact ⟨rfl, rfl⟩
  · have hframe := Stand.returnToHead_frame
      { st with braking := true, accelTimer := none, sched := st.sched.stopped, state := .ready }
    exact ⟨(congrArg Stand.requestInhibit hframe :), (congrArg Stand.pinAsserted hframe :)⟩

/-- R98: a stand outside ACCEL, MATCHED and FIRING-pending, or inhibited already, takes an inhibit without effect. -/
theorem State.inhibit_of_no_unwind (hstate : st.state = (s.stand k).state)
    (h : (s.stand k).state ∉ [.accel, .matched, .firingPending] ∨ (s.stand k).inhibited = true) :
    (if (s.stand k).inhibited then s.setStand k st else (s.setStand k st).becomeInhibited k) = s.setStand k st := by
  split
  · rfl
  case isFalse hnot =>
    refine State.becomeInhibited_of_not_watched ?_
    rw [State.stand_setStand_same, hstate, Bool.eq_false_iff, Ne, StandState.watched_eq_true_iff]
    exact h.resolve_right hnot

end

/-! ### Inhibit pins (O27) -/

section
variable {s : State} {k : StandId}

theorem State.pinAssertion_of_edge (hreset : s.inReset = false) (hsettled : (s.stand k).pinSettled = true)
    (hasserted : (s.stand k).pinAsserted = false) : s.pinAssertion k = s.pinAssert k := by
  simp [State.pinAssertion, hreset, hsettled, hasserted]

theorem State.pinAssertion_of_no_edge (h : (s.stand k).pinSettled = false ∨ (s.stand k).pinAsserted = true) :
    s.pinAssertion k = s := by
  unfold State.pinAssertion
  rcases h with h | h <;> simp [h]

theorem Stand.inhibited_of_request {st : Stand} (h : st.requestInhibit = true) : st.inhibited = true := by
  simp [Stand.inhibited, h]

theorem Stand.settlePin_eq (st : Stand) (steady high : Bool) :
    st.settlePin steady high =
      if steady = true ∧ st.pinSettled = false then { st with pinAsserted := !high, pinSettled := true } else st := by
  unfold Stand.settlePin
  simp only [Bool.and_eq_true, Bool.not_eq_true']

end

/-- Settles O27: an edge sets the level alone where nothing unwinds, and each filter settles by itself. -/
theorem pinAssertionSetsLevel : Obligations.PinAssertionSetsLevel := by
  intro s hreset
  refine ⟨fun k => ⟨fun hsettled hasserted h => ?_, fun h =>
    congrArg Host.Outcome.next (State.pinAssertion_of_no_edge h)⟩, fun steady high => ?_⟩
  · refine congrArg Host.Outcome.next ((State.pinAssertion_of_edge hreset hsettled hasserted).trans ?_)
    have hquiet := State.inhibit_of_no_unwind (st := { s.stand k with pinAsserted := true }) rfl
      (h.imp_right Stand.inhibited_of_request)
    unfold State.pinAssert
    dsimp only [State.modStand_eq]
    rw [hquiet]
    exact State.decideChanged_of_same s _ fun g => rfl
  · have hsettle : s.settlePins steady high = allStands.foldl
        (fun t k => t.modStand k fun st => st.settlePin (steady.getLsbD k.val) (high.getLsbD k.val)) s :=
      if_neg (by rw [hreset]; decide)
    refine ⟨_, rfl, fun k => ?_, ?_⟩ <;> rw [hsettle]
    · rw [State.stand_foldl_allStands (fun k st => st.settlePin (steady.getLsbD k.val) (high.getLsbD k.val)),
        Stand.settlePin_eq]
    · exact State.foldl_modStand_frame (fun k st => st.settlePin (steady.getLsbD k.val) (high.getLsbD k.val)) _ s

/-! ### INHIBIT and RELEASE (O25) -/

section
variable {s : State} {r : Request} {k : StandId}

theorem exec_inhibit_of_taken (h : s.takesAt r k) : exec (.inhibit r) s = .next (s.answer r 7 (inhibitAnswer s k)) :=
  congrArg Host.Outcome.next (s.serve_of_taken r 7 _ k h)

theorem exec_release_of_taken (h : s.takesAt r k) : exec (.release r) s = .next (s.answer r 8 (releaseAnswer s k)) :=
  congrArg Host.Outcome.next (s.serve_of_taken r 8 _ k h)

theorem exec_spliceNow_of_taken (h : s.takesAt r k) :
    exec (.spliceNow r) s = .next (s.answer r 9 (spliceNowAnswer s k)) :=
  congrArg Host.Outcome.next (s.serve_of_taken r 9 _ k h)

theorem inhibitAnswer_of_offline (h : (s.stand k).state = .offline) : inhibitAnswer s k = refuse s .notOnline :=
  if_neg fun hservice => (Stand.inService_iff _).mp hservice h

theorem releaseAnswer_of_offline (h : (s.stand k).state = .offline) : releaseAnswer s k = refuse s .notOnline :=
  if_neg fun hservice => (Stand.inService_iff _).mp hservice h

theorem inhibitAnswer_of_service (h : (s.stand k).state ≠ .offline) :
    inhibitAnswer s k = done (if (s.stand k).inhibited then s.setStand k { s.stand k with requestInhibit := true }
      else (s.setStand k { s.stand k with requestInhibit := true }).becomeInhibited k) :=
  if_pos ((Stand.inService_iff _).mpr h)

theorem releaseAnswer_of_service (h : (s.stand k).state ≠ .offline) :
    releaseAnswer s k = done ((s.setStand k { s.stand k with requestInhibit := false }).refreshRequest k) :=
  if_pos ((Stand.inService_iff _).mpr h)

end

/-! ### Requests that are recorded already (R92, R129) -/

theorem Group.eq_of_has {v w : Group} (hgrant : v.grant = w.grant) (hstagger : v.stagger = w.stagger)
    (h : ∀ k, v.has k = w.has k) : v = w := by
  have hrequesters : v.requesters = w.requesters := BitVec.eq_of_getLsbD_eq fun i hi => h ⟨i, hi⟩
  cases v; cases w
  cases hgrant; cases hstagger; cases hrequesters
  rfl

theorem Group.add_of_has {v : Group} {k : StandId} (h : v.has k = true) : v.add k = v :=
  Group.eq_of_has rfl rfl fun j => by
    rw [Group.has_add]
    by_cases hj : j = k
    · simp [hj, h]
    · simp [hj]

theorem Group.remove_of_not_has {v : Group} {k : StandId} (h : v.has k = false) : v.remove k = v :=
  Group.eq_of_has rfl rfl fun j => by
    rw [Group.has_remove]
    by_cases hj : j = k
    · simp [hj, h]
    · simp [hj]

section
variable {s : State} {k : StandId}

/-- A stand whose request is recorded as it stands is refreshed without a change of its group. -/
theorem State.refreshRequest_of_recorded (h : (s.group (s.groupOf k)).has k = (s.stand k).requests) (g : GroupId) :
    (s.refreshRequest k).group g = s.group g := by
  by_cases hmatched : (s.stand k).state = .matched
  · cases hreq : (s.stand k).requests with
    | true =>
      rw [s.refreshRequest_of_requests k hmatched hreq, Group.add_of_has (h.trans hreq), State.group_setGroup]
      split
      case isTrue hg => rw [hg]
      case isFalse => rfl
    | false =>
      rw [s.refreshRequest_of_not_requests k hmatched hreq, Group.remove_of_not_has (h.trans hreq), State.setGroup_group]
  · rw [s.refreshRequest_of_not_matched k hmatched]

theorem State.refreshRequest_state (s : State) (k : StandId) :
    ((s.refreshRequest k).stand k).state = (s.stand k).state := by
  by_cases hmatched : (s.stand k).state = .matched
  · cases hreq : (s.stand k).requests with
    | true =>
      rw [s.refreshRequest_of_requests k hmatched hreq, State.setGroup_stand, State.stand_setStand_same]
    | false => rw [s.refreshRequest_of_not_requests k hmatched hreq, State.setGroup_stand]
  · rw [s.refreshRequest_of_not_matched k hmatched]

theorem Stand.requests_of_matched {st : Stand} (hmatched : st.state = .matched) (hfree : st.inhibited = false) :
    st.requests = st.due := by
  simp [Stand.requests, hmatched, hfree]

theorem GroupsAgree.has_iff_due (hs : GroupsAgree s) (hmatched : (s.stand k).state = .matched) :
    (s.group (s.groupOf k)).has k = (s.stand k).due := by
  obtain ⟨-, hfree⟩ := hs.inhibitAgrees k
  obtain ⟨-, -, -, hexact⟩ := hs
  rw [← Stand.requests_of_matched hmatched (hfree (by rw [hmatched]; rfl)), Bool.eq_iff_iff, hexact]
  exact and_iff_right rfl

end

/-- Settles O25: the flag is set or cleared, and only a stand that unwinds or may request changes otherwise. -/
theorem inhibitAndReleaseSetTheFlag : Obligations.InhibitAndReleaseSetTheFlag := by
  intro s r k h
  refine ⟨fun hoffline => ⟨?_, ?_⟩, fun hservice hquiet => ?_, fun hwatched hfree => ?_, fun hservice hmatched => ?_,
    fun hmatched => ?_⟩
  · rw [exec_inhibit_of_taken h, State.answer_of_refused (inhibitAnswer_of_offline hoffline)]
  · rw [exec_release_of_taken h, State.answer_of_refused (releaseAnswer_of_offline hoffline)]
  · have hanswer := inhibitAnswer_of_service hservice
    rw [State.inhibit_of_no_unwind (st := { s.stand k with requestInhibit := true }) rfl hquiet] at hanswer
    rw [exec_inhibit_of_taken h, State.answer_setStand (p := 0) hanswer]
  · have hwatched' := (StandState.watched_eq_true_iff _).mpr hwatched
    have hanswer := inhibitAnswer_of_service (StandState.service_of_watched hwatched').1
    rw [if_neg (by rw [hfree]; decide)] at hanswer
    refine ⟨_, exec_inhibit_of_taken h, ?_, ?_⟩
    · rw [hanswer, State.answer_stand, State.decideChanged_sameButGrant _ _ k]
      show (State.stand (State.becomeInhibited _ k) k).requestInhibit = true
      rw [State.becomeInhibited_stand (by rw [State.stand_setStand_same]; exact hwatched'),
        (Stand.returnReady_inhibits _).1, State.stand_setStand_same]
    · rw [State.answer_heldReply, hanswer]
      rfl
  · have hanswer := releaseAnswer_of_service hservice
    rw [State.refreshRequest_of_not_matched _ _ (by rw [State.stand_setStand_same]; exact hmatched)] at hanswer
    rw [exec_release_of_taken h, State.answer_setStand (p := 0) hanswer]
  · have hanswer := releaseAnswer_of_service (s := s) (k := k) (by rw [hmatched]; decide)
    refine ⟨_, exec_release_of_taken h, ?_, ?_, fun hs => ?_⟩
    · rw [hanswer, State.answer_stand, State.decideChanged_sameButGrant _ _ k]
      show (State.stand (State.refreshRequest _ k) k).requestInhibit = false
      rw [State.refreshRequest_sameButGrant _ k, State.stand_setStand_same]
    · rw [State.answer_heldReply, hanswer]
      rfl
    · obtain ⟨-, hinhibit⟩ := hs.inhibitAgrees k
      have hfree := hinhibit (by rw [hmatched]; rfl)
      have hdue := hs.has_iff_due hmatched
      have hrecorded : ((s.setStand k { s.stand k with requestInhibit := false }).group
          ((s.setStand k { s.stand k with requestInhibit := false }).groupOf k)).has k =
          ((s.setStand k { s.stand k with requestInhibit := false }).stand k).requests := by
        unfold State.groupOf
        rw [State.stand_setStand_same]
        refine hdue.trans (Eq.symm (Stand.requests_of_matched hmatched ?_))
        simp only [Stand.inhibited, Bool.or_eq_false_iff] at hfree ⊢
        exact ⟨hfree.1, trivial⟩
      have hgroups := State.refreshRequest_of_recorded hrecorded
      have hsame := State.decideChanged_of_same s _ fun g => (hgroups g).symm
      have hstate := State.refreshRequest_state (s.setStand k { s.stand k with requestInhibit := false }) k
      rw [State.stand_setStand_same] at hstate
      rw [hanswer]
      refine ⟨?_, ?_⟩
      · rw [State.answer_stand]
        exact (congrArg (fun u => (State.stand u k).state) hsame).trans (hstate.trans hmatched)
      · have hgroup := (congrArg (fun u => State.group u (s.groupOf k)) hsame).trans (hgroups (s.groupOf k))
        rw [← hdue]
        exact iff_of_eq (congrArg (fun v => Group.has v k = true) hgroup)

/-! ### SPLICE-NOW (O29) -/

theorem Stand.due_of_forced {st : Stand} (h : st.forced = true) : st.due = true := by
  simp [Stand.due, h]

theorem spliceNowAnswer_eq (s : State) (k : StandId) :
    spliceNowAnswer s k = match (s.stand k).state with
      | .offline => refuse s .notOnline
      | .running => refuse s .noReady
      | .checking => refuse s .noReady
      | .ready => done (s.setStand k { s.stand k with forced := true })
      | .accel => done (s.setStand k { s.stand k with forced := true })
      | .matched => done ((s.setStand k { s.stand k with forced := true }).refreshRequest k)
      | _ => refuse s .busy := rfl

/-- Settles O29, state by state; in MATCHED the stand is due after the request, so it requests or holds its group. -/
theorem spliceNowForcesReadyReel : Obligations.SpliceNowForcesReadyReel := by
  intro s r k h
  have hexec := exec_spliceNow_of_taken h
  have hanswer := spliceNowAnswer_eq s k
  refine ⟨fun hstate => ?_, fun hstate => ?_, fun hstate => ?_, fun hstate hs => ?_, fun hstate => ?_⟩
  · rw [hstate] at hanswer
    rw [hexec, State.answer_of_refused hanswer]
  · have hrefused : spliceNowAnswer s k = refuse s .noReady := by
      simp only [List.mem_cons, List.not_mem_nil, or_false] at hstate
      rcases hstate with hstate | hstate <;> rw [hanswer, hstate]
    rw [hexec, State.answer_of_refused hrefused]
  · have hdone : spliceNowAnswer s k = done (s.setStand k { s.stand k with forced := true }) := by
      simp only [List.mem_cons, List.not_mem_nil, or_false] at hstate
      rcases hstate with hstate | hstate <;> rw [hanswer, hstate]
    rw [hexec, State.answer_setStand (p := 0) hdone]
  · rw [hstate] at hanswer
    dsimp only at hanswer
    have ht := exec_groupsAgree hexec hs
    refine ⟨_, hexec, by rw [State.answer_heldReply, hanswer]; rfl, ?_⟩
    have hsame : ((s.setStand k { s.stand k with forced := true }).stand k).SameButGrant
        ((s.answer r 9 (spliceNowAnswer s k)).stand k) := by
      rw [hanswer]
      exact (State.refreshRequest_sameButGrant _ k).trans (State.decideChanged_sameButGrant s _ k)
    have hstates : ((s.answer r 9 (spliceNowAnswer s k)).stand k).state = .matched ∨
        ((s.answer r 9 (spliceNowAnswer s k)).stand k).state = .firingPending := by
      rw [hanswer, State.answer_stand]
      rcases (State.decideChanged_grantsAny s _).stand k with heq | ⟨-, g, heq⟩ <;> rw [heq]
      · refine .inl ((State.refreshRequest_state _ k).trans ?_)
        rw [State.stand_setStand_same]
        exact hstate
      · exact .inr rfl
    generalize s.answer r 9 (spliceNowAnswer s k) = t at ht hsame hstates ⊢
    rw [State.stand_setStand_same] at hsame
    have hforced : (t.stand k).forced = true := by rw [hsame]
    have hgroup : t.groupOf k = s.groupOf k := by unfold State.groupOf; rw [hsame]
    refine ⟨hforced, ?_⟩
    rw [← hgroup]
    rcases hstates with hmatched | hpending
    · exact .inl ((ht.has_iff_due hmatched).trans (Stand.due_of_forced hforced))
    · obtain ⟨-, hheld, -, -⟩ := ht
      exact .inr (hheld k (by rw [hpending]; rfl))
  · have hrefused : spliceNowAnswer s k = refuse s .busy := by
      simp only [List.mem_cons, List.not_mem_nil, or_false] at hstate
      rcases hstate with hstate | hstate | hstate | hstate | hstate <;> rw [hanswer, hstate]
    rw [hexec, State.answer_of_refused hrefused]

/-! ### The return to READY by inhibit (O26) -/

section
variable {s t : State} {k : StandId} {st : Stand} {c : ReadyContext}

/-- R99: the stand after the return, its ready context returnable: gauged in READY, or its record at the head. -/
theorem Stand.returnReady_of_returnable (hready : st.ready = some c) (hspent : c.spent = false) :
    st.returnReady =
      if st.level st.readyArm = true then
        { st with braking := true, accelTimer := none, sched := st.sched.stopped, state := .ready }
      else
        { st with
          braking := true
          accelTimer := none
          sched := st.sched.stopped
          state := .running
          queue := c.record :: st.queue
          ready := none
          sNew := none
          gaugeWindow := none } := by
  unfold Stand.returnReady
  dsimp only
  split
  · rfl
  · rw [Stand.returnToHead_of_returnable (st := { st with
      braking := true, accelTimer := none, sched := st.sched.stopped, state := .ready }) hready hspent]

/-- R98: an inhibit that unwinds stand k, from its new flags to the decisions at the end. -/
theorem State.unwinds_stand (hs : GroupsAgree s) (hcore : (s.stand k).SameCore st)
    (hpin : GroupsAgree s → st.pinSettled = false → st.pinAsserted = true)
    (hwatched : (s.stand k).state.watched = true) (hfree : (s.stand k).inhibited = false) :
    (State.decideChanged s (if (s.stand k).inhibited then s.setStand k st else (s.setStand k st).becomeInhibited k)).stand
      k = st.returnReady := by
  have hagrees := (State.Prepares.inhibit hs hcore.state hcore.params hcore.running (hpin hs)).1
  rw [if_neg (by rw [hfree]; decide)] at hagrees ⊢
  have hstand : ((s.setStand k st).becomeInhibited k).stand k = st.returnReady := by
    rw [State.becomeInhibited_stand, State.stand_setStand_same]
    rw [State.stand_setStand_same, hcore.state]
    exact hwatched
  rw [State.decideChanged_stand_of_not_requests hagrees, hstand]
  rw [hstand]
  refine Stand.requests_eq_false ?_
  rcases st.returnReady_cases with ⟨-, h⟩ | ⟨-, h⟩ <;> rw [h] <;> exact fun hmatched => by cases hmatched

/-- Either way into the inhibit, a flag is set and the stand returns. -/
theorem State.unwinds_of_inhibit (hs : GroupsAgree s) (hwatched : (s.stand k).state.watched = true)
    (h : (∃ r, s.takesAt r k ∧ exec (.inhibit r) s = .next t) ∨
      (s.inReset = false ∧ (s.stand k).pinSettled = true ∧ exec (.inhibitPinAssertion k) s = .next t)) :
    ∃ a b, (a || b) = true ∧ t.stand k = { s.stand k with pinAsserted := a, requestInhibit := b }.returnReady := by
  obtain ⟨hpin, hinhibit⟩ := hs.inhibitAgrees k
  have hfree := hinhibit hwatched
  rcases h with ⟨r, htakes, hexec⟩ | ⟨hreset, hsettled, hexec⟩
  · refine ⟨(s.stand k).pinAsserted, true, Bool.or_true _, ?_⟩
    cases (exec_inhibit_of_taken htakes).symm.trans hexec
    rw [inhibitAnswer_of_service (StandState.service_of_watched hwatched).1]
    exact State.unwinds_stand (st := { s.stand k with requestInhibit := true }) hs
      ⟨rfl, rfl, rfl, rfl, rfl, rfl, rfl, rfl, rfl, rfl, rfl, rfl, rfl⟩ (fun _ => hpin) hwatched hfree
  · refine ⟨true, (s.stand k).requestInhibit, Bool.true_or _, ?_⟩
    have hasserted : (s.stand k).pinAsserted = false := by
      simp only [Stand.inhibited, Bool.or_eq_false_iff] at hfree
      exact hfree.1
    cases (congrArg Host.Outcome.next (State.pinAssertion_of_edge hreset hsettled hasserted)).symm.trans hexec
    exact State.unwinds_stand (st := { s.stand k with pinAsserted := true }) hs
      ⟨rfl, rfl, rfl, rfl, rfl, rfl, rfl, rfl, rfl, rfl, rfl, rfl, rfl⟩ (fun _ _ => rfl) hwatched hfree

end

/-- Settles O26: the stand returns to READY or RUNNING, and a stand there neither requests nor holds a group. -/
theorem inhibitUnwindsToReady : Obligations.InhibitUnwindsToReady := by
  intro s t k c hs hstate hready hspent h
  obtain ⟨a, b, hinhibited, hstand⟩ :=
    State.unwinds_of_inhibit hs ((StandState.watched_eq_true_iff _).mpr hstate) h
  have ht : GroupsAgree t := by
    rcases h with ⟨r, -, hexec⟩ | ⟨-, -, hexec⟩ <;> exact exec_groupsAgree hexec hs
  rw [Stand.returnReady_of_returnable (st := { s.stand k with pinAsserted := a, requestInhibit := b }) hready hspent]
    at hstand
  by_cases hlevel : (s.stand k).level (s.stand k).readyArm = true
  · have hstand' := hstand.trans (if_pos hlevel)
    have hgroup := ht.not_in_group (k := k) (by rw [hstand']; rfl) (by rw [hstand']; exact fun h => by cases h)
    rw [hstand']
    exact ⟨hinhibited, rfl, rfl, rfl, rfl, rfl, rfl, (if_pos hlevel).mpr ⟨rfl, hready, rfl⟩, hgroup⟩
  · have hstand' := hstand.trans (if_neg hlevel)
    have hgroup := ht.not_in_group (k := k) (by rw [hstand']; rfl) (by rw [hstand']; exact fun h => by cases h)
    rw [hstand']
    exact ⟨hinhibited, rfl, rfl, rfl, rfl, rfl, rfl, (if_neg hlevel).mpr ⟨rfl, rfl, rfl⟩, hgroup⟩

end Sys2Proof.Machine
end

section
/-! SUPPORT. Clears of faults, by pin and by request (R147 to R154): O28, O44. -/
namespace Sys2Proof.Machine

/-! ### The state a cleared stand enters (R153) -/

section
variable {st : Stand} {waits : Bool}

theorem Stand.enterUnready_of_bound {q : ReelRecord} {rest : List ReelRecord} (hready : st.ready = none)
    (hshows : st.showsReel st.readyArm = true) (hqueue : st.queue = q :: rest) (hbraking : st.braking = false) :
    st.enterUnready waits =
      { st with
        queue := rest
        ready := some ⟨q, st.readyArm, none, none, false⟩
        sNew := none
        mountPending := false
        state := .checking
        gaugeWindow := some ⟨st.readyArm, 0, 0, waits⟩ } := by
  unfold Stand.enterUnready
  rw [if_pos (by simp [hready, hshows, hqueue, hbraking])]
  unfold Stand.bindHead
  rw [hqueue]

theorem Stand.enterUnready_of_not_bound
    (h : st.showsReel st.readyArm = false ∨ st.queue = [] ∨ st.braking = true) :
    st.enterUnready waits =
      { st with
        state := .running
        mountPending := st.mountPending || (st.ready.isNone && st.showsReel st.readyArm) } := by
  unfold Stand.enterUnready
  refine if_neg fun hall => ?_
  simp only [Bool.and_eq_true, Bool.not_eq_true', List.isEmpty_eq_false_iff] at hall
  obtain ⟨⟨⟨-, hshows⟩, hqueue⟩, hbraking⟩ := hall
  rcases h with h | h | h
  · rw [h] at hshows; cases hshows
  · exact hqueue h
  · rw [h] at hbraking; cases hbraking

theorem Stand.enterUnready_of_no_reel (h : st.showsReel st.readyArm = false) :
    st.enterUnready waits = { st with state := .running } := by
  rw [Stand.enterUnready_of_not_bound (.inl h), h, Bool.and_false, Bool.or_false]

theorem Stand.enterUnready_frame (st : Stand) (waits : Bool) :
    st.enterUnready waits =
      { st with
        queue := (st.enterUnready waits).queue
        ready := (st.enterUnready waits).ready
        sNew := (st.enterUnready waits).sNew
        gaugeWindow := (st.enterUnready waits).gaugeWindow
        state := (st.enterUnready waits).state
        mountPending := (st.enterUnready waits).mountPending } := by
  unfold Stand.enterUnready
  split
  · unfold Stand.bindHead
    split <;> rfl
  · rfl

theorem Stand.enterCleared_frame (st : Stand) (waits : Bool) :
    st.enterCleared waits =
      { st with
        queue := (st.enterCleared waits).queue
        ready := (st.enterCleared waits).ready
        sNew := (st.enterCleared waits).sNew
        gaugeWindow := (st.enterCleared waits).gaugeWindow
        state := (st.enterCleared waits).state
        mountPending := (st.enterCleared waits).mountPending } := by
  unfold Stand.enterCleared
  split
  · split
    · rw [Stand.enterUnready_frame, Stand.returnToHead_frame]
    · split
      · rfl
      · exact st.enterUnready_frame waits
  · exact st.enterUnready_frame waits

theorem Stand.enterCleared_of_none (h : st.ready = none) : st.enterCleared waits = st.enterUnready waits := by
  unfold Stand.enterCleared
  rw [h]

theorem Stand.showsReel_iff (st : Stand) (x : Arm) :
    st.showsReel x = true ↔ st.level x = true ∧ (st.arm x).unload = false := by
  simp [Stand.showsReel]

theorem Stand.enterCleared_of_returned {c : ReadyContext} (hready : st.ready = some c) (hspent : c.spent = false)
    (harm : c.arm = st.readyArm) (hshows : st.showsReel st.readyArm = false) :
    st.enterCleared waits =
      { st with
        queue := c.record :: st.queue
        ready := none
        sNew := none
        gaugeWindow := none
        state := .running } := by
  unfold Stand.enterCleared
  rw [hready]
  dsimp only
  rw [hspent, harm, hshows, if_pos (by decide), Stand.returnToHead_of_returnable hready hspent]
  exact Stand.enterUnready_of_no_reel hshows

theorem Stand.enterCleared_of_gauged {c : ReadyContext} (hready : st.ready = some c) (harm : c.arm = st.readyArm)
    (hgauged : c.dNew.isSome = true) (hshows : st.showsReel st.readyArm = true) :
    st.enterCleared waits = { st with state := .ready } := by
  unfold Stand.enterCleared
  rw [hready]
  dsimp only
  rw [harm, hshows, hgauged]
  simp

/-- R153: a stand whose ready context is absent, or gauged, unspent and on its ready arm, enters as R153 lists. -/
theorem Stand.enterCleared_enters (hready : st.ready = none ∨ st.readyIs true false = true) :
    st.Enters waits (st.enterCleared waits) := by
  have hcontext (c : ReadyContext) (hc : st.ready = some c) :
      c.arm = st.readyArm ∧ c.dNew.isSome = true ∧ c.spent = false := by
    have his := hready.resolve_left (by rw [hc]; simp)
    simpa [Stand.readyIs, hc, ReadyContext.isOn, and_assoc] using his
  unfold Stand.Enters
  simp only [← Stand.showsReel_iff, Bool.not_eq_true]
  refine ⟨fun c hc hnot => ?_, fun c hc hshows => ?_, fun q rest hnone hshows hqueue hbraking => ?_,
    fun hnone hshows hnot => ?_, fun hnone hnot => ?_⟩
  · obtain ⟨harm, -, hspent⟩ := hcontext c hc
    exact Stand.enterCleared_of_returned hc hspent harm hnot
  · obtain ⟨harm, hgauged, -⟩ := hcontext c hc
    exact Stand.enterCleared_of_gauged hc harm hgauged hshows
  · rw [Stand.enterCleared_of_none hnone, Stand.enterUnready_of_bound hnone hshows hqueue hbraking]
  · rw [Stand.enterCleared_of_none hnone, Stand.enterUnready_of_not_bound (.inr hnot), hnone, hshows]
    simp
  · rw [Stand.enterCleared_of_none hnone, Stand.enterUnready_of_no_reel hnot]

theorem Stand.dropFault_eq_unfaulted (st : Stand) : st.dropFault = st.unfaulted := rfl

theorem Stand.clearFault_frame (st : Stand) (waits : Bool) :
    st.clearFault waits =
      { st.unfaulted with
        queue := (st.clearFault waits).queue
        ready := (st.clearFault waits).ready
        sNew := (st.clearFault waits).sNew
        gaugeWindow := (st.clearFault waits).gaugeWindow
        state := (st.clearFault waits).state
        mountPending := (st.clearFault waits).mountPending } :=
  Stand.enterCleared_frame _ waits

theorem Stand.clearFault_state (st : Stand) (waits : Bool) :
    (st.clearFault waits).state ∈ [StandState.ready, .checking, .running] := by
  rcases Stand.enterCleared_state st.dropFault waits with h | h | h <;>
    rw [Stand.clearFault, h] <;> decide

/-- R153: a clear of a fault taken before the fire. -/
theorem Stand.clearFault_enters {f : FaultRecord} (hagree : st.contextsAgree = true) (hstate : st.state = .fault)
    (hrecord : st.record = some f) (hearly : f.stateAt.afterFire = false) :
    st.unfaulted.Enters waits (st.clearFault waits) := by
  obtain ⟨-, r, hr, hready⟩ := (Stand.contextsAgree_fault hstate).mp hagree
  cases hr.symm.trans hrecord
  rw [if_neg (by rw [hearly]; decide)] at hready
  exact Stand.enterCleared_enters (st := st.unfaulted) hready

theorem Stand.needsArm_eq {f : FaultRecord} (hrecord : st.record = some f) : st.needsArm = f.stateAt.afterFire := by
  simp [Stand.needsArm, hrecord]

end

/-! ### The release edge of a pin (O28) -/

section
variable {s : State} {k : StandId}

theorem State.pinRelease_of_edge (hreset : s.inReset = false) (hsettled : (s.stand k).pinSettled = true)
    (hasserted : (s.stand k).pinAsserted = true) : s.pinRelease k = s.pinLetGo k := by
  simp [State.pinRelease, hreset, hsettled, hasserted]

/-- The stand whose pin has been released. -/
def Stand.letGo (st : Stand) : Stand := { st with pinAsserted := false, awaitsRelease := false }

theorem State.pinLetGo_of_no_clear (h : (s.stand k).state ≠ .fault ∧ (s.stand k).state ≠ .matched ∨
    (s.stand k).state = .fault ∧ (s.stand k).needsArm = true) : s.pinLetGo k = s.setStand k (s.stand k).letGo := by
  unfold State.pinLetGo
  dsimp only [State.modStand_eq]
  rcases h with ⟨hfault, hmatched⟩ | ⟨hfault, harm⟩
  · rw [if_neg hfault, State.refreshRequest_of_not_matched _ _ (by rw [State.stand_setStand_same]; exact hmatched)]
    exact State.decideChanged_of_same s _ fun g => rfl
  · rw [if_pos hfault, if_pos harm]
    exact State.decideChanged_of_same s _ fun g => rfl

theorem State.pinLetGo_of_clear (hfault : (s.stand k).state = .fault) (harm : (s.stand k).needsArm = false) :
    s.pinLetGo k = s.setStand k ((s.stand k).letGo.clearFault false) := by
  unfold State.pinLetGo
  dsimp only [State.modStand_eq]
  rw [if_pos hfault, if_neg (by rw [harm]; decide), State.stand_setStand_same, State.setStand_setStand]
  exact State.decideChanged_of_same s _ fun g => rfl

end

/-- Settles O28, by the state and, in FAULT, by whether the fault was taken before the fire. -/
theorem pinReleaseClearsEarlyFault : Obligations.PinReleaseClearsEarlyFault := by
  intro s k hreset hsettled hasserted
  have hexec {t : State} (h : s.pinLetGo k = t) : exec (.inhibitPinRelease k) s = .next t :=
    congrArg Host.Outcome.next ((State.pinRelease_of_edge hreset hsettled hasserted).trans h)
  refine ⟨fun hfault hmatched => hexec (State.pinLetGo_of_no_clear (.inl ⟨hfault, hmatched⟩)),
    fun f hfault hrecord hlate => ?_, fun f hfault hrecord hissued hconfirm => ?_⟩
  · exact hexec (State.pinLetGo_of_no_clear (.inr ⟨hfault,
      (Stand.needsArm_eq hrecord).trans ((StandState.afterFire_iff _).mpr hlate)⟩))
  · have hearly : f.stateAt.afterFire = false :=
      Bool.eq_false_iff.mpr fun h => ((StandState.afterFire_iff _).mp h).elim hissued hconfirm
    have hframe := (s.stand k).letGo.clearFault_frame false
    refine ⟨_, hexec (State.pinLetGo_of_clear hfault ((Stand.needsArm_eq hrecord).trans hearly)),
      Stand.clearFault_state _ _, ?_, ?_, ?_, ?_, ?_, ?_, ?_, ?_, ?_, fun hagree =>
      Stand.clearFault_enters (st := (s.stand k).letGo) hagree hfault hrecord hearly⟩
    all_goals rw [hframe]; rfl

/-! ### CLEAR-FAULT (O44) -/

section
variable {s : State} {r : Request} {k : StandId} {sel : BitVec 16}

theorem exec_clearFault_of_taken (h : s.takesAt r k) :
    exec (.clearFault r sel) s = .next (s.answer r 10 (clearFaultAnswer sel s k)) :=
  congrArg Host.Outcome.next (s.serve_of_taken r 10 _ k h)

theorem clearField_of_none (h : (sel.extractLsb' 0 2).toNat = 0) : clearField sel = some none := if_pos h

theorem clearField_of_refused (h : (sel.extractLsb' 0 2).toNat = 3) : clearField sel = none := by
  unfold clearField armField
  dsimp only
  rw [h]
  rfl

theorem clearField_of_named (hnone : (sel.extractLsb' 0 2).toNat ≠ 0) (hrefused : (sel.extractLsb' 0 2).toNat ≠ 3) :
    clearField sel = some (some (if (sel.extractLsb' 0 2).toNat = 1 then .a else .b)) := by
  have hlt : (sel.extractLsb' 0 2).toNat < 4 := BitVec.isLt _
  unfold clearField armField
  dsimp only
  rw [if_neg hnone]
  split
  · rfl
  · rw [if_pos (by omega)]
    rfl

theorem clearField_isSome (h : (sel.extractLsb' 0 2).toNat ≠ 3) : ∃ named, clearField sel = some named := by
  by_cases hnone : (sel.extractLsb' 0 2).toNat = 0
  · exact ⟨_, clearField_of_none hnone⟩
  · exact ⟨_, clearField_of_named hnone h⟩

/-- Past the check of its field, a CLEAR-FAULT is decided by the state. -/
theorem clearFaultAnswer_of_field {named : Option Arm} :
    clearField sel = some named → clearFaultAnswer sel s k =
      if (s.stand k).state = .offline then refuse s .notOnline
      else if (s.stand k).state = .fault then
        if (s.stand k).needsArm then
          match named with
          | none => refuse s .needsArm
          | some x => done (s.clearWith k ((s.stand k).nameArm x s.grades))
        else done (s.clearWith k (s.stand k))
      else refuse s .noSuch := by
  intro h
  unfold clearFaultAnswer
  dsimp only
  rw [h] <;> rfl

/-- R131, R134: where no decision is due, a clear grants nothing. -/
theorem State.clearWith_of_decided (hs : GroupsAgree s) (hmade : DecisionsMade s) (hfault : (s.stand k).state = .fault)
    (st : Stand) : s.clearWith k st = s.setStand k (st.clearFault s.stepPending) := by
  refine State.decideGroup_of_none (State.chosen_none_congr (s := s) rfl rfl (fun j hhas => ?_) (hmade _))
  have hne : j ≠ k := fun h => by
    have hnot := (hs.not_in_group (k := k) (by rw [hfault]; rfl) (by rw [hfault]; decide) (s.groupOf k)).2
    rw [h, hnot] at hhas
    cases hhas
  rw [State.stand_setStand_other _ _ hne]

theorem exec_clearFault_of_refused {code : ReplyCode} (h : s.takesAt r k)
    (hanswer : clearFaultAnswer sel s k = refuse s code) :
    exec (.clearFault r sel) s = .next (s.replied r 10 code 0) := by
  rw [exec_clearFault_of_taken h, State.answer_of_refused hanswer]

theorem exec_clearFault_of_cleared {st : Stand} (h : s.takesAt r k) (hs : GroupsAgree s) (hmade : DecisionsMade s)
    (hfault : (s.stand k).state = .fault) (hanswer : clearFaultAnswer sel s k = done (s.clearWith k st)) :
    exec (.clearFault r sel) s = .next ((s.setStand k (st.clearFault s.stepPending)).replied r 10 .done 0) := by
  rw [State.clearWith_of_decided hs hmade hfault] at hanswer
  rw [exec_clearFault_of_taken h, State.answer_setStand (p := 0) hanswer]

end

section
variable {st : Stand} {waits : Bool}

/-- R149: roles kept, field by field. -/
theorem Stand.keepRoles_eq (st : Stand) :
    st.keepRoles =
      { st with
        armA := (st.markUnload st.readyArm).armA
        armB := (st.markUnload st.readyArm).armB
        ready := none
        sNew := none
        braking := true } := by
  unfold Stand.keepRoles Stand.discardReady
  rw [Stand.markUnload_frame]

/-- R150: the swap completed, field by field. -/
theorem Stand.completeSwap_eq {c : ReadyContext} (hready : st.ready = some c) (grades : Vector Grade 16) :
    st.completeSwap grades =
      { st with
        armA := (st.markUnload st.runningArm).armA
        armB := (st.markUnload st.runningArm).armB
        running := some (c.toRunning grades)
        ready := none
        sNew := none
        runningArm := st.readyArm
        braking := true } := by
  unfold Stand.completeSwap Stand.transfer
  rw [hready]
  dsimp only
  rw [Stand.markUnload_frame]

/-- After a named arm no context is left to enter READY with, and the ready arm brakes: the stand enters RUNNING. -/
theorem Stand.clearFault_of_named (hready : st.ready = none) (hbraking : st.braking = true) :
    st.clearFault waits =
      { st.unfaulted with
        ready := none
        state := .running
        mountPending := st.mountPending || st.showsReel st.readyArm } := by
  show st.unfaulted.enterCleared waits = _
  rw [Stand.enterCleared_of_none (show st.unfaulted.ready = none from hready),
    Stand.enterUnready_of_not_bound (.inr (.inr (show st.unfaulted.braking = true from hbraking))), show st.unfaulted.ready = none from hready]
  rfl

/-- R149, R152: the stand cleared with its roles kept. -/
theorem Stand.keepRoles_cleared (st : Stand) (waits : Bool) :
    let st' := st.keepRoles.clearFault waits
    st'.runningArm = st.runningArm ∧ st'.braking = true ∧ st'.state = .running ∧ st'.ready = none ∧ st'.sNew = none ∧
      st'.queue = st.queue ∧ st'.running.map (·.roll) = st.running.map (·.roll) ∧
      (st'.arm st.readyArm).unload = ((st.arm st.readyArm).unload || st.level st.readyArm) := by
  have hcleared := Stand.clearFault_of_named (st := st.keepRoles) (waits := waits) rfl rfl
  rw [Stand.keepRoles_eq] at hcleared ⊢
  dsimp only
  rw [hcleared]
  exact ⟨rfl, rfl, rfl, rfl, rfl, rfl, Option.map_map .., st.markUnload_arm st.readyArm⟩

/-- R150, R152: the stand cleared with its swap completed. -/
theorem Stand.completeSwap_cleared {c : ReadyContext} (hready : st.ready = some c) (grades : Vector Grade 16)
    (waits : Bool) :
    let st' := (st.completeSwap grades).clearFault waits
    st'.runningArm = st.readyArm ∧ st'.braking = true ∧ st'.state = .running ∧ st'.ready = none ∧ st'.sNew = none ∧
      st'.queue = st.queue ∧ st'.running.map (·.roll) = st.ready.map (·.record.roll) ∧
      st'.running.map (·.dRun) = st.ready.map (·.dNew.getD 0) ∧ st'.running.map (·.valid) = some true ∧
      (st'.arm st.runningArm).unload = ((st.arm st.runningArm).unload || st.level st.runningArm) := by
  rw [Stand.completeSwap_eq hready]
  have hcleared := Stand.clearFault_of_named (waits := waits) (st := { st with
    armA := (st.markUnload st.runningArm).armA
    armB := (st.markUnload st.runningArm).armB
    running := some (c.toRunning grades)
    ready := none
    sNew := none
    runningArm := st.readyArm
    braking := true }) rfl rfl
  dsimp only
  rw [hcleared, hready]
  exact ⟨rfl, rfl, rfl, rfl, rfl, rfl, rfl, rfl, rfl, st.markUnload_arm st.runningArm⟩

/-- What every clear makes of a stand, from the stand whose roles are settled. -/
theorem Stand.clearFault_keeps (st : Stand) (waits : Bool) :
    let st' := st.clearFault waits
    st'.state ∈ [StandState.ready, .checking, .running] ∧ st'.record = none ∧ st'.claimLost = false ∧
      st'.linkLoss = false ∧ st'.acceptOpen = true ∧ st'.window = none ∧
      (∀ c, st'.running = some c → c.anchor = none) ∧ st'.requestInhibit = st.requestInhibit ∧ st'.sched = st.sched := by
  have hframe := st.clearFault_frame waits
  refine ⟨st.clearFault_state waits, ?_, ?_, ?_, ?_, ?_, fun c hc => ?_, ?_, ?_⟩
  case refine_6 =>
    rw [hframe] at hc
    obtain ⟨c', -, rfl⟩ := Option.map_eq_some_iff.mp hc
    rfl
  all_goals rw [hframe]; rfl

end

theorem Stand.nameArm_keeps (st : Stand) (x : Arm) (grades : Vector Grade 16) :
    (st.nameArm x grades).requestInhibit = st.requestInhibit ∧ (st.nameArm x grades).sched = st.sched := by
  unfold Stand.nameArm
  split
  · rw [Stand.keepRoles_eq]
    exact ⟨rfl, rfl⟩
  · cases h : st.ready with
    | none => simp [Stand.completeSwap, Stand.transfer, h]
    | some c => rw [Stand.completeSwap_eq h]; exact ⟨rfl, rfl⟩

/-- A stand faulted after its fire still holds its ready context. -/
theorem Stand.ready_of_late {st : Stand} {f : FaultRecord} (hagree : st.contextsAgree = true) (hstate : st.state = .fault)
    (hrecord : st.record = some f) (hlate : f.stateAt.afterFire = true) : ∃ c, st.ready = some c := by
  obtain ⟨-, r, hr, hready⟩ := (Stand.contextsAgree_fault hstate).mp hagree
  cases hr.symm.trans hrecord
  rw [if_pos hlate] at hready
  cases h : st.ready with
  | none => rw [Stand.readyIs, h] at hready; cases hready
  | some c => exact ⟨c, rfl⟩

/-- R179: the arm a CLEAR-FAULT names, by its code. -/
theorem namedArm_eq_iff (v : Nat) (x : Arm) : ((if v = 1 then Arm.a else .b) = x) ↔ (v = 1 ↔ x = .a) := by
  cases x <;> by_cases h : v = 1 <;> simp [h]

theorem namedArm_ne {v : Nat} {x : Arm} (h : v = 1 ↔ x = .b) : (if v = 1 then Arm.a else .b) ≠ x := by
  cases x <;> by_cases hv : v = 1 <;> simp_all

/-- Settles O44, by the field, the state, and whether the fault was taken before the fire; after the fire, by the arm
named. -/
theorem clearFaultByStateAtFault : Obligations.ClearFaultByStateAtFault := by
  intro s r k sel h hs hcontexts hmade
  refine ⟨fun hv => ?_, fun hv hstate => ?_, fun hv hoffline hfault => ?_, fun f hfault hrecord =>
    ⟨fun hlate hv => ?_, fun hv hnamed => ?_⟩⟩
  · refine exec_clearFault_of_refused h ?_
    unfold clearFaultAnswer
    rw [clearField_of_refused hv]
  · obtain ⟨named, hfield⟩ := clearField_isSome hv
    exact exec_clearFault_of_refused h ((clearFaultAnswer_of_field hfield).trans (if_pos hstate))
  · obtain ⟨named, hfield⟩ := clearField_isSome hv
    exact exec_clearFault_of_refused h
      ((clearFaultAnswer_of_field hfield).trans ((if_neg hoffline).trans (if_neg hfault)))
  all_goals have harm := (Stand.needsArm_eq hrecord)
  · have hanswer := clearFaultAnswer_of_field (s := s) (k := k) (clearField_of_none hv)
    rw [if_neg (by rw [hfault]; decide), if_pos hfault,
      if_pos (harm.trans ((StandState.afterFire_iff _).mpr hlate))] at hanswer
    exact exec_clearFault_of_refused h hanswer
  · by_cases hlate : f.stateAt = .firingIssued ∨ f.stateAt = .confirm
    · have hanswer := clearFaultAnswer_of_field (s := s) (k := k) (clearField_of_named (hnamed hlate) hv)
      rw [if_neg (by rw [hfault]; decide), if_pos hfault,
        if_pos (harm.trans ((StandState.afterFire_iff _).mpr hlate))] at hanswer
      obtain ⟨hstate, hrecord', hclaim, hloss, haccept, hwindow, hanchor, hinhibit, hsched⟩ :=
        ((s.stand k).nameArm (if (sel.extractLsb' 0 2).toNat = 1 then .a else .b) s.grades).clearFault_keeps s.stepPending
      obtain ⟨c, hc⟩ := Stand.ready_of_late (hcontexts k) hfault hrecord ((StandState.afterFire_iff _).mpr hlate)
      obtain ⟨hinhibit', hsched'⟩ := (s.stand k).nameArm_keeps (if (sel.extractLsb' 0 2).toNat = 1 then .a else .b)
        s.grades
      refine ⟨_, exec_clearFault_of_cleared h hs hmade hfault hanswer, hstate, hrecord', hclaim, hloss, haccept, hwindow,
        hanchor, hinhibit.trans hinhibit', hsched.trans hsched', fun hearly => absurd hlate hearly, fun _ harm => ?_,
        fun _ harm => ?_⟩
      · rw [Stand.nameArm, if_pos ((namedArm_eq_iff _ _).mpr harm)]
        exact (s.stand k).keepRoles_cleared s.stepPending
      · rw [Stand.nameArm, if_neg (namedArm_ne harm)]
        exact Stand.completeSwap_cleared hc s.grades s.stepPending
    · have hearly : f.stateAt.afterFire = false := Bool.eq_false_iff.mpr fun h => hlate ((StandState.afterFire_iff _).mp h)
      obtain ⟨named, hfield⟩ := clearField_isSome hv
      have hanswer := clearFaultAnswer_of_field (s := s) (k := k) hfield
      rw [if_neg (by rw [hfault]; decide), if_pos hfault, if_neg (by rw [harm, hearly]; decide)] at hanswer
      obtain ⟨hstate, hrecord', hclaim, hloss, haccept, hwindow, hanchor, hinhibit, hsched⟩ :=
        (s.stand k).clearFault_keeps s.stepPending
      have hframe := (s.stand k).clearFault_frame s.stepPending
      refine ⟨_, exec_clearFault_of_cleared h hs hmade hfault hanswer, hstate, hrecord', hclaim, hloss, haccept, hwindow,
        hanchor, hinhibit, hsched, fun _ => ⟨?_, ?_, Stand.clearFault_enters (hcontexts k) hfault hrecord hearly⟩,
        fun h => absurd h hlate, fun h => absurd h hlate⟩ <;> rw [hframe] <;> rfl

end Sys2Proof.Machine
end

section
/-! SUPPORT. Timing of paste and knife: speeds of the ready reel, arming, the write of fire and knife: O31, O32, O37, O38, O39. -/
namespace Sys2Proof.Machine

/-! ### Target speed, drive reference and surface speed (O32) -/

section
variable {st : Stand} {r : ReadyContext} {d : Nat}

theorem Stand.dNew_of_ready (hr : st.ready = some r) (hd : r.dNew = some d) : st.dNew = d := by
  simp [Stand.dNew, hr, hd]

theorem Stand.formTarget_sched (st : Stand) (speed : Nat) :
    (st.formTarget speed).sched =
      { st.sched with
        target := some (targetSpeed speed st.params.ovs)
        nRef := some (driveReference (targetSpeed speed st.params.ovs) st.dNew) } := rfl

theorem targetSpeed_isRounded (speed ovs : Nat) : IsRounded (speed * (1000 + ovs)) 1000 (targetSpeed speed ovs) :=
  roundDiv_isRounded _ _ (by decide)

theorem driveReference_of_isRounded {v q : Nat} (hd : 1 ≤ d) (hq : IsRounded (v * 65536000) (d * 31416) q) :
    driveReference v d = min 65535 q := by
  rw [hq.eq_roundDiv (by omega)]
  rfl

theorem Stand.measureReady_sNew (hr : st.ready = some r) (hd : r.dNew = some d) :
    st.measureReady.sNew = some (surfaceSpeed (st.arm st.readyArm).rate d) := by
  simp [Stand.measureReady, hr, hd]

theorem surfaceSpeed_le {c : Nat} (hc : c ≤ 4095) (hd : d ≤ 16000) : surfaceSpeed c d ≤ 502533 := by
  have hproduct : c * d ≤ 4095 * 16000 := Nat.mul_le_mul hc hd
  unfold surfaceSpeed roundDiv
  omega

end

/-- Settles O32: each value is its quotient rounded half up, and bounded by the largest rate and diameter. -/
theorem readyReelSpeedsAreRounded : Obligations.ReadyReelSpeedsAreRounded := by
  intro st r d speed hr hd hpos
  refine ⟨⟨_, _, st.formTarget_sched speed, targetSpeed_isRounded _ _, Nat.min_le_left _ _, fun q hq => ?_⟩,
    ⟨_, Stand.measureReady_sNew hr hd, roundDiv_isRounded _ _ (by decide), surfaceSpeed_le⟩, rfl, rfl⟩
  rw [Stand.dNew_of_ready hr hd]
  exact driveReference_of_isRounded hpos hq

/-! ### Arming (O31) -/

theorem Stand.dueByDiameter_iff (st : Stand) :
    st.dueByDiameter = true ↔
      ∃ r, st.running = some r ∧ r.valid = true ∧ r.dRun ≤ r.override.getD st.params.dS := by
  unfold Stand.dueByDiameter Stand.spliceDiameter
  cases st.running <;> simp

theorem Stand.due_iff (st : Stand) :
    st.due = true ↔ st.forced = true ∨
      ∃ r, st.running = some r ∧ r.valid = true ∧ r.dRun ≤ r.override.getD st.params.dS := by
  rw [Stand.due, Bool.or_eq_true, Stand.dueByDiameter_iff, or_comm]

theorem Stand.arms_iff (st : Stand) :
    st.arms = true ↔ st.pinAsserted = false ∧ st.requestInhibit = false ∧ st.awaitsRelease = false ∧
      st.braking = false ∧ ((∃ n, st.tTs = some n ∧ n ≤ st.params.tLead) ∨ st.due = true) := by
  unfold Stand.arms Stand.inhibited
  cases st.tTs <;> simp [and_assoc]

theorem State.transitions_of_ready {s : State} {k : StandId} (h : (s.stand k).state = .ready) (hand : StandHand)
    (stale : Bool) (dg : Option Nat) (b : Bool) :
    s.transitions k hand stale dg b =
      if (s.stand k).arms then s.setStand k ((s.stand k).enterAccel s.lineSpeed) else s := by
  unfold State.transitions
  dsimp only
  rw [h]

/-- Settles O31: the arming test is the one the rules state, and the entry to ACCEL forms target and reference. -/
theorem readyStandArms : Obligations.ReadyStandArms := by
  intro s k h stale dg b hstate
  have hstep := State.transitions_of_ready hstate h stale dg b
  have harms := (s.stand k).arms_iff
  rw [Stand.due_iff] at harms
  refine ⟨fun hnot => ?_, fun harmed => ?_⟩
  · exact hstep.trans (if_neg fun hyes => hnot (harms.mp hyes))
  · have hentered := hstep.trans (if_pos (harms.mpr harmed))
    obtain ⟨-, -, -, hbraking, -⟩ := harmed
    have hstand : (s.transitions k h stale dg b).stand k = (s.stand k).enterAccel s.lineSpeed := by
      rw [hentered, State.stand_setStand_same]
    rw [hstand]
    refine ⟨rfl, rfl, rfl, rfl, rfl, rfl, rfl, rfl, rfl, ⟨_, rfl, targetSpeed_isRounded _ _, _, rfl, fun c d hc hd hpos q hq => ?_⟩,
      rfl, rfl, rfl, hbraking, hentered⟩
    have hnew : Stand.dNew { s.stand k with
        state := .accel
        accelTimer := some 0
        ready := (s.stand k).ready.map fun r => { r with tape := none }
        requestStart := none
        grant := none
        kept := none
        sched := { (s.stand k).sched with tapeTravel := 0, prepared := none, plan := none } } = d :=
      Stand.dNew_of_ready (r := { c with tape := none }) (by rw [hc]; rfl) hd
    rw [hnew]
    exact driveReference_of_isRounded hpos hq

/-! ### The write of a fire (O37) -/

section
variable {s : State} {k : StandId} {m : Word} {p : PreparedFire}

theorem State.fireStep_of_due (hp : (s.stand k).sched.prepared = some p) (hstate : (s.stand k).state = .firingPending)
    (hcycle : p.cycle = m) :
    s.fireStep k m = (s.setStand k ((s.stand k).issueFire s.lineSpeed ⟨m + 1, p.offset⟩), some p.offset) := by
  unfold State.fireStep
  dsimp only
  rw [hp]
  exact if_pos ⟨hstate, hcycle⟩

theorem State.fireStep_of_dropped (hp : (s.stand k).sched.prepared = some p)
    (h : (s.stand k).state ≠ .firingPending ∨ p.cycle ≠ m) :
    s.fireStep k m = (s.setStand k (s.stand k).dropFire, none) := by
  unfold State.fireStep
  dsimp only
  rw [hp]
  exact if_neg fun ⟨hstate, hcycle⟩ => h.elim (absurd hstate) (absurd hcycle)

theorem Stand.issueFire_occupancy {st : Stand} {r : ReadyContext} (speed : Nat) (i : Instant) (hr : st.ready = some r)
    (hspent : r.spent = false) : (st.issueFire speed i).occupancy + 1 = st.occupancy := by
  simp [Stand.occupancy, Stand.holdsReturnable, Stand.issueFire, hr, hspent]

end

/-- Settles O37: the fire is written or dropped; either way only its stand is changed. -/
theorem fireWriteFormsPlan : Obligations.FireWriteFormsPlan := by
  intro s k m p r hp hr
  have hothers {t : State × Option Nat} {st : Stand} (ht : ∃ o, t = (s.setStand k st, o)) :
      (∀ j, j ≠ k → t.1.stand j = s.stand j) ∧ t.1.groups = s.groups ∧ t.1.log = s.log := by
    obtain ⟨o, rfl⟩ := ht
    exact ⟨fun j hj => State.stand_setStand_other _ _ hj, rfl, rfl⟩
  refine ⟨fun hstate hcycle => ?_, fun hnot => ?_, ?_⟩
  · rw [State.fireStep_of_due hp hstate hcycle]
    dsimp only
    rw [State.stand_setStand_same]
    refine ⟨rfl, rfl, ?_, rfl, ⟨_, rfl, rfl, rfl, rfl, rfl, rfl, rfl, rfl, rfl, rfl, rfl⟩, fun g hg => ?_,
      Stand.issueFire_occupancy _ _ hr⟩
    · show (s.stand k).ready.map _ = _
      rw [hr]
      rfl
    · show some (KeptSequence.mk ((s.stand k).grant.getD ⟨0, false⟩).wait _ _) = _
      rw [hg]
      rfl
  · rw [State.fireStep_of_dropped hp hnot]
    dsimp only
    rw [State.stand_setStand_same]
    exact ⟨rfl, rfl, rfl, hr⟩
  · by_cases hdue : (s.stand k).state = .firingPending ∧ p.cycle = m
    · exact hothers ⟨_, State.fireStep_of_due hp hdue.1 hdue.2⟩
    · exact hothers ⟨_, State.fireStep_of_dropped hp (not_and_or.mp hdue)⟩

/-! ### The knife delay (O38) -/

section
variable {q : Params} {speed u : Nat}

theorem knifeDelay_of_rest (q : Params) : knifeDelay q 0 = (q.maxGap, true) := rfl

/-- R120: the delay of a moving line, by where the time from contact to knife lies. -/
theorem knifeDelay_of_speed (hspeed : 0 < speed) (hu : IsRounded (q.lKnife * 4000) speed u) :
    knifeDelay q speed =
      if q.tPaste + u < q.tKnife + q.minGap then (q.minGap, true)
      else if q.tKnife + q.maxGap < q.tPaste + u then (q.maxGap, true)
      else (q.tPaste + u - q.tKnife, false) := by
  rw [hu.eq_roundDiv hspeed]
  exact if_neg (by omega)

theorem knifeDelay_within (speed : Nat) (h : q.minGap ≤ q.maxGap) :
    q.minGap ≤ (knifeDelay q speed).1 ∧ (knifeDelay q speed).1 ≤ q.maxGap := by
  rcases Nat.eq_zero_or_pos speed with rfl | hspeed
  · exact ⟨h, le_rfl⟩
  · rw [knifeDelay_of_speed hspeed (roundDiv_isRounded _ _ hspeed)]
    split
    · exact ⟨le_rfl, h⟩
    · split
      · exact ⟨h, le_rfl⟩
      · constructor <;> dsimp only <;> omega

end

/-- Settles O38, by the three rows of R120's table for a moving line. -/
theorem knifeDelayLiesBetweenGaps : Obligations.KnifeDelayLiesBetweenGaps := by
  intro q speed dRun i hgap
  obtain ⟨hmin, hmax⟩ := knifeDelay_within speed hgap
  refine ⟨hmin, hmax, fun hrest => ?_, fun u hspeed hu => ?_⟩
  · subst hrest
    exact ⟨rfl, rfl⟩
  · have hdelay := knifeDelay_of_speed hspeed hu
    unfold firePlanAt
    dsimp only
    rw [hdelay]
    refine ⟨fun hshort => ?_, fun hlong => ?_, fun hlo hhi => ?_⟩
    · rw [if_pos hshort]
      exact ⟨rfl, rfl⟩
    · rw [if_neg (by omega), if_pos hlong]
      exact ⟨rfl, rfl⟩
    · rw [if_neg (by omega), if_neg (by omega)]
      exact ⟨by dsimp only; omega, rfl⟩

/-! ### The write of a knife (O39) -/

section
variable {s : State} {k : StandId} {m : Word} {p : FirePlan}

theorem FirePlan.knifeDue_eq (hplanned : p.knifeState = .planned) : p.knifeDue m = !cycleAfter p.knife.cycle (m + 1) := by
  simp [FirePlan.knifeDue, hplanned]

theorem State.knifeStep_of_not_due (hp : (s.stand k).sched.plan = some p) (hplanned : p.knifeState = .planned)
    (hafter : cycleAfter p.knife.cycle (m + 1) = true) : s.knifeStep k m = (s, none) := by
  unfold State.knifeStep
  dsimp only
  rw [hp]
  exact if_neg fun ⟨_, hdue⟩ => by rw [FirePlan.knifeDue_eq hplanned, hafter] at hdue; cases hdue

theorem State.knifeStep_of_due (hstate : (s.stand k).state = .firingIssued) (hp : (s.stand k).sched.plan = some p)
    (hplanned : p.knifeState = .planned) (hafter : cycleAfter p.knife.cycle (m + 1) = false) :
    s.knifeStep k m = (s.setStand k ((s.stand k).issueKnife p m),
      some (p.issueKnife m (s.stand k).params.tConfirm).knife.offset) := by
  unfold State.knifeStep
  dsimp only
  rw [hp]
  exact if_pos ⟨hstate, by rw [FirePlan.knifeDue_eq hplanned, hafter]; rfl⟩

theorem FirePlan.issueKnife_of_on_time (tConfirm : Nat) (h : p.knife.cycle = m + 1) :
    (p.issueKnife m tConfirm).knife = p.knife ∧ (p.issueKnife m tConfirm).late = false := by
  have hlate : (p.knife.cycle != m + 1) = false := by simp [h]
  exact ⟨if_neg (Bool.eq_false_iff.mp hlate), hlate⟩

theorem FirePlan.issueKnife_of_late (tConfirm : Nat) (h : p.knife.cycle ≠ m + 1) :
    (p.issueKnife m tConfirm).knife = ⟨m + 1, 0⟩ ∧ (p.issueKnife m tConfirm).late = true := by
  have hlate : (p.knife.cycle != m + 1) = true := bne_iff_ne.mpr h
  exact ⟨if_pos hlate, hlate⟩

end

/-- Settles O39, by whether the knife's cycle lies after m+1, is m+1, or lies before it. -/
theorem knifeWriteOpensConfirm : Obligations.KnifeWriteOpensConfirm := by
  intro s k m p hstate hp hplanned
  refine ⟨State.knifeStep_of_not_due hp hplanned, fun hafter => ?_⟩
  rw [State.knifeStep_of_due hstate hp hplanned hafter]
  dsimp only
  rw [State.stand_setStand_same]
  exact ⟨p.issueKnife m (s.stand k).params.tConfirm, rfl, rfl, rfl, FirePlan.issueKnife_of_on_time _,
    FirePlan.issueKnife_of_late _, rfl, rfl, rfl, rfl, rfl, rfl,
    fun j hj => State.stand_setStand_other _ _ hj, rfl⟩

end Sys2Proof.Machine
end

section
/-!
SUPPORT. The decision of a group at the end of an event (R131, R133), and O43, O35 and O40: the end of a spacing, the
end of the confirm window, and the work of FIRING-issued and CONFIRM.
-/
namespace Sys2Proof.Machine

/-! ### The decision of one group at the end of an event -/

section
variable {s : State} {g : GroupId}

theorem State.foldl_decideGroup_group_of_none (l : List GroupId) (h : s.chosen g = none) :
    (l.foldl State.decideGroup s).group g = s.group g := by
  induction l generalizing s with
  | nil => rfl
  | cons a l ih =>
    have hfirst : (s.decideGroup a).group g = s.group g := by
      by_cases ha : g = a
      · rw [← ha, State.decideGroup_of_none h]
      · exact s.decideGroup_group_other ha
    exact (ih (s.decideGroup_keeps_chosen a h)).trans hfirst

/-- R131: a group without a stand to grant is left as it is. -/
theorem State.decideAll_group_of_none (h : ∀ k, s.mayGrant g k = false) : s.decideAll.group g = s.group g :=
  State.foldl_decideGroup_group_of_none allGroups (State.chosen_eq_none_iff.mpr h)

theorem State.foldl_decideGroup_held (l : List GroupId) (hg : g ∈ l) {k : StandId} (h : s.mayGrant g k = true) :
    ∃ j, s.mayGrant g j = true ∧ ((l.foldl State.decideGroup s).group g).grant = .held j := by
  induction l generalizing s with
  | nil => cases hg
  | cons a l ih =>
    by_cases ha : g = a
    · subst ha
      rcases s.decideGroup_cases g with ⟨hnone, -⟩ | ⟨j, hchosen, hgrant⟩
      · rw [State.chosen_eq_none_iff.mp hnone k] at h
        cases h
      · refine ⟨j, s.chosen_mayGrant g j hchosen, ?_⟩
        rw [List.foldl_cons, State.foldl_decideGroup_group_of_none l (s.decideGroup_chosen g), hgrant,
          State.grantTo_group, if_pos rfl]
    · have hsame := s.decideGroup_group_other (g := a) ha
      have hmay (j : StandId) : (s.decideGroup a).mayGrant g j = s.mayGrant g j :=
        State.mayGrant_congr (by rw [hsame]) (by rw [hsame]) fun _ => s.decideGroup_urgent a j
      obtain ⟨j, hj, hheld⟩ := ih ((List.mem_cons.mp hg).resolve_left ha) ((hmay k).trans h)
      exact ⟨j, (hmay j).symm.trans hj, hheld⟩

/-- R131, R133: a group with a stand to grant is held by one at the end, which is in FIRING-pending. -/
theorem State.decideAll_grants (hs : GroupsAgree s) {k : StandId} (h : s.mayGrant g k = true) :
    ∃ j, s.mayGrant g j = true ∧ (s.decideAll.group g).grant = .held j ∧ (s.decideAll.group g).has j = false ∧
      (s.decideAll.stand j).state = .firingPending := by
  obtain ⟨j, hj, hheld⟩ := State.foldl_decideGroup_held allGroups (mem_allGroups g) h
  have hfiring : (s.decideAll.stand j).state = .firingPending := by
    rcases s.decideAll_grantsAny.stand j with hsame | ⟨-, c, hgrant⟩
    · have hmatched := hs.matched_of_has (State.has_of_mayGrant hj)
      have hholds := ((((groupsAgree_iff _).mp hs.decideAll j).2.1 g).mp hheld).2
      rw [hsame, hmatched] at hholds
      cases hholds
    · rw [hgrant]
  refine ⟨j, hj, hheld, Bool.eq_false_iff.mpr fun hhas => ?_, hfiring⟩
  rw [hs.decideAll.matched_of_has hhas] at hfiring
  cases hfiring

theorem Group.countDown_stagger (v : Group) (inc : Nat) : (v.countDown inc).stagger = v.stagger := by
  unfold Group.countDown
  split <;> [rfl; (split <;> rfl); rfl]

theorem Group.countDown_of_counting {v : Group} {rest : Nat} (h : v.grant = .spacing rest false) (inc : Nat) :
    (v.countDown inc).grant = if rest ≤ inc then .free else .spacing (rest - inc) false := by
  unfold Group.countDown
  rw [h]
  dsimp only
  split <;> rfl

theorem Group.countDown_of_waiting {v : Group} {rest : Nat} (h : v.grant = .spacing rest true) (inc : Nat) :
    v.countDown inc = { v with grant := .spacing rest false } := by
  unfold Group.countDown
  rw [h]

theorem Group.countDown_of_not_spacing {v : Group} (h : ∀ rest w, v.grant ≠ .spacing rest w) (inc : Nat) :
    v.countDown inc = v := by
  unfold Group.countDown
  split
  case h_1 hgrant => exact absurd hgrant (h _ _)
  case h_2 hgrant => exact absurd hgrant (h _ _)
  case h_3 => rfl

theorem State.countDownGroup_group (s : State) (inc : Nat) (a g : GroupId) :
    (s.countDownGroup inc a).group g = if g = a then (s.group g).countDown inc else s.group g := by
  rw [State.countDownGroup, State.group_setGroup]
  split
  case isTrue h => rw [h]
  case isFalse => rfl

theorem State.foldl_countDownGroup_group (inc : Nat) (l : List GroupId) (hl : l.Nodup) (s : State) (g : GroupId) :
    (l.foldl (fun t a => t.countDownGroup inc a) s).group g =
      if g ∈ l then (s.group g).countDown inc else s.group g := by
  induction l generalizing s with
  | nil => rfl
  | cons a l ih =>
    obtain ⟨hnot, hrest⟩ := List.nodup_cons.mp hl
    rw [List.foldl_cons, ih hrest, State.countDownGroup_group]
    by_cases hg : g = a
    · subst hg
      simp [hnot]
    · simp [hg]

/-- R137: every group takes the same increment. -/
theorem State.countDown_group (s : State) (inc : Nat) (g : GroupId) :
    (s.countDown inc).group g = (s.group g).countDown inc :=
  (State.foldl_countDownGroup_group inc allGroups (by decide) s g).trans (if_pos (mem_allGroups g))

theorem State.spacingEnds_of_counting {rest : Nat} (h : (s.group g).grant = .spacing rest false) (inc : Nat) :
    s.spacingEnds g inc = decide (rest ≤ inc) := by
  unfold State.spacingEnds
  rw [h]
  rfl

theorem State.spacingEnds_of_waiting {rest : Nat} (h : (s.group g).grant = .spacing rest true) (inc : Nat) :
    s.spacingEnds g inc = false := by
  unfold State.spacingEnds
  rw [h]
  rfl

end

/-- R131, R137: what the end of a spacing makes of its group. -/
theorem State.spacingEnd_of_ended {s : State} {g : GroupId} {rest inc : Nat} (hs : GroupsAgree s)
    (hgrant : (s.group g).grant = .spacing rest false) (hended : rest ≤ inc) :
    let t := (s.countDownGroup inc g).endEvent
    ((∀ k, (s.group g).has k = false) → (t.group g).grant = .free) ∧
      ((∃ k, (s.group g).has k = true) →
        ∃ k, (s.group g).has k = true ∧ (t.group g).grant = .held k ∧ (t.stand k).state = .firingPending) ∧
      (t.group g).stagger = (s.group g).stagger := by
  have hgroup : (s.countDownGroup inc g).group g = (s.group g).countDown inc :=
    (s.countDownGroup_group inc g g).trans (if_pos rfl)
  have hfree : ((s.countDownGroup inc g).group g).grant = .free := by
    rw [hgroup, Group.countDown_of_counting hgrant, if_pos hended]
  have hmay (k : StandId) : (s.countDownGroup inc g).mayGrant g k = (s.group g).has k := by
    rw [State.mayGrant_of_free hfree, hgroup]
    unfold Group.has
    rw [((s.group g).countDown_keeps inc).1]
  refine ⟨fun hnone => ?_, fun ⟨k, hk⟩ => ?_, ?_⟩
  · rw [State.group_endEvent, State.decideAll_group_of_none fun k => (hmay k).trans (hnone k), hfree]
  · obtain ⟨j, hj, hheld, -, hstate⟩ := State.decideAll_grants (hs.countDownGroup inc g) ((hmay k).trans hk)
    refine ⟨j, (hmay j).symm.trans hj, ?_, ?_⟩
    · rw [State.group_endEvent, hheld]
    · rw [State.stand_endEvent, hstate]
  · rw [State.group_endEvent, (State.decideAll_grantsAny _).stagger, hgroup, Group.countDown_stagger]

/-- Settles O43, by whether the step counts and the increment reaches the remaining length. -/
theorem spacingEndFreesGroup : Obligations.SpacingEndFreesGroup := by
  refine ⟨fun s g inc rest hreset hs hgrant => ⟨fun hended => ?_, fun hshort => ?_, Group.countDown_of_counting hgrant _⟩,
    fun s g inc rest hgrant => ⟨?_, Group.countDown_of_waiting hgrant _⟩,
    fun s inc => ⟨s.countDown_group inc, fun g h => Group.countDown_of_not_spacing h inc, s.countDown_frame inc⟩⟩
  · refine ⟨_, congrArg Host.Outcome.next (if_pos ?_), State.spacingEnd_of_ended hs hgrant hended⟩
    rw [hreset, State.spacingEnds_of_counting hgrant]
    simp [hended]
  · refine congrArg Host.Outcome.next (if_neg ?_)
    rw [State.spacingEnds_of_counting hgrant]
    simp [hshort]
  · refine congrArg Host.Outcome.next (if_neg ?_)
    rw [State.spacingEnds_of_waiting hgrant]
    simp

/-! ### The log at the end of an event -/

theorem pushEntry_of_bounded {l : List LogEntry} (h : l.length ≤ 32) (e : LogEntry) :
    pushEntry l e = (if l.length < 32 then l else l.drop 1) ++ [e] := by
  unfold pushEntry
  split
  case isTrue => rfl
  case isFalse hfull => rw [show l.length - 31 = 1 by omega]

section
variable {s : State} {k : StandId} {e : LogEntry}

/-- R162, R163: the one entry an event has formed joins at the tail. -/
theorem State.endEvent_log_of_formed_one (h : s.formed = [e]) (hlog : s.log.length ≤ 32) :
    s.endEvent.log = (if s.log.length < 32 then s.log else s.log.drop 1) ++ [e] ∧
      s.endEvent.overrun = (s.overrun || decide (s.log.length = 32)) := by
  have hdecided := s.decideAll_grantsAny.frame
  have hformed : s.decideAll.formed = [e] := by rw [hdecided]; exact h
  have hfull : decide (32 ≤ s.log.length) = decide (s.log.length = 32) := by simp; omega
  unfold State.endEvent State.joinLog
  rw [hformed, hdecided]
  exact ⟨pushEntry_of_bounded hlog e, congrArg (s.overrun || ·) hfull⟩

theorem State.leaveGroup_of_afterFire (h : (s.stand k).state.afterFire = true) :
    s.leaveGroup k = s.setGroup (s.groupOf k) ((s.group (s.groupOf k)).toSpacing s.stepPending) := by
  unfold State.leaveGroup
  rcases (StandState.afterFire_iff _).mp h with hstate | hstate <;> rw [hstate]

/-- R141, R160, R161: a fault after the fire forms an entry, takes the group to its spacing and enters FAULT. -/
theorem State.takeFault_of_afterFire (h : (s.stand k).state.afterFire = true) (kind : FaultKind)
    (sig : Option StaleSignal) :
    s.takeFault k kind sig =
      (((s.formEntry k kind.outcome).setGroup (s.groupOf k) ((s.group (s.groupOf k)).toSpacing s.stepPending)).setStand k
        ((s.stand k).enterFault kind s.cycle sig)) := by
  have hservice : (s.stand k).state ≠ .offline ∧ (s.stand k).state ≠ .fault := by
    cases hstate : (s.stand k).state <;> simp_all [StandState.afterFire]
  rw [s.takeFault_of_service k kind sig hservice.1 hservice.2, if_pos h, State.leaveGroup_of_afterFire (by exact h)]
  rfl

end

end Sys2Proof.Machine
end

section
/-!
SUPPORT. O35 and O40: the end of the confirm window, and the work of FIRING-issued and CONFIRM.
-/
namespace Sys2Proof.Machine

/-! ### The end of the confirm window (O35) -/

theorem Group.toSpacing_has (v : Group) (waits : Bool) (j : StandId) : (v.toSpacing waits).has j = v.has j := rfl

theorem Group.toSpacing_grant (v : Group) (waits : Bool) :
    (v.toSpacing waits).grant = if v.stagger = 0 then .free else .spacing v.stagger waits := rfl

section
variable {s : State} {k : StandId} {p : FirePlan} {e : Instant}

theorem State.confirmEnded_eq (hstate : (s.stand k).state = .confirm) (hp : (s.stand k).sched.plan = some p)
    (he : p.windowEnd = some e) : s.confirmEnded k = !Instant.before ⟨s.cycle, 0⟩ e := by
  unfold State.confirmEnded FirePlan.timedOut
  rw [hstate, hp]
  dsimp only
  rw [he]
  rfl

/-- R131, R134, R136: the decision of a group that a stand k in CONFIRM has just released. -/
theorem State.endEvent_of_spacing {t : State} {v : Group} {g : GroupId} {waits : Bool} (ht : GroupsAgree t)
    (hgroup : t.group g = v.toSpacing waits) (hurgent : ∀ j, v.has j = true → t.stand j = s.stand j) :
    (v.stagger = 0 →
        ((∀ j, v.has j = false) → (t.endEvent.group g).grant = .free) ∧
        ∀ j, v.has j = true → ∃ j', v.has j' = true ∧ (t.endEvent.group g).grant = .held j' ∧
          (t.endEvent.group g).has j' = false ∧ (t.endEvent.stand j').state = .firingPending) ∧
      (v.stagger ≠ 0 →
        ((∀ j, v.has j = true → (s.stand j).urgent = false) →
          (t.endEvent.group g).grant = .spacing v.stagger waits ∧ ∀ j, (t.endEvent.group g).has j = v.has j) ∧
        ∀ j, v.has j = true → (s.stand j).urgent = true →
          ∃ j', v.has j' = true ∧ (s.stand j').urgent = true ∧ (t.endEvent.group g).grant = .held j' ∧
            (t.endEvent.stand j').state = .firingPending) := by
  have hgrant := congrArg Group.grant hgroup
  rw [Group.toSpacing_grant] at hgrant
  simp only [State.group_endEvent, State.stand_endEvent]
  constructor
  · intro hzero
    rw [if_pos hzero] at hgrant
    have hmay (j : StandId) : t.mayGrant g j = v.has j := by rw [State.mayGrant_of_free hgrant, hgroup, Group.toSpacing_has]
    refine ⟨fun hnone => ?_, fun j hj => ?_⟩
    · rw [State.decideAll_group_of_none fun j => (hmay j).trans (hnone j), hgrant]
    · obtain ⟨j', hj', hdone⟩ := State.decideAll_grants ht ((hmay j).trans hj)
      exact ⟨j', (hmay j').symm.trans hj', hdone⟩
  · intro hlong
    rw [if_neg hlong] at hgrant
    have hmay (j : StandId) : t.mayGrant g j = true ↔ v.has j = true ∧ (s.stand j).urgent = true := by
      rw [State.mayGrant_of_spacing hgrant, hgroup, Group.toSpacing_has, Bool.and_eq_true]
      exact and_congr_right fun hj => by rw [hurgent j hj]
    refine ⟨fun hnone => ?_, fun j hj hju => ?_⟩
    · have hnot (j : StandId) : t.mayGrant g j = false := Bool.eq_false_iff.mpr fun h => by
        obtain ⟨hj, hju⟩ := (hmay j).mp h
        rw [hnone j hj] at hju
        cases hju
      rw [State.decideAll_group_of_none hnot]
      exact ⟨hgrant, fun j => by rw [hgroup, Group.toSpacing_has]⟩
    · obtain ⟨j', hj', hheld, -, hstate⟩ := State.decideAll_grants ht ((hmay j).mpr ⟨hj, hju⟩)
      obtain ⟨hhas, hj'u⟩ := (hmay j').mp hj'
      exact ⟨j', hhas, hj'u, hheld, hstate⟩

end

/-- Settles O35: the fault forms the entry and takes the group to its spacing, and the decision follows. -/
theorem confirmTimeoutLogsNoConfirm : Obligations.ConfirmTimeoutLogsNoConfirm := by
  intro s k p e old new q hreset hs ⟨hlog, hformed⟩ hstate hp he hold hnew hkept
  have hended := State.confirmEnded_eq hstate hp he
  refine ⟨fun hbefore => congrArg Host.Outcome.next (if_neg (by rw [hended, hbefore]; simp)), fun hafter => ?_⟩
  refine ⟨_, congrArg Host.Outcome.next (if_pos (by rw [hreset, hended, hafter]; rfl)), ?_⟩
  have hfault := State.takeFault_of_afterFire (s := s) (k := k) (by rw [hstate]; rfl) .confirmTimeout none
  have hagree := hs.takeFault k .confirmTimeout none
  generalize s.takeFault k .confirmTimeout none = t at hfault hagree
  have hstand : t.stand k = (s.stand k).enterFault .confirmTimeout s.cycle none := by
    rw [hfault, State.stand_setStand_same]
  have hothers : ∀ j, (s.group (s.groupOf k)).has j = true → t.stand j = s.stand j := fun j hj => by
    have hne : j ≠ k := fun h => by
      have hmatched := hs.matched_of_has hj
      rw [h, hstate] at hmatched
      cases hmatched
    rw [hfault, State.stand_setStand_other _ _ hne]
    rfl
  have hgroup : t.group (s.groupOf k) = (s.group (s.groupOf k)).toSpacing s.stepPending := by
    rw [hfault]
    exact State.group_setGroup_same _ _ _
  have hentry := congrArg State.formed hfault
  have htlog : t.log = s.log := (congrArg State.log hfault :)
  have hover : t.overrun = s.overrun := (congrArg State.overrun hfault :)
  have hend : t.endEvent.stand k = t.stand k :=
    State.endEvent_stand_of_not_requests hagree (Stand.requests_eq_false (by rw [hstand]; exact nofun))
  have hjoined := State.endEvent_log_of_formed_one (s := t) (e :=
      { stand := k, outcome := .noConfirm, expiring := old.roll, newRoll := new.record.roll
        width := new.record.width, fire := p.fire, delay := p.delay, clamped := p.clamped
        late := p.late, dRun := p.dRun, lag := none, wait := q.wait, urgent := q.urgent
        forced := q.forced })
    (by
      rw [hentry]
      show s.formed ++ ((s.stand k).logEntry k FaultKind.confirmTimeout.outcome).toList = _
      rw [hformed]
      unfold Stand.logEntry
      rw [hold, hnew, hp, hkept]
      rfl)
    (by rw [htlog]; exact hlog)
  rw [htlog, hover] at hjoined
  rw [hend, hstand]
  refine ⟨rfl, Stand.enterFault_record _ _ _ _, ?_, ?_, ?_, hjoined.1, hjoined.2,
    State.endEvent_of_spacing hagree hgroup hothers⟩
  · unfold Stand.enterFault
    rw [if_neg (by rw [hstate]; exact nofun)]
    exact hnew
  · show (s.stand k).sched.plan.map _ = _
    rw [hp, hstate]
    rfl
  · rw [Stand.enterFault_braking]
    unfold Stand.brakingAtFault
    rw [hstate]
    rfl

/-! ### The work of FIRING-issued and CONFIRM (O40) -/

section
variable {st : Stand} {p : FirePlan} {e : Instant}

theorem Stand.confirmWork_of_accepted (hp : st.sched.plan = some p) (he : p.windowEnd = some e) {o : Nat} {c : Word}
    (h : Instant.before ⟨c - 1, o⟩ e = true) :
    st.confirmWork (some o) c =
      ({ st with sched := { st.sched with plan := some { p with lag := some (confirmLag p.knife ⟨c - 1, o⟩) } } },
        .confirmed) := by
  have haccept : p.accept (some o) c = some { p with lag := some (confirmLag p.knife ⟨c - 1, o⟩) } := by
    unfold FirePlan.accept
    rw [he]
    exact if_pos h
  unfold Stand.confirmWork
  rw [hp]
  dsimp only
  rw [haccept]

theorem Stand.confirmWork_of_not_accepted (hp : st.sched.plan = some p) (he : p.windowEnd = some e) {confirm : Option Nat}
    {c : Word} (h : ∀ o, confirm = some o → Instant.before ⟨c - 1, o⟩ e = false) :
    st.confirmWork confirm c =
      (st, if Instant.before ⟨c, 0⟩ e = true then .stay else .fault .confirmTimeout false) := by
  have haccept : p.accept confirm c = none := by
    unfold FirePlan.accept
    rw [he]
    cases confirm with
    | none => rfl
    | some o => exact if_neg (Bool.eq_false_iff.mp (h o rfl))
  have hended : p.timedOut c = !Instant.before ⟨c, 0⟩ e := by
    unfold FirePlan.timedOut
    rw [he]
  unfold Stand.confirmWork
  rw [hp]
  dsimp only
  rw [haccept]
  dsimp only
  rw [hended]
  cases Instant.before ⟨c, 0⟩ e <;> rfl

/-- R123: the lag runs from the knife instant, and is 0 before it. -/
theorem confirmLag_eq (knife i : Instant) :
    (i.before knife = true → confirmLag knife i = 0) ∧ (i.before knife = false → confirmLag knife i = knife.until i) :=
  ⟨fun h => if_pos h, fun h => if_neg (Bool.eq_false_iff.mp h)⟩

theorem Stand.confirmWork_verdict (st : Stand) (confirm : Option Nat) (c : Word) :
    (st.confirmWork confirm c).2 ∈ [.confirmed, .fault .confirmTimeout false, .stay] := by
  unfold Stand.confirmWork
  split
  · split
    · simp
    · split <;> simp
  · simp

theorem Stand.confirmWork_state (st : Stand) (confirm : Option Nat) (c : Word) :
    (st.confirmWork confirm c).1.state = st.state := by
  unfold Stand.confirmWork
  split
  · split
    · rfl
    · split <;> rfl
  · rfl

end

/-- R107: the scheduler's step outside ACCEL, MATCHED and FIRING-pending has no tape tracking. -/
theorem Stand.schedulerStep_of_not_watched {st : Stand} (h : st.state.watched = false) (hand : StandHand) (stale : Bool)
    (speed : Nat) (c : Word) (first : Nat) :
    st.schedulerStep hand stale speed c first = (st.formTarget speed).schedulerRest hand stale c := by
  unfold Stand.schedulerStep
  rw [h]
  rfl

theorem State.transitions_of_scheduled {s : State} {k : StandId}
    (h : (s.stand k).state ∈ [.accel, .matched, .firingPending, .firingIssued, .confirm]) (hand : StandHand)
    (stale : Bool) (dg : Option Nat) (b : Bool) :
    let r := (s.stand k).schedulerStep hand stale s.lineSpeed s.cycle (Config.firstTravel s.freeIndex k)
    s.transitions k hand stale dg b = (s.setStand k r.1).applyVerdict k r.2 := by
  unfold State.transitions
  dsimp only
  simp only [List.mem_cons, List.not_mem_nil, or_false] at h
  rcases h with h | h | h | h | h <;> rw [h]

/-- Settles O40: by whether a splice-confirm is accepted, then by the verdict of the scheduler's work. -/
theorem confirmIsAcceptedBeforeTimeout : Obligations.ConfirmIsAcceptedBeforeTimeout := by
  refine ⟨fun st p e confirm c hp he => ⟨?_, fun hnot => ?_⟩, fun s k h stale dg b => ⟨fun hstate => ?_, fun hstate => ?_⟩⟩
  · rintro o rfl hbefore
    rw [Stand.confirmWork_of_accepted hp he hbefore]
    obtain ⟨hearly, hlate⟩ := confirmLag_eq p.knife ⟨c - 1, o⟩
    exact ⟨_, rfl, rfl, hearly, hlate⟩
  · rw [Stand.confirmWork_of_not_accepted hp he hnot]
    exact ⟨rfl, rfl⟩
  · have hrest : ((s.stand k).formTarget s.lineSpeed).schedulerRest h stale s.cycle =
        ((s.stand k).formTarget s.lineSpeed).confirmWork h.confirm s.cycle := by
      unfold Stand.schedulerRest
      rw [show ((s.stand k).formTarget s.lineSpeed).state = .confirm from hstate]
    have hstep := State.transitions_of_scheduled (s := s) (k := k) (by rw [hstate]; decide) h stale dg b
    rw [Stand.schedulerStep_of_not_watched (by rw [hstate]; rfl), hrest] at hstep
    refine ⟨fun hv => ?_, fun hv => ?_, fun hv => ?_, Stand.confirmWork_verdict _ _ _⟩
    · rw [hstep, hv]; rfl
    · rw [hstep, hv]; rfl
    · rw [hstep, hv]
      refine State.refreshRequest_of_not_matched _ _ ?_
      rw [State.stand_setStand_same, Stand.confirmWork_state]
      exact fun hm => by rw [show ((s.stand k).formTarget s.lineSpeed).state = .confirm from hstate] at hm; cases hm
  · have hformed : ((s.stand k).formTarget s.lineSpeed).state = .firingIssued := hstate
    have hstep := State.transitions_of_scheduled (s := s) (k := k) (by rw [hstate]; decide) h stale dg b
    rw [Stand.schedulerStep_of_not_watched (by rw [hstate]; rfl)] at hstep
    have hrest : ((s.stand k).formTarget s.lineSpeed).schedulerRest h stale s.cycle =
        ((s.stand k).formTarget s.lineSpeed, .stay) := by
      unfold Stand.schedulerRest
      rw [hformed]
    rw [hstep, hrest]
    refine State.refreshRequest_of_not_matched _ _ ?_
    rw [State.stand_setStand_same, hformed]
    exact nofun

end Sys2Proof.Machine
end

section
/-!
SUPPORT. O41: the entry to SETTLE and the transfer of its contexts, the braking flag, the end of SETTLE, and the binding
of the head in RUNNING.
-/
namespace Sys2Proof.Machine

/-! ### The entry to SETTLE -/

section
variable {s : State} {k : StandId} {st : Stand}

/-- R95: the entry, the release of the group and the transfer, in the order of the rule. -/
theorem State.enterSettle_of_afterFire (h : (s.stand k).state.afterFire = true) :
    s.enterSettle k =
      ((s.formEntry k .spliced).setGroup (s.groupOf k) ((s.group (s.groupOf k)).toSpacing s.stepPending)).setStand k
        ((s.stand k).enterSettle s.grades) := by
  unfold State.enterSettle
  rw [State.leaveGroup_of_afterFire (s := s.formEntry k .spliced) (by exact h)]
  rfl

/-- R75: what the transfer makes of a stand with a ready context. -/
theorem Stand.enterSettle_of_ready {r : ReadyContext} (hr : st.ready = some r) (grades : Vector Grade 16) :
    st.enterSettle grades =
      { st with
        armA := (st.markUnload st.runningArm).armA
        armB := (st.markUnload st.runningArm).armB
        running := some (r.toRunning grades)
        ready := none
        sNew := none
        runningArm := st.readyArm
        state := .settle
        acceptOpen := true
        window := none
        braking := true
        sched := st.sched.stopped } := by
  unfold Stand.enterSettle Stand.transfer
  rw [hr]
  dsimp only
  rw [Stand.markUnload_frame]

theorem Stand.arm_enterSettle {r : ReadyContext} (hr : st.ready = some r) (grades : Vector Grade 16) (x : Arm) :
    (st.enterSettle grades).arm x = (st.markUnload st.runningArm).arm x := by
  rw [Stand.enterSettle_of_ready hr]
  cases x <;> rfl

end

/-! ### The braking flag -/

theorem Stand.brakingStep_of_settle {st : Stand} (h : st.state = .settle) :
    st.brakingStep = { st with braking := st.braking && !st.settled } := if_pos h

theorem Stand.brakingStep_of_not_settle {st : Stand} (h : st.state ≠ .settle) :
    st.brakingStep = { st with braking := st.braking && (st.arm st.readyArm).rate != 0 } := if_neg h

theorem Stand.settled_iff (st : Stand) :
    st.settled = true ↔ (st.arm st.readyArm).spindle.hist.length = 17 ∧ (st.arm st.readyArm).rate = 0 := by
  simp [Stand.settled, historyComplete]

/-- R96: what the braking step leaves set in SETTLE. -/
theorem Stand.braking_of_settle (st : Stand) :
    (st.braking && !st.settled) = true ↔
      st.braking = true ∧ ((st.arm st.readyArm).spindle.hist.length ≠ 17 ∨ (st.arm st.readyArm).rate ≠ 0) := by
  rw [Bool.and_eq_true, Bool.not_eq_true', Bool.eq_false_iff, Ne, Stand.settled_iff, not_and_or]

/-! ### The end of SETTLE -/

theorem Stand.bothHome_iff (st : Stand) : st.bothHome = true ↔ st.status.home = some ⟨true, true⟩ := by
  unfold Stand.bothHome
  rcases st.status.home with _ | ⟨paste, knife⟩
  · simp
  · cases paste <;> cases knife <;> simp

theorem Stand.settleWork_of_not_home {st : Stand} (h : ¬ (st.braking = false ∧ st.status.home = some ⟨true, true⟩)) :
    st.settleWork = st := by
  rw [← Stand.bothHome_iff] at h
  exact if_neg (by simpa using h)

theorem Stand.settleWork_of_home {st : Stand} (h : st.braking = false ∧ st.status.home = some ⟨true, true⟩) :
    st.settleWork = { st with state := .running, forced := false }.tryBind false := by
  rw [← Stand.bothHome_iff] at h
  exact if_pos (by simp [h])

/-- R71: nothing is bound without a mount or a record. -/
theorem Stand.tryBind_of_nothing {st : Stand} (waits : Bool)
    (h : st.braking = true ∨ st.mountPending = false ∨ st.queue = []) : st.tryBind waits = st := by
  refine Stand.tryBind_of_not waits ?_
  rw [Bool.eq_false_iff, Ne, Stand.canBind_iff]
  rintro ⟨-, hbraking, hmount, hqueue⟩
  rcases h with h | h | h
  · exact Bool.false_ne_true (hbraking.symm.trans h)
  · exact Bool.false_ne_true (h.symm.trans hmount)
  · exact hqueue h

/-! ### Transitions of SETTLE and RUNNING -/

section
variable {s : State} {k : StandId}

theorem State.setStand_self (s : State) (k : StandId) : s.setStand k (s.stand k) = s := by
  unfold State.setStand State.stand
  rw [show s.stands.set k s.stands[k] = s.stands from Vector.set_getElem_self _]

theorem State.transitions_of_settle (h : (s.stand k).state = .settle) (hand : StandHand) (stale : Bool)
    (dg : Option Nat) (b : Bool) : s.transitions k hand stale dg b = s.setStand k (s.stand k).settleWork := by
  unfold State.transitions
  dsimp only
  rw [h]

theorem State.transitions_of_running (h : (s.stand k).state = .running) (hand : StandHand) (stale : Bool)
    (dg : Option Nat) (b : Bool) :
    s.transitions k hand stale dg b = if b then s else s.setStand k ((s.stand k).tryBind false) := by
  unfold State.transitions
  dsimp only
  rw [h]

end

/-! ### Changes of reel-present in a controller step -/

section
variable {st : Stand} {h : StandHand}

/-- R69, R73: in RUNNING the changes of the ready arm's reel-present set and clear mount-pending. -/
theorem Stand.reelChanges_of_running (hstate : st.state = .running) (h : StandHand) :
    ∃ p, st.reelChanges h = { st with mountPending := p } ∧
      (p = true ↔ (h.arm st.readyArm).change ≠ some false ∧
        (st.mountPending = true ∨ st.ready = none ∧
          ((h.arm st.readyArm).change = some true ∨
            (h.arm st.readyArm).firstTrue = true ∧ (st.arm st.readyArm).declaredEmpty = true))) := by
  have hedge : st.mountEdge st.readyArm (h.arm st.readyArm) = true ↔ st.ready = none ∧
      ((h.arm st.readyArm).change = some true ∨
        (h.arm st.readyArm).firstTrue = true ∧ (st.arm st.readyArm).declaredEmpty = true) := by
    simp [Stand.mountEdge]
  rw [← hedge]
  by_cases hgone : (h.arm st.readyArm).change = some false
  · have hreel : st.reelChanges h = st.unmount := if_pos hgone
    refine ⟨false, ?_, by simp [hgone]⟩
    rw [hreel, Stand.unmount, hstate]
  · have hreel : st.reelChanges h =
        if st.mountEdge st.readyArm (h.arm st.readyArm) then { st with mountPending := true } else st := if_neg hgone
    by_cases hmount : st.mountEdge st.readyArm (h.arm st.readyArm) = true
    · exact ⟨true, hreel.trans (if_pos hmount), by simp [hgone, hmount]⟩
    · exact ⟨st.mountPending, hreel.trans (if_neg hmount), by simp [hgone, hmount]⟩

theorem Stand.unmount_of_bound (hstate : st.state = .checking ∨ st.state = .ready) :
    st.unmount =
      { { st with mountPending := false }.returnToHead with state := .running, gaugeWindow := none } := by
  unfold Stand.unmount
  generalize { st with mountPending := false } = st1
  rcases hstate with hstate | hstate <;> rw [hstate]

/-- R73: in CHECKING and READY an unmount returns the context and takes the stand to RUNNING. -/
theorem Stand.reelChanges_of_unmounted {c : ReadyContext} (hstate : st.state ∈ [.checking, .ready])
    (hgone : (h.arm st.readyArm).change = some false) (hready : st.ready = some c) (hspent : c.spent = false) :
    st.reelChanges h =
      { st with
        mountPending := false, queue := c.record :: st.queue, ready := none, sNew := none, gaugeWindow := none
        state := .running } := by
  have hreturn := Stand.returnToHead_of_returnable (st := { st with mountPending := false }) hready hspent
  have hreel : st.reelChanges h = st.unmount := if_pos hgone
  rw [hreel, Stand.unmount_of_bound (by simpa using hstate), hreturn]

end

section
variable {s : State} {k : StandId}

/-- R82: what the braking step leaves set outside SETTLE. -/
theorem braking_and_rate (braking : Bool) (rate : Nat) : (braking && rate != 0) = true ↔ ¬ (braking = false ∨ rate = 0) := by
  cases braking <;> simp

/-- R71, R82: the controller step of a stand in RUNNING. -/
theorem State.controllerStep_of_running (hstate : (s.stand k).state = .running) (h : StandHand) (stale : Bool)
    (dg : Option Nat) :
    let st := s.stand k
    let a := h.arm st.readyArm
    ∃ p br, s.controllerStep k h stale dg = s.setStand k ({ st with mountPending := p, braking := br }.tryBind false) ∧
      (p = true ↔ a.change ≠ some false ∧ (st.mountPending = true ∨ st.ready = none ∧
        (a.change = some true ∨ a.firstTrue = true ∧ (st.arm st.readyArm).declaredEmpty = true))) ∧
      (br = true ↔ ¬ (st.braking = false ∨ (st.arm st.readyArm).rate = 0)) := by
  obtain ⟨p, hreel, hp⟩ := Stand.reelChanges_of_running hstate h
  refine ⟨p, _, ?_, hp, braking_and_rate _ _⟩
  have hbrake := Stand.brakingStep_of_not_settle (st := { s.stand k with mountPending := p })
    (show (s.stand k).state ≠ .settle by rw [hstate]; exact nofun)
  unfold State.controllerStep
  dsimp only
  rw [hreel, hbrake, State.transitions_of_running (by rw [State.stand_setStand_same]; exact hstate), bne_self_eq_false,
    if_neg Bool.false_ne_true, State.stand_setStand_same, State.setStand_setStand]
  rfl

/-- R73: the controller step of a stand whose ready reel is taken off in CHECKING or READY. -/
theorem State.controllerStep_of_unmounted {c : ReadyContext} {h : StandHand}
    (hstate : (s.stand k).state ∈ [.checking, .ready]) (hgone : (h.arm (s.stand k).readyArm).change = some false)
    (hready : (s.stand k).ready = some c) (hspent : c.spent = false) (stale : Bool) (dg : Option Nat) :
    ∃ br, (br = true ↔ ¬ ((s.stand k).braking = false ∨ ((s.stand k).arm (s.stand k).readyArm).rate = 0)) ∧
      s.controllerStep k h stale dg = s.setStand k { s.stand k with
        state := .running, braking := br, queue := c.record :: (s.stand k).queue, ready := none
        sNew := none, mountPending := false, gaugeWindow := none } := by
  have hreel := Stand.reelChanges_of_unmounted hstate hgone hready hspent
  refine ⟨_, braking_and_rate _ _, ?_⟩
  have hmoved : ((s.stand k).state != .running) = true := by
    rw [bne_iff_ne]
    rintro hrunning
    rw [hrunning] at hstate
    exact absurd hstate (by decide)
  have hbrake := Stand.brakingStep_of_not_settle (st := { s.stand k with
    mountPending := false, queue := c.record :: (s.stand k).queue, ready := none, sNew := none, gaugeWindow := none
    state := .running }) nofun
  unfold State.controllerStep
  dsimp only
  rw [hreel, hbrake, State.transitions_of_running (by rw [State.stand_setStand_same]), if_pos hmoved]
  rfl

end

/-- Settles O41: the entry to SETTLE is written out, then each state's part of a controller step. -/
theorem settleTransfersContexts : Obligations.SettleTransfersContexts := by
  refine ⟨fun s k old new p q hstate hold hnew hp hq => ?_, fun st => ⟨?_, fun h => ?_, fun h => ?_⟩,
    fun s k h stale dg b hstate => ?_, fun s k h stale dg b hstate => ?_, fun s k h stale dg => ⟨?_, ?_, ?_⟩⟩
  · dsimp only
    have harm := Stand.arm_enterSettle hnew s.grades
    rw [State.enterSettle_of_afterFire (by rw [hstate]; rfl), State.stand_setStand_same, harm, harm,
      Stand.markUnload_arm, Stand.markUnload_arm_other, Stand.enterSettle_of_ready hnew]
    refine ⟨?_, rfl, rfl, rfl, rfl, rfl, rfl, rfl, rfl, rfl, rfl, rfl, rfl, rfl, ?_, fun g hg => ?_,
      fun j hj => State.stand_setStand_other _ _ hj⟩
    · show s.formed ++ ((s.stand k).logEntry k .spliced).toList = _
      unfold Stand.logEntry
      rw [hold, hnew, hp, hq]
      rfl
    · exact congrArg Group.grant (State.group_setGroup_same _ _ _)
    · exact State.group_setGroup_other _ _ hg
  · by_cases h : st.state = .settle
    · rw [Stand.brakingStep_of_settle h]
    · rw [Stand.brakingStep_of_not_settle h]
  · rw [Stand.brakingStep_of_not_settle h]
    simp
  · rw [Stand.brakingStep_of_settle h]
    exact st.braking_of_settle
  · have hstep := State.transitions_of_settle hstate h stale dg b
    refine ⟨fun hnot => ?_, fun hhome hnone => ?_, fun q rest hhome hmount hqueue => ?_⟩
    · rw [hstep, Stand.settleWork_of_not_home hnot, State.setStand_self]
    · rw [hstep, (Stand.settleWork_of_home hhome).trans (Stand.tryBind_of_nothing false (.inr hnone))]
    · rw [hstep, (Stand.settleWork_of_home hhome).trans (Stand.tryBind_of_head false rfl hhome.1 hmount hqueue)]
      rfl
  · have hstep := State.transitions_of_running hstate h stale dg b
    refine ⟨fun hnone => ?_, fun q rest hb hbraking hmount hqueue => ?_⟩
    · rw [hstep]
      split
      case isTrue => rfl
      case isFalse hb => rw [Stand.tryBind_of_nothing false (hnone.resolve_left hb), State.setStand_self]
    · rw [hstep, hb, if_neg Bool.false_ne_true, Stand.tryBind_of_head false hstate hbraking hmount hqueue]
  · intro q qs hstate hrest hpending hqueue
    obtain ⟨p, br, hstep, hp, hbr⟩ := State.controllerStep_of_running hstate h stale dg
    have hbr : br = false := Bool.eq_false_iff.mpr fun hset => hbr.mp hset hrest
    subst hbr
    exact hstep.trans (congrArg (s.setStand k) (Stand.tryBind_of_head false hstate rfl (hp.mpr hpending) hqueue))
  · intro hstate hnot
    obtain ⟨p, br, hstep, hp, hbr⟩ := State.controllerStep_of_running hstate h stale dg
    refine ⟨p, br, ?_, hp, hbr⟩
    refine hstep.trans (congrArg (s.setStand k) (Stand.tryBind_of_nothing false ?_))
    rcases hnot with hnot | hnot
    · rcases not_and_or.mp hnot with hnot | hnot
      · exact .inl (hbr.mpr hnot)
      · exact .inr (.inl (Bool.eq_false_iff.mpr fun hset => hnot (hp.mp hset)))
    · exact .inr (.inr hnot)
  · intro c hstate hgone hready hspent
    exact State.controllerStep_of_unmounted hstate hgone hready hspent stale dg

end Sys2Proof.Machine
end

section
/-!
SUPPORT. O33 and O34: tape tracking and the tape watch, the acceleration timer and the match band, and what their
verdicts make of a stand in ACCEL, MATCHED or FIRING-pending and of its group.
-/
namespace Sys2Proof.Machine

/-! ### A fault in ACCEL, MATCHED or FIRING-pending -/

section
variable {s : State} {k : StandId} {st : Stand}

theorem Stand.enterFault_of_watched (h : st.state.watched = true) (kind : FaultKind) (c : Word) (sig : Option StaleSignal) :
    st.enterFault kind c sig =
      { st with
        state := .fault, record := some (st.latched kind c sig), accelTimer := none, forced := false, braking := true
        sched := { st.sched with target := none, nRef := none, prepared := none } } := by
  have hplan : st.sched.plan.map (·.atFault st.state) = st.sched.plan := by
    have hkept (p : FirePlan) : p.atFault st.state = p :=
      if_neg fun hissued => by rw [hissued] at h; cases h
    simp [hkept]
  have hrecord : some (st.newRecord kind c sig) = some (st.latched kind c sig) := st.enterFault_record kind c sig
  have hbraking : st.brakingAtFault = true := if_pos h
  unfold Stand.enterFault
  rw [hplan, hrecord, hbraking, if_neg fun hchecking => by rw [hchecking] at h; cases h]
  rfl

/-- A stand that keeps its state and group leaves the group as before. -/
theorem State.leaveGroup_setStand (hstate : st.state = (s.stand k).state)
    (hgroup : st.params.group = (s.stand k).params.group) :
    (s.setStand k st).leaveGroup k = (s.leaveGroup k).setStand k st := by
  have hof : (s.setStand k st).groupOf k = s.groupOf k := by
    unfold State.groupOf
    rw [State.stand_setStand_same, hgroup]
  unfold State.leaveGroup
  rw [State.stand_setStand_same, hof, hstate]
  cases (s.stand k).state <;> rfl

/-- R129, R135: what leaving ACCEL, MATCHED or FIRING-pending makes of the groups. -/
theorem State.leaveGroup_groups (s : State) (k : StandId) :
    ((s.stand k).state = .accel → (s.leaveGroup k).group (s.groupOf k) = s.group (s.groupOf k)) ∧
      ((s.stand k).state = .matched → ((s.leaveGroup k).group (s.groupOf k)).has k = false ∧
        ((s.leaveGroup k).group (s.groupOf k)).grant = (s.group (s.groupOf k)).grant ∧
        ∀ j, j ≠ k → ((s.leaveGroup k).group (s.groupOf k)).has j = (s.group (s.groupOf k)).has j) ∧
      ((s.stand k).state = .firingPending →
        (s.leaveGroup k).group (s.groupOf k) = { s.group (s.groupOf k) with grant := .free }) ∧
      ∀ g, g ≠ s.groupOf k → (s.leaveGroup k).group g = s.group g := by
  refine ⟨fun h => ?_, fun h => ?_, fun h => ?_, fun g hg => s.leaveGroup_group_other k hg⟩
  · rw [State.leaveGroup_of_idle (by rw [h]; exact ⟨rfl, nofun⟩)]
  · rw [State.leaveGroup_of_matched h, State.group_setGroup_same]
    exact ⟨by simp [Group.has_remove], rfl, fun j hj => by simp [Group.has_remove, hj]⟩
  · unfold State.leaveGroup
    rw [h]
    exact State.group_setGroup_same _ _ _

/-- R141, R143: a fault with a further fault in the same step, before the fire. -/
theorem State.applyVerdict_fault (h : (s.stand k).state.watched = true) (kind : FaultKind) (further : Bool) :
    s.applyVerdict k (.fault kind further) =
      (s.leaveGroup k).setStand k { (s.stand k).enterFault kind s.cycle none with
        record := some { (s.stand k).latched kind s.cycle none with further := further } } := by
  obtain ⟨hoffline, hfault⟩ := StandState.service_of_watched h
  have hfirst : s.takeFault k kind none = (s.leaveGroup k).setStand k ((s.stand k).enterFault kind s.cycle none) := by
    rw [s.takeFault_of_service k kind none hoffline hfault,
      if_neg (by rw [StandState.afterFire_of_watched h]; exact Bool.false_ne_true)]
    unfold State.modStand
    rw [State.leaveGroup_stand]
  show (if further then (s.takeFault k kind none).takeFault k .accelTimeout none else s.takeFault k kind none) = _
  rw [hfirst]
  have hrecord := (s.stand k).enterFault_record kind s.cycle none
  cases further with
  | false =>
    have hsame : (s.stand k).enterFault kind s.cycle none =
        { (s.stand k).enterFault kind s.cycle none with
          record := some { (s.stand k).latched kind s.cycle none with further := false } } :=
      (congrArg (fun r => { (s.stand k).enterFault kind s.cycle none with record := r }) hrecord :)
    exact congrArg ((s.leaveGroup k).setStand k) hsame
  | true =>
    rw [if_pos rfl, State.takeFault_of_fault _ _ _ _ (by rw [State.stand_setStand_same]; rfl)]
    unfold State.modStand
    rw [State.stand_setStand_same, State.setStand_setStand]
    unfold Stand.markFurther
    rw [hrecord]

end

/-! ### The tape watch (O33) -/

/-- R107, R115: the stand whose tape watch has reached its limit: in ACCEL, with its timer advanced, an acceleration
timeout of the same step is the further fault. -/
def Stand.lostTape (st : Stand) (c : Word) : Stand :=
  { st.enterFault .tapeLost c none with
    record := some { st.latched .tapeLost c none with
      further := st.state == .accel && st.tickAccel.accelExpired } }

section
variable {s : State} {k : StandId} {st : Stand}

theorem Stand.tickAccel_expired (st : Stand) :
    st.tickAccel.accelExpired = decide (4 * st.params.tMatchMax ≤ st.accelTimer.getD 0 + 1) := rfl

theorem Stand.tickAccel_enterFault (st : Stand) (kind : FaultKind) (c : Word) (sig : Option StaleSignal)
    (h : st.state = .accel) : st.tickAccel.enterFault kind c sig = st.enterFault kind c sig := by
  have hwatched : st.state.watched = true := by rw [h]; rfl
  rw [Stand.enterFault_of_watched hwatched, Stand.enterFault_of_watched (st := st.tickAccel) hwatched]
  rfl

/-- R107: the verdict of a lost tape, whether by the row or in a controller step. -/
theorem State.applyVerdict_tapeLost (hwatched : st.state.watched = true) (hstate : st.state = (s.stand k).state)
    (hgroup : st.params.group = (s.stand k).params.group) :
    (s.setStand k (if st.state = .accel then st.tickAccel else st)).applyVerdict k
        (.fault .tapeLost (st.state == .accel && st.tickAccel.accelExpired)) =
      (s.leaveGroup k).setStand k (st.lostTape s.cycle) := by
  by_cases haccel : st.state = .accel
  · rw [if_pos haccel, State.applyVerdict_fault (by rw [State.stand_setStand_same]; exact hwatched),
      State.leaveGroup_setStand (st := st.tickAccel) hstate hgroup, State.setStand_setStand, State.stand_setStand_same,
      Stand.tickAccel_enterFault _ _ _ _ haccel]
    rfl
  · rw [if_neg haccel, State.applyVerdict_fault (by rw [State.stand_setStand_same]; exact hwatched),
      State.leaveGroup_setStand hstate hgroup, State.setStand_setStand, State.stand_setStand_same]
    rfl

theorem Stand.lostTape_of_watched (h : st.state.watched = true) (c : Word) :
    st.lostTape c = { st with
      state := .fault, accelTimer := none, forced := false, braking := true
      record := some { st.latched .tapeLost c none with further := st.state == .accel && st.tickAccel.accelExpired }
      sched := { st.sched with target := none, nRef := none, prepared := none } } := by
  unfold Stand.lostTape
  rw [Stand.enterFault_of_watched h]

/-- R107: a step whose tape tracking reaches the limit makes none of the later items. -/
theorem Stand.schedulerStep_of_lost {hand : StandHand} {first : Nat} (hwatched : st.state.watched = true)
    (hlost : 12288 ≤ (st.trackTape (hand.arm st.readyArm) first).sched.tapeTravel) (stale : Bool) (speed : Nat) (c : Word) :
    let st1 := st.trackTape (hand.arm st.readyArm) first
    st.schedulerStep hand stale speed c first =
      (if st1.state = .accel then st1.tickAccel else st1,
        .fault .tapeLost (st1.state == .accel && st1.tickAccel.accelExpired)) := by
  have hstate := (st.trackTape_sameStanding (hand.arm st.readyArm) first).state
  have hexpired : (st.trackTape (hand.arm st.readyArm) first).tapeExpired = true := decide_eq_true hlost
  unfold Stand.schedulerStep
  dsimp only
  rw [hwatched, if_pos rfl, hexpired, Bool.and_self, if_pos rfl, hstate]
  by_cases haccel : st.state = .accel
  · rw [if_pos haccel, if_pos haccel, haccel]; rfl
  · rw [if_neg haccel, if_neg haccel, beq_eq_false_iff_ne.mpr haccel]; rfl

/-- R107: a step short of the limit goes on with target, reference and the items after them. -/
theorem Stand.schedulerStep_of_tracked {hand : StandHand} {first : Nat} (hwatched : st.state.watched = true)
    (hshort : (st.trackTape (hand.arm st.readyArm) first).sched.tapeTravel < 12288) (stale : Bool) (speed : Nat) (c : Word) :
    st.schedulerStep hand stale speed c first =
      ((st.trackTape (hand.arm st.readyArm) first).formTarget speed).schedulerRest hand stale c := by
  have hexpired : (st.trackTape (hand.arm st.readyArm) first).tapeExpired = false := decide_eq_false (not_le.mpr hshort)
  unfold Stand.schedulerStep
  dsimp only
  rw [hwatched, if_pos rfl, hexpired]
  rfl

theorem latchOf_of_mark {h : ArmHand} {o : Nat} {a0 a1 : Angle} (hmark : h.mark = some o) (hlive : h.wasLive = true)
    (hbefore : h.before = some a0) : latchOf h (some a1) = some (tapeAngle a0 a1 o) := by
  unfold latchOf
  rw [hmark, hbefore]
  exact if_pos hlive

theorem latchOf_of_not {h : ArmHand} {now : Option Angle}
    (hnot : h.mark = none ∨ h.wasLive = false ∨ h.before = none ∨ now = none) : latchOf h now = none := by
  unfold latchOf
  split
  case h_1 hmark hbefore => exact if_neg fun hlive => by simp_all
  case h_2 => rfl

theorem stepTravel_spec (h : ArmHand) (now : Option Angle) (first : Nat) :
    stepTravel h now first < 4096 ∧ (h.refreshed = false → stepTravel h now first = 0) ∧
      ∀ a0 a1, h.refreshed = true → h.before = some a0 → now = some a1 → stepTravel h now first = (a1 - a0).toNat := by
  unfold stepTravel
  refine ⟨?_, fun hr => if_neg (by simp [hr]), fun a0 a1 hr hbefore hnow => ?_⟩
  · split
    · split
      · exact BitVec.isLt _
      · exact Nat.mod_lt _ (by decide)
    · decide
  · rw [if_pos hr, hbefore, hnow]

/-- R113, R115: tape tracking latches, or adds travel. -/
theorem Stand.trackTape_eq (st : Stand) (h : ArmHand) (first : Nat) :
    st.trackTape h first =
      match latchOf h (st.arm st.readyArm).spindle.angle with
      | some x => st.latchTape x
      | none => st.addTapeTravel (stepTravel h (st.arm st.readyArm).spindle.angle first) := rfl

theorem Stand.trackTape_travel_le (st : Stand) (h : ArmHand) (first : Nat) :
    (st.trackTape h first).sched.tapeTravel ≤ 12288 := by
  unfold Stand.trackTape
  dsimp only
  split
  · exact Nat.zero_le _
  · exact Nat.min_le_left _ _

end

/-- What the record of a lost tape says. -/
theorem Stand.lostTape_record (st : Stand) (c : Word) (hwatched : st.state.watched = true) :
    ∃ f, (st.lostTape c).record = some f ∧ f.kind = .tapeLost ∧ f.cycle = c ∧ f.stateAt = st.state ∧
      f.fireIssued = false ∧ f.arm = st.runningArm ∧ f.signal = none ∧
      (f.further = true ↔ st.state = .accel ∧ 4 * st.params.tMatchMax ≤ st.accelTimer.getD 0 + 1) := by
  refine ⟨_, rfl, rfl, rfl, rfl, ?_, rfl, rfl, ?_⟩
  · show (st.latched .tapeLost c none).fireIssued = false
    unfold Stand.latched
    cases hstate : st.state <;> simp_all [StandState.watched]
  · simp [Stand.tickAccel_expired]

theorem State.tapeLost_of_short {s : State} {k : StandId} {travel : Angle}
    (h : (s.stand k).sched.tapeTravel + travel.toNat < 12288) : s.tapeLost k travel = s := by
  have hnot : decide (tapeLimit ≤ (s.stand k).sched.tapeTravel + travel.toNat) = false :=
    decide_eq_false (not_le.mpr h)
  unfold State.tapeLost
  dsimp only
  rw [hnot, Bool.and_false, if_neg Bool.false_ne_true]

theorem State.tapeLost_of_limit {s : State} {k : StandId} {travel : Angle} (hreset : s.inReset = false)
    (hwatched : (s.stand k).state.watched = true) (h : 12288 ≤ (s.stand k).sched.tapeTravel + travel.toNat) :
    s.tapeLost k travel =
      ((s.leaveGroup k).setStand k (((s.stand k).addTapeTravel travel.toNat).lostTape s.cycle)).endEvent := by
  have hdue : s.tapeLost k travel = s.loseTape k travel.toNat :=
    if_pos (by simp [hreset, hwatched, tapeLimit, h])
  have hfurther : (((s.stand k).addTapeTravel travel.toNat).state == .accel &&
      (if ((s.stand k).addTapeTravel travel.toNat).state = .accel then
        ((s.stand k).addTapeTravel travel.toNat).tickAccel else (s.stand k).addTapeTravel travel.toNat).accelExpired) =
      (((s.stand k).addTapeTravel travel.toNat).state == .accel &&
        ((s.stand k).addTapeTravel travel.toNat).tickAccel.accelExpired) := by
    split
    case isTrue => rfl
    case isFalse h => rw [beq_eq_false_iff_ne.mpr h]; rfl
  rw [hdue]
  unfold State.loseTape
  dsimp only
  rw [hfurther, State.applyVerdict_tapeLost (st := (s.stand k).addTapeTravel travel.toNat) hwatched rfl rfl]

/-- The lost tape and the decisions after it: the stand is in FAULT. -/
theorem GroupsAgree.lostTape {s : State} (hs : GroupsAgree s) (k : StandId) {st : Stand}
    (hstanding : (s.stand k).SameStanding st) (hwatched : st.state.watched = true) :
    GroupsAgree ((s.leaveGroup k).setStand k (st.lostTape s.cycle)) := by
  have hidle : (st.lostTape s.cycle).state.Idle := ⟨rfl, nofun⟩
  refine ((hs.agreesBut k).leaveGroup).setStand hidle ?_
  rw [Stand.lostTape_of_watched hwatched]
  exact (hs.inhibitAgrees k).of_sameSetting ⟨hstanding.params, hstanding.pinAsserted, hstanding.pinSettled,
    hstanding.requestInhibit⟩ nofun

/-- Settles O33: by the row, in a controller step, and by whether a mark is latched. -/
theorem tapeWatchFaultsStand : Obligations.TapeWatchFaultsStand := by
  refine ⟨fun s k travel hreset hs hstate => ⟨fun hlimit => ?_, fun hshort => ?_⟩, fun s k h stale dg b hstate => ?_,
    fun st h first => ⟨fun o a0 a1 hmark hlive hbefore hnow => ?_, fun hnot => ?_⟩⟩
  · have hwatched := (StandState.watched_eq_true_iff _).mpr hstate
    have hmid := hs.lostTape k (st := (s.stand k).addTapeTravel travel.toNat) ⟨⟨rfl, rfl, rfl, rfl⟩, rfl⟩ hwatched
    have hfaulted := Stand.lostTape_of_watched (st := (s.stand k).addTapeTravel travel.toNat) hwatched s.cycle
    obtain ⟨f, hf, hkind, hcycle, hat, hissued, harm, hsignal, hfurther⟩ :=
      Stand.lostTape_record ((s.stand k).addTapeTravel travel.toNat) s.cycle hwatched
    refine ⟨_, f, congrArg Host.Outcome.next (State.tapeLost_of_limit hreset hwatched hlimit), ?_⟩
    rw [State.endEvent_stand_of_not_requests hmid (Stand.requests_eq_false
      (by rw [State.stand_setStand_same]; exact nofun)), State.stand_setStand_same]
    refine ⟨rfl, hf, hkind, hcycle, hat, hissued, harm, hsignal, hfurther, ?_⟩
    rw [hfaulted]
    exact ⟨Nat.min_eq_left hlimit, rfl, rfl, rfl, rfl⟩
  · exact congrArg Host.Outcome.next (State.tapeLost_of_short hshort)
  · intro st t g hlost
    have hwatched := (StandState.watched_eq_true_iff _).mpr hstate
    have hstanding := (s.stand k).trackTape_sameStanding (h.arm (s.stand k).readyArm) (Config.firstTravel s.freeIndex k)
    have hwatched' : st.state.watched = true := by rw [hstanding.state]; exact hwatched
    have hstep : t = (s.leaveGroup k).setStand k (st.lostTape s.cycle) := by
      have hscheduled := State.transitions_of_scheduled (s := s) (k := k) (by
        simp only [List.mem_cons, List.not_mem_nil, or_false] at hstate ⊢; tauto) h stale dg b
      rw [Stand.schedulerStep_of_lost hwatched hlost] at hscheduled
      exact hscheduled.trans (State.applyVerdict_tapeLost hwatched' hstanding.state (congrArg Params.group hstanding.params))
    have hgroups := s.leaveGroup_groups k
    have hself : t.stand k = st.lostTape s.cycle := by rw [hstep, State.stand_setStand_same]
    have hgroup (a : GroupId) : t.group a = (s.leaveGroup k).group a := by rw [hstep]; rfl
    have hothers (j : StandId) (hj : j ≠ k) : t.stand j = s.stand j := by
      rw [hstep, State.stand_setStand_other _ _ hj, State.leaveGroup_stand]
    have hframe : t = { s with groups := t.groups, stands := t.stands } := by
      rw [hstep, State.leaveGroup_frame]
      rfl
    have hrecord := st.lostTape_record s.cycle hwatched'
    simp only [hself, hgroup]
    refine ⟨hrecord, ?_⟩
    rw [Stand.lostTape_of_watched hwatched', hstanding.state]
    refine ⟨rfl, rfl, rfl, rfl, rfl, rfl, rfl, le_antisymm ((s.stand k).trackTape_travel_le _ _) hlost, ?_⟩
    obtain ⟨haccel, hmatched, hpending, hother⟩ := hgroups
    exact ⟨haccel, hmatched, hpending, hother, hothers, hframe⟩
  · have hlatch := latchOf_of_mark (a1 := a1) hmark hlive hbefore
    refine ⟨roundDiv ((a1 - a0).toNat * o) 250, roundDiv_isRounded _ _ (by decide), ?_⟩
    rw [Stand.trackTape_eq, hnow, hlatch]
    rfl
  · obtain ⟨hlt, hzero, hsome⟩ := stepTravel_spec h (st.arm st.readyArm).spindle.angle first
    refine ⟨_, hlt, hzero, hsome, ?_⟩
    rw [Stand.trackTape_eq, latchOf_of_not hnot]
    rfl

end Sys2Proof.Machine
end

section
/-! SUPPORT. O34: the acceleration timer and the match band, and the entry to and the exit from MATCHED. -/
namespace Sys2Proof.Machine

/-! ### The items of the scheduler after tape tracking -/

section
variable {st : Stand} {h : StandHand} {stale : Bool} {c : Word} {n v t : Nat}

theorem Stand.bandEntry_of (hv : st.sNew = some v) (ht : st.sched.target = some t) :
    st.bandEntry = true ↔ 0 < t ∧ (v - t + (t - v)) * 1000 ≤ st.params.tol * t := by
  unfold Stand.bandEntry absDiff
  rw [hv, ht]
  simp

theorem Stand.bandExit_of (hv : st.sNew = some v) (ht : st.sched.target = some t) :
    st.bandExit = true ↔ t = 0 ∨ (st.params.tol + st.params.hyst) * t < (v - t + (t - v)) * 1000 := by
  unfold Stand.bandExit absDiff
  rw [hv, ht]
  simp

theorem Stand.accelWork_of (htimer : st.accelTimer = some n) (hv : st.sNew = some v) (ht : st.sched.target = some t) :
    st.accelWork =
      ({ st with accelTimer := some (n + 1) },
        if 4 * st.params.tMatchMax ≤ n + 1 then .fault .accelTimeout false
        else if 0 < t ∧ (v - t + (t - v)) * 1000 ≤ st.params.tol * t then .enterMatched
        else .stay) := by
  have htick : st.tickAccel = { st with accelTimer := some (n + 1) } := by
    unfold Stand.tickAccel
    rw [htimer]
    rfl
  have hexpired : st.tickAccel.accelExpired = true ↔ 4 * st.params.tMatchMax ≤ n + 1 := by
    rw [Stand.tickAccel_expired, htimer]
    exact decide_eq_true_iff
  have hentry : st.tickAccel.bandEntry = true ↔ _ := Stand.bandEntry_of (st := st.tickAccel) hv ht
  unfold Stand.accelWork
  dsimp only
  by_cases hlimit : 4 * st.params.tMatchMax ≤ n + 1
  · rw [if_pos (hexpired.mpr hlimit), if_pos hlimit, htick]
  · rw [if_neg (mt hexpired.mp hlimit), if_neg hlimit]
    by_cases hband : 0 < t ∧ (v - t + (t - v)) * 1000 ≤ st.params.tol * t
    · rw [if_pos (hentry.mpr hband), if_pos hband, htick]
    · rw [if_neg (mt hentry.mp hband), if_neg hband, htick]

theorem Stand.pendingWork_of_inside {hand : ArmHand} (hinside : ¬ st.bandExit = true) :
    st.pendingWork hand stale c =
      (match st.evaluatePaste hand stale c with
        | some p => { st with sched := { st.sched with prepared := some p } }
        | none => st, .stay) := by
  unfold Stand.pendingWork
  rw [if_neg hinside]
  cases st.evaluatePaste hand stale c <;> rfl

theorem Stand.schedulerRest_of_accel (hstate : st.state = .accel) : st.schedulerRest h stale c = st.accelWork := by
  unfold Stand.schedulerRest
  rw [hstate]

theorem Stand.schedulerRest_of_matched (hstate : st.state = .matched) :
    st.schedulerRest h stale c = if st.bandExit then (st, .leaveBand) else (st, .stay) := by
  unfold Stand.schedulerRest
  rw [hstate]

theorem Stand.schedulerRest_of_pending (hstate : st.state = .firingPending) :
    st.schedulerRest h stale c = st.pendingWork (h.arm st.readyArm) stale c := by
  unfold Stand.schedulerRest
  rw [hstate]

end

/-! ### The entry to MATCHED and the exit from the band -/

section
variable {s : State} {k : StandId}

/-- R92, R129, R130: what the refreshed request of a stand in MATCHED changes. -/
theorem State.refreshRequest_of_matched (hstate : (s.stand k).state = .matched) :
    let t := s.refreshRequest k
    (t.stand k = if (s.stand k).requests then
        { s.stand k with requestStart := some ((s.stand k).requestStart.getD s.cycle) } else s.stand k) ∧
      (t.group (s.groupOf k)).has k = (s.stand k).requests ∧
      (t.group (s.groupOf k)).grant = (s.group (s.groupOf k)).grant ∧
      (∀ j, j ≠ k → (t.group (s.groupOf k)).has j = (s.group (s.groupOf k)).has j) ∧
      (∀ g, g ≠ s.groupOf k → t.group g = s.group g) ∧ ∀ j, j ≠ k → t.stand j = s.stand j := by
  dsimp only
  cases hreq : (s.stand k).requests with
  | true =>
    rw [s.refreshRequest_of_requests k hstate hreq, State.group_setGroup_same]
    exact ⟨State.stand_setStand_same _ _ _, by simp [Group.has_add], rfl, fun j hj => by simp [Group.has_add, hj],
      fun g hg => State.group_setGroup_other _ _ hg, fun j hj => State.stand_setStand_other _ _ hj⟩
  | false =>
    rw [s.refreshRequest_of_not_requests k hstate hreq, State.group_setGroup_same]
    exact ⟨rfl, by simp [Group.has_remove], rfl, fun j hj => by simp [Group.has_remove, hj],
      fun g hg => State.group_setGroup_other _ _ hg, fun j _ => rfl⟩

theorem Stand.requests_iff (st : Stand) :
    st.requests = true ↔ st.state = .matched ∧ st.due = true ∧ st.inhibited = false := by
  simp [Stand.requests, and_assoc]

theorem State.applyVerdict_leaveBand (s : State) (k : StandId) :
    s.applyVerdict k .leaveBand = (s.leaveGroup k).setStand k { s.stand k with
      state := .accel
      accelTimer := some 0
      sched := { (s.stand k).sched with prepared := none } } := by
  show s.leaveBand k = _
  unfold State.leaveBand State.modStand
  rw [State.leaveGroup_stand]

/-- R110: what the entry to MATCHED changes. -/
theorem State.applyVerdict_enterMatched (s : State) (k : StandId) :
    let t := s.applyVerdict k .enterMatched
    let joins := (s.stand k).due = true ∧ (s.stand k).inhibited = false
    (joins → t.stand k = { s.stand k with
        state := .matched, accelTimer := none
        requestStart := some ((s.stand k).requestStart.getD s.cycle) }) ∧
      (¬ joins → t.stand k = { s.stand k with state := .matched, accelTimer := none }) ∧
      ((t.group (s.groupOf k)).has k = true ↔ joins) ∧
      (t.group (s.groupOf k)).grant = (s.group (s.groupOf k)).grant ∧
      (∀ j, j ≠ k → (t.group (s.groupOf k)).has j = (s.group (s.groupOf k)).has j) ∧
      (∀ g, g ≠ s.groupOf k → t.group g = s.group g) ∧ ∀ j, j ≠ k → t.stand j = s.stand j := by
  have hrefresh := State.refreshRequest_of_matched
    (s := s.setStand k { s.stand k with state := .matched, accelTimer := none }) (k := k)
    (by rw [State.stand_setStand_same])
  have hof : (s.setStand k { s.stand k with state := .matched, accelTimer := none }).groupOf k = s.groupOf k := by
    unfold State.groupOf
    rw [State.stand_setStand_same]
  have hjoins : { s.stand k with state := .matched, accelTimer := none }.requests = true ↔
      (s.stand k).due = true ∧ (s.stand k).inhibited = false :=
    (Stand.requests_iff _).trans (and_iff_right rfl)
  dsimp only at hrefresh ⊢
  rw [hof, State.stand_setStand_same] at hrefresh
  obtain ⟨hstand, hhas, hgrant, hothers, hgroups, hstands⟩ := hrefresh
  refine ⟨fun h => hstand.trans (if_pos (hjoins.mpr h)), fun h => hstand.trans (if_neg (mt hjoins.mp h)), ?_, hgrant,
    hothers, hgroups, fun j hj => (hstands j hj).trans (State.stand_setStand_other _ _ hj)⟩
  rw [← hjoins, ← hhas]
  rfl

end

/-- R112: the row ACCEL-TIMEOUT. -/
theorem State.accelTimeout_of_accel {s : State} {k : StandId} {n : Nat} (hreset : s.inReset = false)
    (hstate : (s.stand k).state = .accel) (htimer : (s.stand k).accelTimer = some n) :
    s.accelTimeout k =
      if 4 * (s.stand k).params.tMatchMax ≤ n + 1 then
        ((s.setStand k (s.stand k).tickAccel).takeFault k .accelTimeout none).endEvent
      else s := by
  unfold State.accelTimeout
  dsimp only
  rw [Stand.tickAccel_expired, htimer, hreset, show (s.stand k).tickAccel.state = .accel from hstate]
  simp

/-- Settles O34: the row, each state's tests, the tracked step, and the two changes of state. -/
theorem accelerationTimerFaultsStand : Obligations.AccelerationTimerFaultsStand := by
  refine ⟨fun s k n hreset hs hformed hstate htimer => ?_, fun st h stale c n v t hv ht => ⟨fun hstate htimer => ?_,
      fun hstate => ⟨fun hout => ?_, fun hin => ?_⟩, fun hstate => ⟨fun hout => ?_, fun hin => ?_⟩⟩,
    fun s k h stale dg b hstate => ?_, fun s k => ⟨fun _ => s.applyVerdict_enterMatched k, fun hstate => ?_⟩⟩
  · have hrow := State.accelTimeout_of_accel hreset hstate htimer
    refine ⟨fun hlimit => ⟨_, congrArg Host.Outcome.next (hrow.trans (if_pos hlimit)), ?_⟩, fun hshort =>
      congrArg Host.Outcome.next (hrow.trans (if_neg (not_le.mpr hshort)))⟩
    have hticked := (State.setStand_sameRoles (s.stand k).tickAccel_sameRole).groupsAgree hs
    have hwatched : ((s.setStand k (s.stand k).tickAccel).stand k).state.watched = true := by
      rw [State.stand_setStand_same, show (s.stand k).tickAccel.state = .accel from hstate]
      rfl
    obtain ⟨hstand, hlog⟩ := State.takeFault_endEvent_of_watched hticked hformed hwatched .accelTimeout none
    rw [State.stand_setStand_same] at hstand hwatched
    rw [hstand, Stand.enterFault_of_watched hwatched]
    exact ⟨rfl, rfl, rfl, rfl, rfl, rfl, hlog⟩
  · exact (Stand.schedulerRest_of_accel hstate).trans (Stand.accelWork_of htimer hv ht)
  · exact (Stand.schedulerRest_of_matched hstate).trans (if_pos ((Stand.bandExit_of hv ht).mpr hout))
  · exact (Stand.schedulerRest_of_matched hstate).trans (if_neg (mt (Stand.bandExit_of hv ht).mp hin))
  · exact (Stand.schedulerRest_of_pending hstate).trans (if_pos ((Stand.bandExit_of hv ht).mpr hout))
  · exact (Stand.schedulerRest_of_pending hstate).trans
      (Stand.pendingWork_of_inside (mt (Stand.bandExit_of hv ht).mp hin))
  · intro st r hshort
    have hwatched := (StandState.watched_eq_true_iff _).mpr hstate
    have hstep := State.transitions_of_scheduled (s := s) (k := k) (by
      simp only [List.mem_cons, List.not_mem_nil, or_false] at hstate ⊢; tauto) h stale dg b
    rw [Stand.schedulerStep_of_tracked hwatched hshort] at hstep
    exact hstep
  · obtain ⟨-, hmatched, hpending, hother⟩ := s.leaveGroup_groups k
    dsimp only
    rw [State.applyVerdict_leaveBand]
    refine ⟨State.stand_setStand_same _ _ _, fun h => ⟨(hmatched h).1, (hmatched h).2.1⟩,
      fun h => congrArg Group.grant (hpending h), hother, fun j hj => ?_⟩
    rw [State.stand_setStand_other _ _ hj, State.leaveGroup_stand]

end Sys2Proof.Machine
end

section
/-! SUPPORT. O52 and O45: the writes of grade and group table, and the bits of the stand image. -/
namespace Sys2Proof.Machine

/-! ### Writes of grade and group table (O52) -/

section
variable {s : State} {r : Request} {k : StandId} {p : Payload}

/-- R131: a decision looks at grant and requesters, so a change of stagger lengths alone makes none. -/
theorem State.decideChanged_of_same_arbiters {s t : State}
    (h : ∀ g, (s.group g).grant = (t.group g).grant ∧ (s.group g).requesters = (t.group g).requesters) :
    State.decideChanged s t = t := by
  have hnone (g : GroupId) : State.decideChangedGroup s t g = t := if_pos (h g)
  simp [State.decideChanged, allGroups, hnone]

theorem gradeSelector_fields (i : Fin 16) :
    itemClass (BitVec.ofNat 16 (1280 + i.val)) = 5 ∧ itemIndex (BitVec.ofNat 16 (1280 + i.val)) = i.val :=
  ⟨itemClass_ofNat (c := 5) (by omega) (by omega), itemIndex_ofNat (c := 5) (by omega)⟩

theorem groupSelector_fields (g : GroupId) :
    itemClass (BitVec.ofNat 16 (1536 + g.val)) = 6 ∧ itemIndex (BitVec.ofNat 16 (1536 + g.val)) = g.val :=
  ⟨itemClass_ofNat (c := 6) (by omega) (by omega), itemIndex_ofNat (c := 6) (by omega)⟩

theorem exec_writeGradeTableEntry_of_taken (h : s.takesAt r k) (i : Fin 16) :
    exec (.writeGradeTableEntry r (BitVec.ofNat 16 (1280 + i.val)) p) s =
      .next (s.answer r 2 (gradeAnswer (BitVec.ofNat 16 (1280 + i.val)) p s k)) := by
  obtain ⟨hclass, hindex⟩ := gradeSelector_fields i
  have hwritable : writable 5 (BitVec.ofNat 16 (1280 + i.val)) = true := by
    simp [writable, hclass, hindex, classSize]
  change Host.Outcome.next (s.serve r 2 _ _) = _
  rw [hwritable, State.serve_of_taken s r 2 _ k h]

theorem exec_writeGroupTableEntry_of_taken (h : s.takesAt r k) (g : GroupId) :
    exec (.writeGroupTableEntry r (BitVec.ofNat 16 (1536 + g.val)) p) s =
      .next (s.answer r 2 (groupAnswer (BitVec.ofNat 16 (1536 + g.val)) p s k)) := by
  obtain ⟨hclass, hindex⟩ := groupSelector_fields g
  have hwritable : writable 6 (BitVec.ofNat 16 (1536 + g.val)) = true := by
    simp [writable, hclass, hindex, classSize]
  change Host.Outcome.next (s.serve r 2 _ _) = _
  rw [hwritable, State.serve_of_taken s r 2 _ k h]

theorem gradeItem_eq {c b : Nat} (hc : c < 256) (hb : b < 65536) : gradeItem ⟨c, b⟩ = BitVec.ofNat 128 (c + 256 * b) := by
  simp [gradeItem, pack, packNat, Nat.mod_eq_of_lt hc, Nat.mod_eq_of_lt hb]

theorem groupTableItem_eq {v : Group} (h : v.stagger < 2 ^ 32) : groupTableItem v = BitVec.ofNat 128 v.stagger := by
  simp [groupTableItem, pack, packNat, Nat.mod_eq_of_lt (show v.stagger < 4294967296 from h)]

theorem gradeAnswer_of_accepted {sel : BitVec 16} {i : Fin 16} {g : Grade} (hi : Fin.ofNat 16 (itemIndex sel) = i)
    (hg : gradeOf p = some g) : gradeAnswer sel p s k = wrote { s with grades := s.grades.set i g } k sel := by
  subst hi
  unfold gradeAnswer
  rw [hg]

theorem groupAnswer_eq {sel : BitVec 16} {g : GroupId} (hg : Fin.ofNat 4 (itemIndex sel) = g) :
    groupAnswer sel p s k = wrote (s.setGroup g { s.group g with stagger := Payload.bytes p 0 4 }) k sel := by
  subst hg
  rfl

theorem State.item_grade (s : State) (k : StandId) {n : Nat} {i : Fin 16} (hi : Fin.ofNat 16 n = i) :
    s.item k 5 n = some (gradeItem s.grades[i]) := by
  subst hi
  rfl

theorem gradeAnswer_of_refused {sel : BitVec 16} (hg : gradeOf p = none) :
    gradeAnswer sel p s k = refuse s .badValue := by
  unfold gradeAnswer
  rw [hg]

end

/-- Settles O52: the item a write names holds the entry written, and no group has a new grant or requester. -/
theorem tableWritesReplaceOneEntry : Obligations.TableWritesReplaceOneEntry := by
  intro s r k p h
  refine ⟨fun i => ⟨fun hfits => ?_, fun hbad => ?_⟩, fun g => ?_⟩
  · obtain ⟨hclass, hindex⟩ := gradeSelector_fields i
    have hself : Fin.ofNat 16 i.val = i := Fin.ext (Nat.mod_eq_of_lt i.isLt)
    have hwrote := State.answer_wrote (s := s)
      (t := { s with grades := s.grades.set i ⟨Payload.bytes p 0 1, Payload.bytes p 1 2⟩ }) r 2 (k := k)
      (sel := BitVec.ofNat 16 (1280 + i.val)) (p := BitVec.ofNat 128 (Payload.bytes p 0 1 + 256 * Payload.bytes p 1 2))
      rfl rfl (by
        rw [hclass, hindex, State.item_grade _ _ hself]
        simp [gradeItem_eq (Payload.bytes_lt p 0 1) (Payload.bytes_lt p 1 2)])
    have hanswer := gradeAnswer_of_accepted (s := s) (k := k) (p := p) (sel := BitVec.ofNat 16 (1280 + i.val))
      (by rw [hindex, hself]) (if_pos hfits)
    refine ⟨s.grades.set i ⟨Payload.bytes p 0 1, Payload.bytes p 1 2⟩, ?_, by simp, fun j hj => ?_⟩
    · rw [exec_writeGradeTableEntry_of_taken h, hanswer]
      exact congrArg Host.Outcome.next hwrote
    · exact Vector.getElem_set_ne _ _ (fun hij => hj (Fin.ext hij.symm))
  · rw [exec_writeGradeTableEntry_of_taken h, gradeAnswer_of_refused (if_neg hbad), State.answer_refuse]
  · obtain ⟨hclass, hindex⟩ := groupSelector_fields g
    have hself : Fin.ofNat 4 g.val = g := Fin.ext (Nat.mod_eq_of_lt g.isLt)
    have hstagger : Payload.bytes p 0 4 = (p.extractLsb' 0 32).toNat := rfl
    have hlt : Payload.bytes p 0 4 < 2 ^ 32 := Payload.bytes_lt p 0 4
    have hitem : (s.setGroup g { s.group g with stagger := Payload.bytes p 0 4 }).item k
        (itemClass (BitVec.ofNat 16 (1536 + g.val))) (itemIndex (BitVec.ofNat 16 (1536 + g.val))) =
        some (BitVec.ofNat 128 (Payload.bytes p 0 4)) := by
      rw [hclass, hindex]
      show some (groupTableItem (State.group _ (Fin.ofNat 4 g.val))) = _
      rw [hself, State.group_setGroup_same, groupTableItem_eq hlt]
    have hsame := State.decideChanged_of_same_arbiters (s := s)
      (t := s.setGroup g { s.group g with stagger := Payload.bytes p 0 4 }) fun a => by
        rw [State.group_setGroup]
        split
        case isTrue ha => rw [ha]; exact ⟨rfl, rfl⟩
        case isFalse => exact ⟨rfl, rfl⟩
    have hanswer : groupAnswer (BitVec.ofNat 16 (1536 + g.val)) p s k =
        doneWith (s.setGroup g { s.group g with stagger := Payload.bytes p 0 4 }) (BitVec.ofNat 128 (Payload.bytes p 0 4)) := by
      rw [groupAnswer_eq (by rw [hindex, hself]), wrote, hitem]
      rfl
    rw [exec_writeGroupTableEntry_of_taken h, hanswer, ← hstagger]
    unfold State.answer doneWith
    dsimp only
    rw [hsame]
    rfl

end Sys2Proof.Machine
end

section
/-! SUPPORT. O45: the stand image, whose fields stand at their bits (R155 to R157, section 1.11). -/
namespace Sys2Proof.Machine

/-! ### Flags at their bits -/

theorem decide_bit (b : Bool) : decide (bit b = 1) = b := by cases b <;> decide

/-- A code of four bits and three flags above it. -/
theorem flagged_code {c : Nat} (hc : c < 16) (x y z : Bool) :
    let n := c + 16 * bit x + 32 * bit y + 64 * bit z
    n < 128 ∧ n % 16 = c ∧ n.testBit 4 = x ∧ n.testBit 5 = y ∧ n.testBit 6 = z := by
  have hx := bit_le_one x
  have hy := bit_le_one y
  have hz := bit_le_one z
  simp only [Nat.testBit_eq_decide_div_mod_eq]
  refine ⟨by omega, by omega, ?_, ?_, ?_⟩
  · rw [show (c + 16 * bit x + 32 * bit y + 64 * bit z) / 2 ^ 4 % 2 = bit x by omega, decide_bit]
  · rw [show (c + 16 * bit x + 32 * bit y + 64 * bit z) / 2 ^ 5 % 2 = bit y by omega, decide_bit]
  · rw [show (c + 16 * bit x + 32 * bit y + 64 * bit z) / 2 ^ 6 % 2 = bit z by omega, decide_bit]

/-- Four flags from bit 28 on, above a number of 28 bits. -/
theorem getLsbD_flagBits {n : Nat} (hn : n < 2 ^ 28) (a b c d : Bool) :
    let w := BitVec.ofNat 32 (n + 2 ^ 28 * flagBits [a, b, c, d])
    w.getLsbD 28 = a ∧ w.getLsbD 29 = b ∧ w.getLsbD 30 = c ∧ w.getLsbD 31 = d := by
  have hflags : flagBits [a, b, c, d] = bit a + 2 * (bit b + 2 * (bit c + 2 * bit d)) := rfl
  have ha := bit_le_one a
  have hb := bit_le_one b
  have hc := bit_le_one c
  have hd := bit_le_one d
  simp only [BitVec.getLsbD_ofNat, Nat.testBit_eq_decide_div_mod_eq, hflags]
  refine ⟨?_, ?_, ?_, ?_⟩
  · rw [show (n + 2 ^ 28 * (bit a + 2 * (bit b + 2 * (bit c + 2 * bit d)))) / 2 ^ 28 % 2 = bit a by omega, decide_bit]
    rfl
  · rw [show (n + 2 ^ 28 * (bit a + 2 * (bit b + 2 * (bit c + 2 * bit d)))) / 2 ^ 29 % 2 = bit b by omega, decide_bit]
    rfl
  · rw [show (n + 2 ^ 28 * (bit a + 2 * (bit b + 2 * (bit c + 2 * bit d)))) / 2 ^ 30 % 2 = bit c by omega, decide_bit]
    rfl
  · rw [show (n + 2 ^ 28 * (bit a + 2 * (bit b + 2 * (bit c + 2 * bit d)))) / 2 ^ 31 % 2 = bit d by omega, decide_bit]
    rfl

/-! ### Stand fields -/

theorem StandState.code_lt (x : StandState) : x.code < 16 := by cases x <;> decide

theorem Stand.imageField_lt (st : Stand) : st.imageField < 128 := (flagged_code st.state.code_lt _ _ _).1

theorem Stand.queueNeeded_iff (st : Stand) :
    st.queueNeeded = true ↔ st.queue = [] ∧ ∃ n, st.tTs = some n ∧ n ≤ 2 * st.params.tLead := by
  unfold Stand.queueNeeded
  cases st.tTs <;> simp

theorem Stand.attention_iff (st : Stand) :
    st.attention = true ↔ st.state ≠ .offline ∧
      (st.mountPending = true ∨ (st.queue = [] ∧ ∃ n, st.tTs = some n ∧ n ≤ 2 * st.params.tLead) ∨
        (st.state = .running ∧ st.stepUrgent = true)) := by
  unfold Stand.attention
  rw [Bool.and_eq_true, Stand.inService_iff, Bool.or_eq_true, Bool.or_eq_true, Stand.queueNeeded_iff, or_assoc]
  simp

theorem Stand.faultLatched_iff (st : Stand) :
    st.faultLatched = true ↔ st.state ≠ .offline ∧ st.record.isSome = true := by
  rw [Stand.faultLatched, Bool.and_eq_true, Stand.inService_iff]

theorem Stand.inhibitedBit_iff (st : Stand) :
    st.inhibitedBit = true ↔ st.pinAsserted = true ∨ (st.state ≠ .offline ∧ st.requestInhibit = true) := by
  unfold Stand.inhibitedBit
  split
  case isTrue h => simp [Stand.inhibited, (Stand.inService_iff st).mp h]
  case isFalse h => simp [not_not.mp (mt (Stand.inService_iff st).mpr h)]

/-! ### The two payloads -/

/-- Field i of four fields of 7 bits, and the bits above them. -/
theorem State.imageQuad_fields (s : State) (k0 k1 k2 k3 : StandId) :
    let n := s.imageQuad k0 k1 k2 k3
    n < 2 ^ 28 ∧ n % 2 ^ 7 = (s.stand k0).imageField ∧ n / 2 ^ 7 % 2 ^ 7 = (s.stand k1).imageField ∧
      n / 2 ^ 14 % 2 ^ 7 = (s.stand k2).imageField ∧ n / 2 ^ 21 % 2 ^ 7 = (s.stand k3).imageField := by
  have h0 := (s.stand k0).imageField_lt
  have h1 := (s.stand k1).imageField_lt
  have h2 := (s.stand k2).imageField_lt
  have h3 := (s.stand k3).imageField_lt
  unfold State.imageQuad
  dsimp only
  omega

theorem toNat_extract_ofNat (n i w : Nat) :
    ((BitVec.ofNat 32 n).extractLsb' i w).toNat = n % 2 ^ 32 / 2 ^ i % 2 ^ w := by
  rw [BitVec.extractLsb'_toNat, BitVec.toNat_ofNat, Nat.shiftRight_eq_div_pow]

theorem StandId.low_cases : ∀ k : StandId, k.val < 4 → k = 0 ∨ k = 1 ∨ k = 2 ∨ k = 3 := by decide

theorem StandId.high_cases : ∀ k : StandId, 4 ≤ k.val → k = 4 ∨ k = 5 ∨ k = 6 ∨ k = 7 := by decide

theorem State.image0_field (s : State) (k : StandId) (hk : k.val < 4) :
    (s.image0.extractLsb' (7 * k.val) 7).toNat = (s.stand k).imageField := by
  obtain ⟨hlt, h0, h1, h2, h3⟩ := s.imageQuad_fields 0 1 2 3
  rw [State.image0, toNat_extract_ofNat]
  generalize s.imageQuad 0 1 2 3 = n at hlt h0 h1 h2 h3
  rcases StandId.low_cases k hk with rfl | rfl | rfl | rfl
  · rw [← h0]
    show (n + 2 ^ 28 * s.partByte) % 2 ^ 32 / 2 ^ 0 % 2 ^ 7 = _
    omega
  · rw [← h1]
    show (n + 2 ^ 28 * s.partByte) % 2 ^ 32 / 2 ^ 7 % 2 ^ 7 = _
    omega
  · rw [← h2]
    show (n + 2 ^ 28 * s.partByte) % 2 ^ 32 / 2 ^ 14 % 2 ^ 7 = _
    omega
  · rw [← h3]
    show (n + 2 ^ 28 * s.partByte) % 2 ^ 32 / 2 ^ 21 % 2 ^ 7 = _
    omega

theorem State.image1_field (s : State) (k : StandId) (hk : 4 ≤ k.val) :
    (s.image1.extractLsb' (7 * (k.val - 4)) 7).toNat = (s.stand k).imageField := by
  obtain ⟨hlt, h0, h1, h2, h3⟩ := s.imageQuad_fields 4 5 6 7
  rw [State.image1, toNat_extract_ofNat, Nat.mod_eq_of_lt (a := s.imageQuad 4 5 6 7) (by omega)]
  rcases StandId.high_cases k hk with rfl | rfl | rfl | rfl
  · rw [← h0]
    exact congrArg (· % 2 ^ 7) (Nat.div_one _)
  · exact h1
  · exact h2
  · exact h3

theorem State.image1_high (s : State) : s.image1.extractLsb' 28 4 = 0#4 := by
  obtain ⟨hlt, -⟩ := s.imageQuad_fields 4 5 6 7
  apply BitVec.eq_of_toNat_eq
  rw [State.image1, toNat_extract_ofNat, Nat.mod_eq_of_lt (a := s.imageQuad 4 5 6 7) (by omega), Nat.div_eq_of_lt hlt]
  rfl

theorem any_allStands_iff (f : StandId → Bool) : (allStands.any f) = true ↔ ∃ k, f k = true := by
  simp [List.any_eq_true, mem_allStands]

/-- R91: urgency, for a part with and without a running context. -/
theorem Stand.urgent_iff (st : Stand) :
    st.urgent = true ↔ st.diameterValid = true ∧ st.dRun ≤ min st.params.dEmerg st.spliceDiameter := by
  unfold Stand.urgent Stand.diameterValid Stand.dRun
  cases st.running <;> simp

/-- Settles O45: the fields of four stands lie side by side, the flags of the part above those of the first four. -/
theorem imageCarriesEveryStand : Obligations.ImageCarriesEveryStand := by
  intro s
  obtain ⟨hlt, -⟩ := s.imageQuad_fields 0 1 2 3
  obtain ⟨hlog, hover, hclaim, hlink⟩ := getLsbD_flagBits hlt (!s.log.isEmpty) s.overrun
    (allStands.any fun k => (s.stand k).claimLost) (allStands.any fun k => (s.stand k).linkLoss)
  refine ⟨s.image0_field, s.image1_field, fun k => ?_, ?_, hover, ?_, ?_, s.image1_high, rfl, fun st speed => ?_⟩
  · obtain ⟨-, hcode, hfault, hinhibited, hattention⟩ := flagged_code (s.stand k).state.code_lt
      (s.stand k).faultLatched (s.stand k).inhibitedBit (s.stand k).attention
    refine ⟨hcode, ?_, ?_, ?_⟩
    · rw [← Stand.faultLatched_iff, ← hfault]; rfl
    · rw [← Stand.inhibitedBit_iff, ← hinhibited]; rfl
    · rw [← Stand.attention_iff, ← hattention]; rfl
  · have hempty : (!s.log.isEmpty) = true ↔ s.log ≠ [] := by simp
    rw [← hempty, ← hlog]; rfl
  · rw [← any_allStands_iff, ← hclaim]; rfl
  · rw [← any_allStands_iff, ← hlink]; rfl
  · exact Stand.urgent_iff st

end Sys2Proof.Machine
end

section
/-! SUPPORT. O53: the header word of a service request holds its fields, and decoding reads them back (R13, R20). -/
namespace Sys2Proof.Machine

/-! ### The fields of a request header -/

section
variable (r : Request) (kind : BitVec 4) (sel : BitVec 16)

theorem requestTarget_requestHeader : requestTarget (requestHeader r kind sel) = r.target := by
  ext i hi
  simp [requestTarget, requestHeader]
  grind

theorem requestKind_requestHeader : requestKind (requestHeader r kind sel) = kind := by
  ext i hi
  simp [requestKind, requestHeader]
  grind

theorem requestStand_requestHeader : requestStand (requestHeader r kind sel) = r.stand := by
  ext i hi
  simp [requestStand, requestHeader]
  grind

theorem requestSelector_requestHeader : requestSelector (requestHeader r kind sel) = sel := by
  ext i hi
  simp [requestSelector, requestHeader]
  grind

/-- The first 13 bits of a header are target, kind and stand index. -/
theorem extract_requestHeader (h : BitVec 32) :
    (requestHeader ⟨requestTarget h, requestStand h⟩ (requestKind h) sel).extractLsb' 0 13 = h.extractLsb' 0 13 := by
  ext i hi
  simp [requestTarget, requestStand, requestKind, requestHeader]
  grind

end

/-! ### Decoding a header -/

section
variable {c : Instr} {h : BitVec 32} {p : Payload}

/-- What `decodeRequest` makes of a header from its fields. -/
theorem decodeRequest_requestHeader (r : Request) (kind : BitVec 4) (sel : BitVec 16) (p : Payload) :
    decodeRequest (requestHeader r kind sel) p =
      match kind.toNat with
      | 1 => .readItem r sel
      | 2 => decodeWrite r sel p
      | 3 => .queueReel r p
      | 4 => .withdrawReel r p
      | 5 => .standOnline r sel p
      | 6 => .standOffline r
      | 7 => .inhibit r
      | 8 => .release r
      | 9 => .spliceNow r
      | 10 => .clearFault r sel
      | 11 => .readLog r sel
      | 12 => .ackLog r
      | _ => .unknownKindRequest r kind := by
  unfold decodeRequest
  dsimp only
  rw [requestTarget_requestHeader, requestKind_requestHeader, requestStand_requestHeader,
    requestSelector_requestHeader] <;> rfl

theorem decodeRequest_of_unknown (r : Request) {kind : BitVec 4} (sel : BitVec 16) (p : Payload)
    (hkind : unknownKind kind = true) : decodeRequest (requestHeader r kind sel) p = .unknownKindRequest r kind := by
  rw [decodeRequest_requestHeader]
  simp only [unknownKind, Bool.or_eq_true, beq_iff_eq, decide_eq_true_eq] at hkind
  rcases hkind with rfl | hkind
  · rfl
  · split
    case h_13 => rfl
    all_goals omega

/-- The row of a WRITE-ITEM, by the class of its selector. -/
theorem decodeWrite_of_class (r : Request) {sel : BitVec 16} (p : Payload) {n : Nat} : itemClass sel = n →
    decodeWrite r sel p =
      match n with
      | 2 => .writeSlotMapEntry r sel p
      | 3 => .writeLineMap r sel p
      | 4 => .writeImageMap r sel p
      | 5 => .writeGradeTableEntry r sel p
      | 6 => .writeGroupTableEntry r sel p
      | _ => .writeStandParameter r sel p := by
  rintro rfl
  rfl

/-- R171: a WRITE-ITEM of a class that has no row decodes to the row of class 1 (log 17). -/
theorem decodeWrite_of_not_other (r : Request) {sel : BitVec 16} (p : Payload)
    (hclass : otherWritableClass (itemClass sel) = false) : decodeWrite r sel p = .writeStandParameter r sel p := by
  simp only [otherWritableClass, Bool.and_eq_false_iff, decide_eq_false_iff_not] at hclass
  unfold decodeWrite
  split
  case h_6 => rfl
  all_goals omega

theorem decodeWrite_wellFormed (r : Request) (sel : BitVec 16) (p : Payload) :
    WellFormed (decodeWrite r sel p) = true ∧ encodeRequest (decodeWrite r sel p) = some (requestHeader r 2 sel, p) := by
  by_cases hother : otherWritableClass (itemClass sel) = true
  · simp only [otherWritableClass, Bool.and_eq_true, decide_eq_true_eq] at hother
    have hclass : itemClass sel = 2 ∨ itemClass sel = 3 ∨ itemClass sel = 4 ∨ itemClass sel = 5 ∨ itemClass sel = 6 := by
      omega
    rcases hclass with hclass | hclass | hclass | hclass | hclass
    all_goals
      rw [decodeWrite_of_class r p hclass]
      exact ⟨beq_iff_eq.mpr hclass, rfl⟩
  · rw [Bool.not_eq_true] at hother
    rw [decodeWrite_of_not_other r p hother]
    exact ⟨by simp [WellFormed, hother], rfl⟩

/-- Every field decodes to a well-formed request with the target, kind and stand index of the field. -/
theorem decodeRequest_encodes (h : BitVec 32) (p : Payload) :
    WellFormed (decodeRequest h p) = true ∧
      ∃ sel p', encodeRequest (decodeRequest h p) =
        some (requestHeader ⟨requestTarget h, requestStand h⟩ (requestKind h) sel, p') := by
  have hkind {n : Nat} (hn : (requestKind h).toNat = n) : requestKind h = BitVec.ofNat 4 n := by
    rw [← hn, BitVec.ofNat_toNat, BitVec.setWidth_eq]
  unfold decodeRequest
  dsimp only
  split
  case h_2 hn =>
    obtain ⟨hwell, hencode⟩ := decodeWrite_wellFormed ⟨requestTarget h, requestStand h⟩ (requestSelector h) p
    rw [hkind hn]
    exact ⟨hwell, _, _, hencode⟩
  case h_13 =>
    refine ⟨?_, _, _, rfl⟩
    simp only [WellFormed, unknownKind, Bool.or_eq_true, beq_iff_eq, decide_eq_true_eq, imp_false] at *
    rw [← BitVec.toNat_inj]
    show (requestKind h).toNat = 0 ∨ _
    omega
  all_goals
    rename_i hn
    rw [hkind hn]
    exact ⟨rfl, _, _, rfl⟩

/-- Decoding the field of a well-formed request gives the request back. -/
theorem decodeRequest_encodeRequest (hencode : encodeRequest c = some (h, p)) (hwell : WellFormed c = true) :
    decodeRequest h p = c := by
  cases c with
  | writeStandParameter r sel p' =>
    obtain ⟨rfl, rfl⟩ := Prod.mk.inj (Option.some.inj hencode)
    exact (decodeRequest_requestHeader r 2 sel _).trans (decodeWrite_of_not_other r _ (by simpa [WellFormed] using hwell))
  | writeSlotMapEntry r sel p' =>
    obtain ⟨rfl, rfl⟩ := Prod.mk.inj (Option.some.inj hencode)
    exact (decodeRequest_requestHeader r 2 sel _).trans (decodeWrite_of_class r _ (beq_iff_eq.mp hwell))
  | writeLineMap r sel p' =>
    obtain ⟨rfl, rfl⟩ := Prod.mk.inj (Option.some.inj hencode)
    exact (decodeRequest_requestHeader r 2 sel _).trans (decodeWrite_of_class r _ (beq_iff_eq.mp hwell))
  | writeImageMap r sel p' =>
    obtain ⟨rfl, rfl⟩ := Prod.mk.inj (Option.some.inj hencode)
    exact (decodeRequest_requestHeader r 2 sel _).trans (decodeWrite_of_class r _ (beq_iff_eq.mp hwell))
  | writeGradeTableEntry r sel p' =>
    obtain ⟨rfl, rfl⟩ := Prod.mk.inj (Option.some.inj hencode)
    exact (decodeRequest_requestHeader r 2 sel _).trans (decodeWrite_of_class r _ (beq_iff_eq.mp hwell))
  | writeGroupTableEntry r sel p' =>
    obtain ⟨rfl, rfl⟩ := Prod.mk.inj (Option.some.inj hencode)
    exact (decodeRequest_requestHeader r 2 sel _).trans (decodeWrite_of_class r _ (beq_iff_eq.mp hwell))
  | unknownKindRequest r kind =>
    obtain ⟨rfl, rfl⟩ := Prod.mk.inj (Option.some.inj hencode)
    exact decodeRequest_of_unknown r 0 0 hwell
  | _ =>
    cases hencode
    all_goals exact decodeRequest_requestHeader _ _ _ _

end

/-- Settles O53: decoding inverts encoding on well-formed requests, to which every field decodes. -/
theorem decodeInvertsEncode : Obligations.DecodeInvertsEncode := by
  refine ⟨fun c h p => decodeRequest_encodeRequest, fun c => by cases c <;> rfl, fun h p => ?_⟩
  obtain ⟨hwell, sel, p', hencode⟩ := decodeRequest_encodes h p
  exact ⟨hwell, _, p', hencode, extract_requestHeader sel h, decodeRequest_encodeRequest hencode hwell⟩

end Sys2Proof.Machine
end

section
/-!
SUPPORT. O54: numbers and slots as bytes (R1, R2, R20, section 1.11): the bytes of a frame decode to it, and bytes of a
frame's length are the bytes of the frame they decode to.
-/
namespace Sys2Proof.Machine

/-! ### Numbers as bytes -/

theorem byteAt_drop (l : List Byte) (b i : Nat) : byteAt (l.drop b) i = byteAt l (b + i) := by
  simp [byteAt, List.getD_eq_getElem?_getD]

theorem byteAt_append_left {l : List Byte} (t : List Byte) {i : Nat} (h : i < l.length) :
    byteAt (l ++ t) i = byteAt l i := by
  simp [byteAt, List.getD_eq_getElem?_getD, List.getElem?_append_left h]

theorem byteAt_of_lt {l : List Byte} {i : Nat} (h : i < l.length) : byteAt l i = l[i] := by
  simp [byteAt, List.getD_eq_getElem?_getD, h]

theorem wordAt_lt (l : List Byte) (b n : Nat) : wordAt l b n < 256 ^ n := by
  induction n generalizing b with
  | zero => exact Nat.one_pos
  | succ n ih =>
    have hbyte := (byteAt l b).isLt
    have hrest := ih (b + 1)
    rw [wordAt, Nat.pow_succ']
    omega

theorem wordAt_drop (l : List Byte) (b i n : Nat) : wordAt (l.drop b) i n = wordAt l (b + i) n := by
  induction n generalizing i with
  | zero => rfl
  | succ n ih => rw [wordAt, wordAt, byteAt_drop, ih, Nat.add_assoc]

theorem wordAt_cons (x : Byte) (l : List Byte) (n : Nat) : wordAt (x :: l) 0 (n + 1) = x.toNat + 256 * wordAt l 0 n := by
  have htail := wordAt_drop (x :: l) 1 0 n
  rw [wordAt, ← htail]
  rfl

theorem bytesOf_length (v n : Nat) : (bytesOf v n).length = n := by
  induction n generalizing v with
  | zero => rfl
  | succ n ih => rw [bytesOf, List.length_cons, ih]

/-- R20: the bytes of a number read back as the number, as far as they hold it. -/
theorem wordAt_bytesOf_append (v n : Nat) (t : List Byte) : wordAt (bytesOf v n ++ t) 0 n = v % 256 ^ n := by
  induction n generalizing v with
  | zero => simp [wordAt, Nat.mod_one]
  | succ n ih =>
    have hbyte : (BitVec.ofNat 8 v).toNat = v % 256 := rfl
    rw [bytesOf, List.cons_append, wordAt_cons, ih, hbyte, Nat.pow_succ', Nat.mod_mul]

/-- R20: bytes are those of the number they hold. -/
theorem bytesOf_wordAt (l : List Byte) (b n : Nat) (h : b + n ≤ l.length) :
    bytesOf (wordAt l b n) n = (l.drop b).take n := by
  induction n generalizing b with
  | zero => rfl
  | succ n ih =>
    have hfirst := byteAt_of_lt (l := l) (i := b) (by omega)
    have hbyte : BitVec.ofNat 8 ((byteAt l b).toNat + 256 * wordAt l (b + 1) n) = byteAt l b := by
      apply BitVec.eq_of_toNat_eq
      rw [BitVec.toNat_ofNat]
      omega
    have hrest : ((byteAt l b).toNat + 256 * wordAt l (b + 1) n) / 256 = wordAt l (b + 1) n := by omega
    rw [wordAt, bytesOf, hbyte, hrest, ih (b + 1) (by omega), List.drop_eq_getElem_cons (i := b) (by omega),
      List.take_succ_cons, hfirst]

/-! ### Slots as bytes -/

theorem slotBytes_length (sl : Slot) : (slotBytes sl).length = 5 := by
  rw [slotBytes, List.length_cons, bytesOf_length]

theorem slotHeader_count (sl : Slot) : (slotHeader sl).extractLsb' 0 3 = sl.count := by
  ext i hi
  simp [slotHeader]
  grind

theorem slotHeader_tag (sl : Slot) : (slotHeader sl).extractLsb' 3 5 = sl.tag := by
  ext i hi
  rw [BitVec.getElem_extractLsb', slotHeader, BitVec.getLsbD_append]
  simp [BitVec.getLsbD_eq_getElem hi]

theorem slotHeader_decodeSlot (x : Byte) (w : BitVec 32) : slotHeader (decodeSlot x w) = x := by
  ext i hi
  simp [slotHeader, decodeSlot]
  grind

/-- Section 1.11: a slot read back from its bytes. -/
theorem decodeSlot_slotBytes (sl : Slot) (t : List Byte) :
    decodeSlot (byteAt (slotBytes sl ++ t) 0) (BitVec.ofNat 32 (wordAt (slotBytes sl ++ t) 1 4)) = sl := by
  have hpayload : wordAt (slotBytes sl ++ t) 1 4 = sl.payload.toNat := by
    have htail := wordAt_drop (slotBytes sl ++ t) 1 0 4
    rw [← htail]
    exact (wordAt_bytesOf_append sl.payload.toNat 4 t).trans (Nat.mod_eq_of_lt sl.payload.isLt)
  rw [hpayload, BitVec.ofNat_toNat, BitVec.setWidth_eq]
  show decodeSlot (slotHeader sl) sl.payload = sl
  rw [decodeSlot, slotHeader_count, slotHeader_tag]

theorem slotBytes_slotAt (l : List Byte) (k : Nat) (h : 7 + 5 * k ≤ l.length) :
    slotBytes (slotAt l k) = (l.drop (2 + 5 * k)).take 5 := by
  have hpayload : (slotAt l k).payload.toNat = wordAt l (3 + 5 * k) 4 :=
    Nat.mod_eq_of_lt (wordAt_lt l (3 + 5 * k) 4)
  have hheader := byteAt_of_lt (l := l) (i := 2 + 5 * k) (by omega)
  rw [slotBytes, hpayload, bytesOf_wordAt l _ _ (by omega), List.drop_eq_getElem_cons (i := 2 + 5 * k) (by omega),
    List.take_succ_cons, show 2 + 5 * k + 1 = 3 + 5 * k by omega, ← hheader]
  exact congrArg (· :: _) (slotHeader_decodeSlot _ _)

/-! ### Frames as bytes -/

section
variable (c : Nat) (l : List Slot) (t : List Byte)

theorem flatMap_slotBytes_length (l : List Slot) : (l.flatMap slotBytes).length = 5 * l.length := by
  induction l with
  | nil => rfl
  | cons sl l ih => rw [List.flatMap_cons, List.length_append, slotBytes_length, ih, List.length_cons]; omega

theorem drop_flatMap_slotBytes (k : Nat) :
    (l.flatMap slotBytes ++ t).drop (5 * k) = (l.drop k).flatMap slotBytes ++ t.drop (5 * k - 5 * l.length) := by
  induction k generalizing l with
  | zero => simp
  | succ k ih =>
    cases l with
    | nil => simp
    | cons sl l =>
      have hfive := slotBytes_length sl
      rw [List.flatMap_cons, List.append_assoc, show 5 * (k + 1) = (slotBytes sl).length + 5 * k by omega,
        List.drop_length_add_append, ih, List.drop_succ_cons, List.length_cons,
        show (slotBytes sl).length + 5 * k - 5 * (l.length + 1) = 5 * k - 5 * l.length by omega]

/-- The bytes of a frame after its cycle number. -/
theorem drop_frame (k : Nat) (hk : k ≤ l.length) :
    (bytesOf c 2 ++ l.flatMap slotBytes ++ t).drop (2 + 5 * k) = (l.drop k).flatMap slotBytes ++ t := by
  have hzero : 5 * k - 5 * l.length = 0 := by omega
  rw [List.append_assoc, show 2 + 5 * k = (bytesOf c 2).length + 5 * k by rw [bytesOf_length],
    List.drop_length_add_append, drop_flatMap_slotBytes, hzero, List.drop_zero]

theorem wordAt_frame_cycle (hc : c < 2 ^ 16) : wordAt (bytesOf c 2 ++ l.flatMap slotBytes ++ t) 0 2 = c := by
  rw [List.append_assoc, wordAt_bytesOf_append]
  exact Nat.mod_eq_of_lt hc

theorem slotAt_eq_drop (l : List Byte) (k : Nat) :
    slotAt l k =
      decodeSlot (byteAt (l.drop (2 + 5 * k)) 0) (BitVec.ofNat 32 (wordAt (l.drop (2 + 5 * k)) 1 4)) := by
  rw [byteAt_drop, wordAt_drop, show 2 + 5 * k + 1 = 3 + 5 * k by omega]
  rfl

theorem slotAt_frame (k : Nat) (hk : k < l.length) : slotAt (bytesOf c 2 ++ l.flatMap slotBytes ++ t) k = l[k] := by
  have hdrop := drop_frame c l t k hk.le
  rw [List.drop_eq_getElem_cons hk, List.flatMap_cons, List.append_assoc (slotBytes l[k])] at hdrop
  rw [slotAt_eq_drop, hdrop]
  exact decodeSlot_slotBytes _ _

theorem wordAt_frame_field {n v : Nat} (hv : v < 256 ^ n) :
    wordAt (bytesOf c 2 ++ l.flatMap slotBytes ++ bytesOf v n) (2 + 5 * l.length) n = v := by
  have hword := wordAt_drop (bytesOf c 2 ++ l.flatMap slotBytes ++ bytesOf v n) (2 + 5 * l.length) 0 n
  have hback := wordAt_bytesOf_append v n []
  rw [List.append_nil] at hback
  rw [drop_frame c l _ l.length le_rfl, List.drop_length] at hword
  exact hword.symm.trans (hback.trans (Nat.mod_eq_of_lt hv))

theorem frame_length (v n : Nat) :
    (bytesOf c 2 ++ l.flatMap slotBytes ++ bytesOf v n).length = 2 + 5 * l.length + n := by
  rw [List.length_append, List.length_append, bytesOf_length, bytesOf_length, flatMap_slotBytes_length]

/-- Slots read from bytes, written back. -/
theorem flatMap_slotAt (b : List Byte) (n : Nat) (h : 2 + 5 * n ≤ b.length) :
    (List.ofFn fun k : Fin n => slotAt b k.val).flatMap slotBytes = (b.drop 2).take (5 * n) := by
  induction n with
  | zero => simp
  | succ n ih =>
    rw [List.ofFn_succ_last, List.flatMap_append]
    have hlast : ([slotAt b (Fin.last n).val] : List Slot).flatMap slotBytes = (b.drop (2 + 5 * n)).take 5 := by
      rw [List.flatMap_singleton, Fin.val_last, slotBytes_slotAt b n (by omega)]
    have hfirst : (List.ofFn fun k : Fin n => slotAt b k.castSucc.val).flatMap slotBytes = (b.drop 2).take (5 * n) :=
      ih (by omega)
    rw [hlast, hfirst, show 5 * (n + 1) = 5 * n + 5 by omega, List.take_add, List.drop_drop]

/-- Bytes of a frame's length, read and written back. -/
theorem frame_of_bytes (b : List Byte) (n m : Nat) (h : b.length = 2 + 5 * n + m) :
    bytesOf (wordAt b 0 2) 2 ++ (List.ofFn fun k : Fin n => slotAt b k.val).flatMap slotBytes ++
      bytesOf (wordAt b (2 + 5 * n) m) m = b := by
  rw [bytesOf_wordAt b 0 2 (by omega), flatMap_slotAt b n (by omega), bytesOf_wordAt b (2 + 5 * n) m (by omega)]
  have hend : (b.drop (2 + 5 * n)).take m = b.drop (2 + 5 * n) := List.take_of_length_le (by simp; omega)
  rw [hend, List.drop_zero, ← List.take_add, List.take_append_drop]

end

/-! ### The two frames -/

theorem retFrameBytes_length (f : RetFrame) : (retFrameBytes f).length = 502 := by
  rw [retFrameBytes, frame_length, Vector.length_toList]

theorem outFrameBytes_length (f : OutFrame) : (outFrameBytes f).length = 262 := by
  rw [outFrameBytes, frame_length, Vector.length_toList]

theorem decodeRetFrame_bytes (f : RetFrame) : decodeRetFrame (retFrameBytes f) = f := by
  have hlength : f.slots.toList.length = 96 := f.slots.length_toList
  have hcycle := wordAt_frame_cycle f.cycle.toNat f.slots.toList (bytesOf f.reply.toNat 20) f.cycle.isLt
  have hreply := wordAt_frame_field f.cycle.toNat f.slots.toList (n := 20) (v := f.reply.toNat) f.reply.isLt
  rw [hlength] at hreply
  have hslots : (Vector.ofFn fun k : Fin 96 => slotAt (retFrameBytes f) k.val) = f.slots := by
    apply Vector.ext
    intro i hi
    rw [Vector.getElem_ofFn]
    exact (slotAt_frame _ f.slots.toList _ i (by omega)).trans (Vector.getElem_toList _)
  obtain ⟨cycle, slots, reply⟩ := f
  unfold decodeRetFrame
  rw [hslots]
  unfold retFrameBytes
  rw [hcycle, hreply, BitVec.ofNat_toNat, BitVec.ofNat_toNat, BitVec.setWidth_eq, BitVec.setWidth_eq]

theorem decodeOutFrame_bytes (f : OutFrame) : decodeOutFrame (outFrameBytes f) = f := by
  have hlength : f.slots.toList.length = 48 := f.slots.length_toList
  have hcycle := wordAt_frame_cycle f.cycle.toNat f.slots.toList (bytesOf f.request.toNat 20) f.cycle.isLt
  have hrequest := wordAt_frame_field f.cycle.toNat f.slots.toList (n := 20) (v := f.request.toNat) f.request.isLt
  rw [hlength] at hrequest
  have hslots : (Vector.ofFn fun k : Fin 48 => slotAt (outFrameBytes f) k.val) = f.slots := by
    apply Vector.ext
    intro i hi
    rw [Vector.getElem_ofFn]
    exact (slotAt_frame _ f.slots.toList _ i (by omega)).trans (Vector.getElem_toList _)
  obtain ⟨cycle, slots, request⟩ := f
  unfold decodeOutFrame
  rw [hslots]
  unfold outFrameBytes
  rw [hcycle, hrequest, BitVec.ofNat_toNat, BitVec.ofNat_toNat, BitVec.setWidth_eq, BitVec.setWidth_eq]

theorem outFrameBytes_decode {l : List Byte} (h : l.length = 262) : outFrameBytes (decodeOutFrame l) = l := by
  have hcycle : (decodeOutFrame l).cycle.toNat = wordAt l 0 2 := Nat.mod_eq_of_lt (wordAt_lt l 0 2)
  have hrequest : (decodeOutFrame l).request.toNat = wordAt l 242 20 := Nat.mod_eq_of_lt (wordAt_lt l 242 20)
  have hslots : (decodeOutFrame l).slots.toList = List.ofFn fun k : Fin 48 => slotAt l k.val := Vector.toList_ofFn
  rw [outFrameBytes, hcycle, hrequest, hslots]
  exact frame_of_bytes l 48 20 h

theorem retFrameBytes_decode {l : List Byte} (h : l.length = 502) : retFrameBytes (decodeRetFrame l) = l := by
  have hcycle : (decodeRetFrame l).cycle.toNat = wordAt l 0 2 := Nat.mod_eq_of_lt (wordAt_lt l 0 2)
  have hreply : (decodeRetFrame l).reply.toNat = wordAt l 482 20 := Nat.mod_eq_of_lt (wordAt_lt l 482 20)
  have hslots : (decodeRetFrame l).slots.toList = List.ofFn fun k : Fin 96 => slotAt l k.val := Vector.toList_ofFn
  rw [retFrameBytes, hcycle, hreply, hslots]
  exact frame_of_bytes l 96 20 h

/-- Settles O54: each frame is its cycle number, its slots and its last field, each read back where it stands. -/
theorem frameBytesDecodeToFrame : Obligations.FrameBytesDecodeToFrame := by
  refine ⟨fun f => ⟨retFrameBytes_length f, decodeRetFrame_bytes f⟩, fun f =>
    ⟨outFrameBytes_length f, decodeOutFrame_bytes f, ?_⟩⟩
  rw [outboundCommands, decodeOutFrame_bytes]
  rfl

end Sys2Proof.Machine
end

section
/-!
SUPPORT. O47: how a request is taken and answered (R167 to R169, R175), for every kind at once: each command that
carries a request is served by an answer that either changes nothing or is DONE.
-/
namespace Sys2Proof.Machine

/-! ### Answers -/

/-- An answer leaves the node address and the frame at the port, and one that is not DONE changes nothing. -/
structure Answer.Sound (s : State) (a : Answer) : Prop where
  addr : a.state.nodeAddr = s.nodeAddr
  out : a.state.outFrame = s.outFrame
  refused : a.code ≠ .done → a.state = s ∧ a.payload = 0

section
variable {s t : State} {k : StandId} {cmd : Instr}

theorem Answer.Sound.refuse (s : State) (code : ReplyCode) : (refuse s code).Sound s := ⟨rfl, rfl, fun _ => ⟨rfl, rfl⟩⟩

theorem Answer.Sound.of_done {a : Answer} (haddr : a.state.nodeAddr = s.nodeAddr) (hout : a.state.outFrame = s.outFrame)
    (hcode : a.code = .done) : a.Sound s := ⟨haddr, hout, fun h => absurd hcode h⟩

theorem State.AnswerAt.frame (h : s.AnswerAt cmd k t) : t = { s with groups := t.groups, stands := t.stands } := by
  obtain ⟨m, hworks, hformed, ht⟩ := h
  have hacts := (hworks.acts False).frame
  rcases ht with rfl | rfl
  · rw [hacts, hformed]
  · have hdecided := (m.decideGroup_grantsIn (s.groupOf k)).frame
    rw [hdecided, hacts, hformed]

/-- The answer of a stand is sound when it refuses without a change. -/
theorem State.AnswerAt.sound {a : Answer} (h : s.AnswerAt cmd k a.state)
    (hrefused : a.code = .done ∨ ∃ code, a = Machine.refuse s code) : a.Sound s := by
  have hframe := h.frame
  refine ⟨(congrArg State.nodeAddr hframe :), (congrArg State.outFrame hframe :), fun hcode => ?_⟩
  obtain ⟨code, rfl⟩ := hrefused.resolve_left hcode
  exact ⟨rfl, rfl⟩

theorem readItemAnswer_sound (sel : BitVec 16) (s : State) (k : StandId) : (readItemAnswer sel s k).Sound s := by
  unfold readItemAnswer
  split
  · exact .of_done rfl rfl rfl
  · exact .refuse s _

theorem parameterAnswer_sound (sel : BitVec 16) (p : Payload) (s : State) (k : StandId) :
    (parameterAnswer sel p s k).Sound s := by
  unfold parameterAnswer
  dsimp only
  split
  · exact .refuse s _
  · split
    · exact .refuse s _
    · split
      · exact .refuse s _
      · exact .of_done rfl rfl rfl

theorem mapEntryAnswer_sound (sel : BitVec 16) (p : Payload) (s : State) (k : StandId) :
    (mapEntryAnswer sel p s k).Sound s := by
  unfold mapEntryAnswer
  dsimp only
  split
  · exact .refuse s _
  · split
    · exact .of_done rfl rfl rfl
    · exact .refuse s _

theorem lineMapAnswer_sound (sel : BitVec 16) (p : Payload) (s : State) (k : StandId) :
    (lineMapAnswer sel p s k).Sound s := by
  unfold lineMapAnswer
  split
  · exact .refuse s _
  · split
    · exact .refuse s _
    · exact .of_done rfl rfl rfl
    · exact .of_done rfl rfl rfl

theorem imageMapAnswer_sound (sel : BitVec 16) (p : Payload) (s : State) (k : StandId) :
    (imageMapAnswer sel p s k).Sound s := by
  unfold imageMapAnswer
  split
  · exact .refuse s _
  · split
    · exact .refuse s _
    · exact .of_done rfl rfl rfl
    · exact .of_done rfl rfl rfl

theorem gradeAnswer_sound (sel : BitVec 16) (p : Payload) (s : State) (k : StandId) : (gradeAnswer sel p s k).Sound s := by
  unfold gradeAnswer
  split
  · exact .of_done rfl rfl rfl
  · exact .refuse s _

theorem groupAnswer_sound (sel : BitVec 16) (p : Payload) (s : State) (k : StandId) : (groupAnswer sel p s k).Sound s :=
  .of_done rfl rfl rfl

theorem queueReelAnswer_sound (p : Payload) (s : State) (k : StandId) : (queueReelAnswer p s k).Sound s := by
  unfold queueReelAnswer
  dsimp only
  split
  · exact .refuse s _
  · split
    · exact .refuse s _
    · split
      · exact .refuse s _
      · exact .of_done rfl rfl rfl

theorem withdrawAnswer_sound (p : Payload) (s : State) (k : StandId) : (withdrawAnswer p s k).Sound s := by
  unfold withdrawAnswer
  dsimp only
  split
  · exact .refuse s _
  · split
    · exact .of_done rfl rfl rfl
    · split
      · split
        · exact .of_done rfl rfl rfl
        · exact .refuse s _
      · split
        · exact .refuse s _
        · exact .refuse s _

theorem standOnlineAnswer_sound (sel : BitVec 16) (p : Payload) (s : State) (k : StandId) :
    (standOnlineAnswer sel p s k).Sound s := by
  unfold standOnlineAnswer
  dsimp only
  split
  · exact .refuse s _
  · split
    · exact .refuse s _
    · split
      · split
        · exact .of_done rfl rfl rfl
        · exact .refuse s _
      · exact .refuse s _

theorem standOfflineAnswer_sound (s : State) (k : StandId) : (standOfflineAnswer s k).Sound s := by
  unfold standOfflineAnswer
  dsimp only
  split
  · exact .refuse s _
  · split
    · exact .of_done rfl rfl rfl
    · exact .refuse s _

theorem inhibitAnswer_sound (s : State) (k : StandId) : (inhibitAnswer s k).Sound s := by
  refine (inhibitAnswer_answerAt (cmd := .linkLoss) s k).sound ?_
  unfold inhibitAnswer
  dsimp only
  split
  · exact .inl rfl
  · exact .inr ⟨_, rfl⟩

theorem releaseAnswer_sound (s : State) (k : StandId) : (releaseAnswer s k).Sound s := by
  refine (releaseAnswer_answerAt (cmd := .linkLoss) s k).sound ?_
  unfold releaseAnswer
  dsimp only
  split
  · exact .inl rfl
  · exact .inr ⟨_, rfl⟩

theorem spliceNowAnswer_sound (s : State) (k : StandId) : (spliceNowAnswer s k).Sound s := by
  refine (spliceNowAnswer_answerAt (cmd := .linkLoss) s k).sound ?_
  unfold spliceNowAnswer
  dsimp only
  split
  case h_4 => exact .inl rfl
  case h_5 => exact .inl rfl
  case h_6 => exact .inl rfl
  all_goals exact .inr ⟨_, rfl⟩

theorem clearFaultAnswer_sound (sel : BitVec 16) (s : State) (k : StandId) : (clearFaultAnswer sel s k).Sound s := by
  refine (clearFaultAnswer_answerAt (cmd := .linkLoss) sel s k).sound ?_
  unfold clearFaultAnswer
  dsimp only
  split
  · exact .inr ⟨_, rfl⟩
  · split
    · exact .inr ⟨_, rfl⟩
    · split
      · split
        · split
          · exact .inr ⟨_, rfl⟩
          · exact .inl rfl
        · exact .inl rfl
      · exact .inr ⟨_, rfl⟩

theorem readLogAnswer_sound (sel : BitVec 16) (s : State) : (readLogAnswer sel s).Sound s := by
  unfold readLogAnswer
  split
  · exact .of_done rfl rfl rfl
  · exact .refuse s _

theorem ackLogAnswer_sound (s : State) : (ackLogAnswer s).Sound s := by
  unfold ackLogAnswer
  split
  · exact .refuse s _
  · exact .of_done rfl rfl rfl

end

/-! ### Every request -/

/-- What takes a request: the answer of its kind, behind the common checks. -/
def Serves (c : Instr) (s : State) (r : Request) (kind : BitVec 4) : Prop :=
  ∃ ok f, exec c s = .next (s.serve r kind ok f) ∧
    (WellFormed c = true → unknownKind kind = true ∨ selectorFits c = false → ok = false) ∧
    ∀ k, (f k).Sound s

/-- The third common check of a WRITE-ITEM row is that of its class. -/
theorem writable_eq_false {sel : BitVec 16} {n : Nat} (hn : 1 ≤ n) (h : namesWritable sel = false) (hmax : n ≤ 6) :
    writable n sel = false := by
  rw [Bool.eq_false_iff] at h ⊢
  intro hwritable
  simp only [writable, Bool.and_eq_true, beq_iff_eq, decide_eq_true_eq] at hwritable
  obtain ⟨hclass, hindex⟩ := hwritable
  refine h ?_
  simp only [namesWritable, Bool.and_eq_true, decide_eq_true_eq]
  rw [hclass]
  exact ⟨⟨hn, hmax⟩, hindex⟩

theorem exec_serves {c : Instr} {r : Request} {kind : BitVec 4} (hcmd : requestOf c = some (r, kind)) (s : State) :
    Serves c s r kind := by
  have hwrite {sel : BitVec 16} {n : Nat} (hn : 1 ≤ n) (hmax : n ≤ 6)
      (h : unknownKind 2 = true ∨ namesWritable sel = false) : writable n sel = false :=
    writable_eq_false hn (h.resolve_left (by decide)) hmax
  cases c with
  | readItem r' sel =>
    cases hcmd
    exact ⟨_, _, rfl, fun _ h => h.resolve_left (by decide), readItemAnswer_sound sel s⟩
  | writeStandParameter r' sel p =>
    cases hcmd
    exact ⟨_, _, rfl, fun _ => hwrite le_rfl (by decide), parameterAnswer_sound sel p s⟩
  | writeSlotMapEntry r' sel p =>
    cases hcmd
    exact ⟨_, _, rfl, fun _ => hwrite (by decide) (by decide), mapEntryAnswer_sound sel p s⟩
  | writeLineMap r' sel p =>
    cases hcmd
    exact ⟨_, _, rfl, fun _ => hwrite (by decide) (by decide), lineMapAnswer_sound sel p s⟩
  | writeImageMap r' sel p =>
    cases hcmd
    exact ⟨_, _, rfl, fun _ => hwrite (by decide) (by decide), imageMapAnswer_sound sel p s⟩
  | writeGradeTableEntry r' sel p =>
    cases hcmd
    exact ⟨_, _, rfl, fun _ => hwrite (by decide) (by decide), gradeAnswer_sound sel p s⟩
  | writeGroupTableEntry r' sel p =>
    cases hcmd
    exact ⟨_, _, rfl, fun _ => hwrite (by decide) le_rfl, groupAnswer_sound sel p s⟩
  | queueReel r' p => cases hcmd; exact ⟨_, _, rfl, fun _ => nofun, queueReelAnswer_sound p s⟩
  | withdrawReel r' p => cases hcmd; exact ⟨_, _, rfl, fun _ => nofun, withdrawAnswer_sound p s⟩
  | standOnline r' sel p => cases hcmd; exact ⟨_, _, rfl, fun _ => nofun, standOnlineAnswer_sound sel p s⟩
  | standOffline r' => cases hcmd; exact ⟨_, _, rfl, fun _ => nofun, standOfflineAnswer_sound s⟩
  | inhibit r' => cases hcmd; exact ⟨_, _, rfl, fun _ => nofun, inhibitAnswer_sound s⟩
  | release r' => cases hcmd; exact ⟨_, _, rfl, fun _ => nofun, releaseAnswer_sound s⟩
  | spliceNow r' => cases hcmd; exact ⟨_, _, rfl, fun _ => nofun, spliceNowAnswer_sound s⟩
  | clearFault r' sel => cases hcmd; exact ⟨_, _, rfl, fun _ => nofun, clearFaultAnswer_sound sel s⟩
  | readLog r' sel =>
    cases hcmd
    exact ⟨_, _, rfl, fun _ h => h.resolve_left (by decide), fun _ => readLogAnswer_sound sel s⟩
  | ackLog r' => cases hcmd; exact ⟨_, _, rfl, fun _ => nofun, fun _ => ackLogAnswer_sound s⟩
  | unknownKindRequest r' kind' => cases hcmd; exact ⟨_, _, rfl, fun _ _ => rfl, fun _ => .refuse s _⟩
  | _ => cases hcmd

theorem State.takes_iff (s : State) (r : Request) :
    s.takes r = true ↔ s.inReset = false ∧ (∃ c, s.engineCycle = some c) ∧ 1 ≤ s.nodeAddr.toNat ∧
      s.nodeAddr.toNat ≤ 30 ∧ r.target = s.nodeAddr := by
  have haddr : s.hasAddress = true ↔ 1 ≤ s.nodeAddr.toNat ∧ s.nodeAddr.toNat ≤ 30 := by
    have hlt := s.nodeAddr.isLt
    simp only [State.hasAddress, Bool.and_eq_true, bne_iff_ne, ne_eq, ← BitVec.toNat_inj]
    show ¬ s.nodeAddr.toNat = 0 ∧ ¬ s.nodeAddr.toNat = 31 ↔ _
    omega
  simp only [State.takes, Bool.and_eq_true, haddr, Option.isSome_iff_exists, Bool.not_eq_true', beq_iff_eq, and_assoc]

/-- R168, R175: what a taken request leaves. -/
theorem State.answer_of_sound {s : State} {a : Answer} (h : a.Sound s) (r : Request) (kind : BitVec 4) :
    ∃ b : Reply, (s.answer r kind a).heldReply = some b ∧ b.responder = s.nodeAddr ∧ b.kind = kind ∧ b.stand = r.stand ∧
      (s.answer r kind a).outFrame = s.outFrame ∧
      (b.code ≠ .done → b.payload = 0 ∧ s.answer r kind a = { s with heldReply := some b, outPassing := false }) := by
  have hdecided := (State.decideChanged_grantsAny s a.state).frame
  refine ⟨_, rfl, rfl, rfl, rfl, ?_, fun hcode => ?_⟩
  · exact (congrArg State.outFrame hdecided :).trans h.out
  · obtain ⟨hsame, hzero⟩ := h.refused hcode
    refine ⟨hzero, ?_⟩
    unfold State.answer
    rw [hsame, State.decideChanged_of_same s s fun _ => rfl]

theorem State.serve_of_sound {s : State} {r : Request} (htakes : s.takes r = true) (kind : BitVec 4) (ok : Bool)
    {f : StandId → Answer} (h : ∀ k, (f k).Sound s) :
    ∃ b : Reply, (s.serve r kind ok f).heldReply = some b ∧ b.responder = s.nodeAddr ∧ b.kind = kind ∧
      b.stand = r.stand ∧ (s.serve r kind ok f).outFrame = s.outFrame ∧
      (b.code ≠ .done →
        b.payload = 0 ∧ s.serve r kind ok f = { s with heldReply := some b, outPassing := false }) := by
  have hbad := State.answer_of_sound (Answer.Sound.refuse s .badRequest) r kind
  unfold State.serve
  rw [if_pos htakes]
  split
  · cases ok with
    | true => exact State.answer_of_sound (h _) r kind
    | false => exact hbad
  · exact hbad

theorem Reply.field_layout (a : Reply) :
    a.field.extractLsb' 0 5 = a.responder ∧ a.field.extractLsb' 5 4 = a.kind ∧ a.field.extractLsb' 9 4 = a.stand ∧
      a.field.extractLsb' 13 3 = 0#3 ∧ a.field.extractLsb' 16 4 = a.code.code ∧ a.field.extractLsb' 20 12 = 0#12 ∧
      a.field.extractLsb' 32 128 = a.payload := by
  refine ⟨?_, ?_, ?_, ?_, ?_, ?_, ?_⟩
  all_goals
    ext i hi
    simp [Reply.field]
    grind

/-- Settles O47: every request is served behind the common checks, by an answer that is sound. -/
theorem commonChecksGiveBadRequest : Obligations.CommonChecksGiveBadRequest := by
  refine ⟨fun a => ?_, fun s r kind htakes hkind => ?_, State.takes_iff, fun c s r kind hcmd => ?_⟩
  · obtain ⟨hresponder, hkind, hstand, hzero, hcode, hzero', hpayload⟩ := a.field_layout
    refine ⟨hresponder, hkind, hstand, hzero, hcode.trans ?_, hzero', hpayload⟩
    cases a.code <;> rfl
  · exact congrArg Host.Outcome.next (s.serve_of_bad r kind _ _ htakes (.inr rfl))
  · obtain ⟨ok, f, hexec, hchecks, hsound⟩ := exec_serves hcmd s
    refine ⟨fun hnot => ?_, fun htakes hwell hbad => ?_, fun htakes => ?_⟩
    · rw [hexec, State.serve_of_not_taken s r kind ok f hnot]
    · rw [hexec, State.serve_of_bad s r kind ok f htakes]
      rcases hbad with hkind | hstand | hsel
      · exact .inr (hchecks hwell (.inl hkind))
      · exact .inl hstand
      · exact .inr (hchecks hwell (.inr hsel))
    · obtain ⟨b, hb⟩ := State.serve_of_sound htakes kind ok hsound
      exact ⟨_, b, hexec, hb⟩

end Sys2Proof.Machine
end

section
/-! SUPPORT. O3: the node address is held (R18), and a part without an address passes every frame unchanged. -/
namespace Sys2Proof.Machine

/-! ### The return frame at the port -/

section
variable {s : State} {f : RetFrame}

/-- R13: at the end of the frame in flight the reply is written. -/
theorem State.endReturn_retFrame (s : State) : s.endReturn.retFrame = s.replyWritten := by
  have hcycle (t : State) (v : Option (Vector Slot 96)) : (t.cycleStep v false).retFrame = t.retFrame := by
    have hwork := t.cycleStep_onlyWork v false
    unfold State.OnlyWork at hwork
    rw [hwork]
  unfold State.endReturn
  split
  case h_1 g hg =>
    dsimp only
    split
    · rw [hcycle]
    · rfl
  case h_2 hg =>
    unfold State.replyWritten
    rw [hg]
    rfl

theorem State.replyWritten_of_no_reply (h : s.inFlight.bind (·.reply) = none) : s.replyWritten = s.retFrame := by
  unfold State.replyWritten
  rw [h]

theorem State.endReturn_inFlight (s : State) : s.endReturn.inFlight = none := by rw [State.endReturn_frame]

theorem State.endReturn_hasAddress (s : State) : s.endReturn.hasAddress = s.hasAddress := by
  rw [State.endReturn_frame]
  rfl

/-- R18: without an address a return frame passes unchanged, and carries no reply. -/
theorem State.beginReturn_of_no_address (h : s.hasAddress = false) (f : RetFrame) :
    (s.beginReturn f).retFrame = some f ∧ (s.beginReturn f).inFlight.bind (·.reply) = none := by
  have hflight := s.endReturn_inFlight
  have haddr := s.endReturn_hasAddress.trans h
  unfold State.beginReturn
  generalize s.endReturn = t at hflight haddr
  have hpass : (({ t with outPassing := false } : State).passReturn f).retFrame = some f ∧
      (({ t with outPassing := false } : State).passReturn f).inFlight.bind (·.reply) = none := by
    refine ⟨rfl, ?_⟩
    show t.inFlight.bind (·.reply) = none
    rw [hflight]
    rfl
  dsimp only
  split
  · exact hpass
  · split
    · split
      · unfold State.matchReturn
        rw [if_neg (by rw [show State.hasAddress { t with outPassing := false } = false from haddr]; exact Bool.false_ne_true)]
        exact ⟨rfl, rfl⟩
      · exact hpass
    · exact hpass

theorem State.passReturn_nodeAddr (s : State) (f : RetFrame) : (s.passReturn f).nodeAddr = s.nodeAddr := rfl

theorem State.endReturn_nodeAddr (s : State) : s.endReturn.nodeAddr = s.nodeAddr := by rw [State.endReturn_frame]

theorem State.beginReturn_nodeAddr (s : State) (f : RetFrame) : (s.beginReturn f).nodeAddr = s.nodeAddr := by
  have hend := s.endReturn_nodeAddr
  unfold State.beginReturn
  generalize s.endReturn = t at hend
  dsimp only
  split
  · exact hend
  · split
    · split
      · unfold State.matchReturn
        split <;> exact hend
      · exact hend
    · exact hend

theorem State.returnEvent_nodeAddr (s : State) (e : RetEvent) : (s.returnEvent e).nodeAddr = s.nodeAddr := by
  unfold State.returnEvent
  cases e with
  | whole f =>
    dsimp only
    split
    · rfl
    · rw [State.endReturn_nodeAddr, State.beginReturn_nodeAddr]
  | head f =>
    dsimp only
    split
    · rfl
    · exact s.beginReturn_nodeAddr f
  | tail =>
    dsimp only
    split
    · rfl
    · exact s.endReturn_nodeAddr
  | early f =>
    dsimp only
    split
    · rfl
    · rw [State.passReturn_nodeAddr, State.endReturn_nodeAddr]

end

/-! ### The node address -/

section
variable {s t : State}

theorem State.OnlyWork.nodeAddr (h : s.OnlyWork t) : t.nodeAddr = s.nodeAddr := by
  unfold State.OnlyWork at h
  rw [h]

theorem State.beginCycle_nodeAddr (s : State) (num : BitVec 16) : (s.beginCycle num).nodeAddr = s.nodeAddr := by
  have hbegin := (s.beginCycle_frame num).2
  rw [hbegin]

theorem State.startMarker_nodeAddr (s : State) (f : OutFrame) : (s.startMarker f).nodeAddr = s.nodeAddr := by
  unfold State.startMarker
  split
  · rfl
  · rw [State.passOutbound_frame]
    exact s.beginCycle_nodeAddr f.cycle

theorem State.watchExpiry_nodeAddr (s : State) : s.watchExpiry.nodeAddr = s.nodeAddr := by
  unfold State.watchExpiry State.loseLink
  split
  · rfl
  · have hstruck := State.foldl_linkLossAt_frame allStands
      { s with watchArmed := false, linkLost := true, outPassing := false }
    have hdecided := (State.decideChanged_grantsAny s
      (allStands.foldl State.linkLossAt { s with watchArmed := false, linkLost := true, outPassing := false })).frame
    dsimp only
    rw [State.joinLog_frame, hdecided, hstruck]

theorem State.serve_nodeAddr {r : Request} {kind : BitVec 4} {ok : Bool} {f : StandId → Answer}
    (h : ∀ k, (f k).Sound s) : (s.serve r kind ok f).nodeAddr = s.nodeAddr := by
  have hanswer {a : Answer} (ha : a.Sound s) : (s.answer r kind a).nodeAddr = s.nodeAddr :=
    (congrArg State.nodeAddr (State.decideChanged_grantsAny s a.state).frame :).trans ha.addr
  unfold State.serve
  split
  · split
    · split
      · exact hanswer (h _)
      · exact hanswer (.refuse s _)
    · exact hanswer (.refuse s _)
  · rfl

/-- R18: no command but a reset changes the node address. -/
theorem exec_nodeAddr {c : Instr} (h : exec c s = .next t) (hassert : c ≠ .resetAssertion)
    (hrelease : ∀ a, c ≠ .resetRelease a) : t.nodeAddr = s.nodeAddr := by
  cases hcmd : requestOf c with
  | some q =>
    obtain ⟨ok, f, hexec, -, hsound⟩ := exec_serves (r := q.1) (kind := q.2) hcmd s
    rw [hexec] at h
    cases h
    exact State.serve_nodeAddr hsound
  | none =>
    cases c with
    | outboundStartMarker f => cases h; exact s.startMarker_nodeAddr f
    | returnFrame e => cases h; exact s.returnEvent_nodeAddr e
    | signalStaleLimit g => cases h; exact (s.signalStaleLimit_keepsBounds g).2.nodeAddr
    | signalStale k => cases h; exact (s.signalStale_eventAt (cmd := .linkLoss) k).keepsBounds.2.nodeAddr
    | runningDiameterWindowComplete k inc travel =>
      cases h; exact (s.windowComplete_eventAt (cmd := .linkLoss) k inc travel).keepsBounds.2.nodeAddr
    | gaugeWindowComplete k reading =>
      cases h; exact (s.gaugeComplete_eventAt (cmd := .linkLoss) k reading).keepsBounds.2.nodeAddr
    | tapeLost k travel => cases h; exact (s.tapeLost_eventAt (cmd := .linkLoss) k travel).keepsBounds.2.nodeAddr
    | accelTimeout k => cases h; exact (s.accelTimeout_eventAt (cmd := .linkLoss) k).keepsBounds.2.nodeAddr
    | confirmTimeout k => cases h; exact (s.confirmTimeout_eventAt k).keepsBounds.2.nodeAddr
    | spacingEnd g inc => cases h; exact (s.spacingEnd_keepsBounds g inc).2.nodeAddr
    | linkLoss => cases h; exact s.watchExpiry_nodeAddr
    | resetAssertion => exact absurd rfl hassert
    | resetRelease a => exact absurd rfl (hrelease a)
    | inhibitFilterSettle steady high => cases h; rw [State.settlePins_frame]
    | inhibitPinAssertion k =>
      cases h; exact (congrArg State.nodeAddr (s.pinAssertion_answeredAt (cmd := .linkLoss) k).frame :)
    | inhibitPinRelease k => cases h; exact (congrArg State.nodeAddr (s.pinRelease_answeredAt k).frame :)
    | _ => cases hcmd

/-- R18: addresses 0 and 31 are none. -/
theorem State.hasAddress_eq_false (h : s.nodeAddr = 0 ∨ s.nodeAddr = 31) : s.hasAddress = false := by
  unfold State.hasAddress
  rcases h with h | h <;> rw [h] <;> rfl

theorem State.startMarker_of_no_address (h : s.hasAddress = false) (f : OutFrame) :
    (s.startMarker f).outFrame = some f := by
  have haddr : (s.beginCycle f.cycle).hasAddress = false := by
    unfold State.hasAddress
    rw [State.beginCycle_nodeAddr]
    exact h
  unfold State.startMarker State.passOutbound
  rw [haddr]
  split <;> rfl

theorem State.wholeReturn_of_no_address (h : s.hasAddress = false) (f : RetFrame) :
    (s.beginReturn f).endReturn.retFrame = some f := by
  obtain ⟨hframe, hreply⟩ := State.beginReturn_of_no_address h f
  rw [State.endReturn_retFrame, State.replyWritten_of_no_reply hreply, hframe]

end

/-- Settles O3, by the frames of the commands; without an address no frame is written. -/
theorem nodeAddressLatchedAndHeld : Obligations.NodeAddressLatchedAndHeld := by
  refine ⟨fun s a hreset => ⟨_, rfl, ?_⟩, fun c s t h => exec_nodeAddr h, fun s haddr => ?_⟩
  · unfold State.releaseReset
    rw [if_pos hreset]
    rfl
  · have hnone := State.hasAddress_eq_false haddr
    refine ⟨fun f => ⟨_, rfl, State.startMarker_of_no_address hnone f⟩, fun f => ⟨_, rfl, ?_⟩, fun f => ⟨_, rfl, ?_⟩,
      fun f => ⟨_, rfl, ?_⟩, fun c r kind hcmd => ?_⟩
    · unfold State.returnEvent
      dsimp only
      split
      · rfl
      · exact State.wholeReturn_of_no_address hnone f
    · unfold State.returnEvent
      dsimp only
      split
      · rfl
      · exact (State.beginReturn_of_no_address hnone f).1
    · unfold State.returnEvent
      dsimp only
      split <;> rfl
    · obtain ⟨ok, g, hexec, -⟩ := exec_serves hcmd s
      have hnot : s.takes r = false := by
        unfold State.takes
        rw [hnone]
        simp
      rw [hexec, State.serve_of_not_taken s r kind ok g hnot]

end Sys2Proof.Machine
end

section
/-! SUPPORT. O9 and O2: return frames that pass unchanged (R10), and the assertion and the release of RESET (R187). -/
namespace Sys2Proof.Machine

/-! ### Return frames that pass unchanged (O9) -/

section
variable {s : State} {f : RetFrame}

theorem State.endReturn_of_none (h : s.inFlight = none) : s.endReturn = s := by
  unfold State.endReturn
  rw [h]

theorem State.returnEvent_whole (hreset : s.inReset = false) (f : RetFrame) :
    s.returnEvent (.whole f) = (s.beginReturn f).endReturn := if_neg (by rw [hreset]; exact Bool.false_ne_true)

theorem State.returnEvent_early (hreset : s.inReset = false) (f : RetFrame) :
    s.returnEvent (.early f) = s.endReturn.passReturn f := if_neg (by rw [hreset]; exact Bool.false_ne_true)

theorem State.beginReturn_of_decided (hflight : s.inFlight = none) (hdecided : s.returnDecided = true) (f : RetFrame) :
    s.beginReturn f = { s with retFrame := some f, retArrived := some f, outPassing := false } := by
  unfold State.beginReturn
  rw [State.endReturn_of_none hflight]
  exact if_pos hdecided

theorem State.beginReturn_of_undecided (hflight : s.inFlight = none) (hdecided : s.returnDecided = false) {n : BitVec 16}
    (hcycle : s.lastCycle = some n) (f : RetFrame) :
    s.beginReturn f =
      if f.cycle = n then State.matchReturn { s with outPassing := false } f
      else { s with retFrame := some f, retArrived := some f, outPassing := false, returnDecided := true } := by
  unfold State.beginReturn
  rw [State.endReturn_of_none hflight]
  dsimp only
  rw [hdecided, if_neg Bool.false_ne_true, hcycle]
  rfl

theorem State.beginReturn_of_no_cycle (hflight : s.inFlight = none) (hdecided : s.returnDecided = false)
    (hcycle : s.lastCycle = none) (f : RetFrame) :
    s.beginReturn f = { s with retFrame := some f, retArrived := some f, outPassing := false } := by
  unfold State.beginReturn
  rw [State.endReturn_of_none hflight]
  dsimp only
  rw [hdecided, if_neg Bool.false_ne_true, hcycle]
  rfl

end

/-- Settles O9, by what decides the return side of the cycle; the frame that has begun carries nothing. -/
theorem unmatchedReturnFramePasses : Obligations.UnmatchedReturnFramePasses := by
  intro s f hreset hflight
  have hwhole {t : State} (hbegin : s.beginReturn f = t) (ht : t.inFlight = none) :
      exec (.returnFrame (.whole f)) s = .next t := by
    refine congrArg Host.Outcome.next ?_
    rw [State.returnEvent_whole hreset, hbegin, State.endReturn_of_none ht]
  refine ⟨fun hdecided => ?_, fun n hdecided hcycle hne => ?_, fun hdecided hcycle => ?_, ?_⟩
  · exact hwhole (State.beginReturn_of_decided hflight hdecided f) hflight
  · exact hwhole ((State.beginReturn_of_undecided hflight hdecided hcycle f).trans (if_neg hne)) hflight
  · exact hwhole (State.beginReturn_of_no_cycle hflight hdecided hcycle f) hflight
  · refine congrArg Host.Outcome.next ?_
    rw [State.returnEvent_early hreset, State.endReturn_of_none hflight]
    rfl

/-! ### Frames by their bytes -/

theorem wordAt_congr {l l' : List Byte} {b n : Nat} (h : ∀ i, b ≤ i → i < b + n → byteAt l i = byteAt l' i) :
    wordAt l b n = wordAt l' b n := by
  induction n generalizing b with
  | zero => rfl
  | succ n ih =>
    rw [wordAt, wordAt, h b le_rfl (by omega), ih fun i hlo hhi => h i (by omega) (by omega)]

theorem slotAt_congr {l l' : List Byte} {k : Nat} (h : ∀ i, 2 + 5 * k ≤ i → i < 7 + 5 * k → byteAt l i = byteAt l' i) :
    slotAt l k = slotAt l' k := by
  have hword : wordAt l (3 + 5 * k) 4 = wordAt l' (3 + 5 * k) 4 :=
    wordAt_congr fun i hlo hhi => h i (by omega) (by omega)
  rw [slotAt, slotAt, h _ le_rfl (by omega), hword]

theorem slotAt_outFrameBytes (f : OutFrame) (k : Fin 48) : slotAt (outFrameBytes f) k.val = f.slots[k] :=
  (slotAt_frame _ f.slots.toList _ k.val (by rw [Vector.length_toList]; exact k.isLt)).trans (Vector.getElem_toList _)

theorem slotAt_retFrameBytes (f : RetFrame) (k : Fin 96) : slotAt (retFrameBytes f) k.val = f.slots[k] :=
  (slotAt_frame _ f.slots.toList _ k.val (by rw [Vector.length_toList]; exact k.isLt)).trans (Vector.getElem_toList _)

theorem outFrame_request_eq (f : OutFrame) : f.request = BitVec.ofNat 160 (wordAt (outFrameBytes f) 242 20) :=
  (congrArg OutFrame.request (decodeOutFrame_bytes f)).symm

theorem retFrame_reply_eq (f : RetFrame) : f.reply = BitVec.ofNat 160 (wordAt (retFrameBytes f) 482 20) :=
  (congrArg RetFrame.reply (decodeRetFrame_bytes f)).symm

theorem byteAt_of_ge {l : List Byte} {i : Nat} (h : l.length ≤ i) : byteAt l i = 0 := by
  simp [byteAt, List.getD_eq_getElem?_getD, List.getElem?_eq_none h]

theorem ext_byteAt {l l' : List Byte} (hlength : l.length = l'.length) (h : ∀ i, i < l.length → byteAt l i = byteAt l' i) :
    l = l' := by
  refine List.ext_getElem hlength fun i hi hi' => ?_
  rw [← byteAt_of_lt hi, ← byteAt_of_lt hi', h i hi]

/-! ### Frames cut by an assertion of RESET -/

/-- R187: bytes that are those of `w` up to byte o, those of `a` after it, and partly passed at it. -/
def CutAt (o : Nat) (b : Byte) (u w a : List Byte) : Prop :=
  ∀ i, byteAt u i =
    if i < o then byteAt w i
    else if i = o then (byteAt w i &&& b) ||| (byteAt a i &&& ~~~b)
    else byteAt a i

section
variable {o : Nat} {b : Byte} {u w a : List Byte}

theorem CutAt.before (h : CutAt o b u w a) {i : Nat} (hi : i < o) : byteAt u i = byteAt w i := (h i).trans (if_pos hi)

theorem CutAt.after (h : CutAt o b u w a) {i : Nat} (hi : o < i) : byteAt u i = byteAt a i := by
  rw [h i, if_neg (by omega), if_neg (by omega)]

/-- A frame that has wholly passed is cut after its last byte. -/
theorem CutAt.of_whole (b : Byte) (h : w.length = a.length) (ho : o = w.length) : CutAt o b w w a := by
  intro i
  split
  case isTrue => rfl
  case isFalse hi =>
    have hw : byteAt w i = 0 := byteAt_of_ge (by omega)
    have ha : byteAt a i = 0 := byteAt_of_ge (by omega)
    rw [hw, ha]
    split <;> simp

theorem CutAt.of_cutBytes (m : Passed) (h : w.length = a.length) : CutAt m.bytes m.bits (cutBytes m w a) w a :=
  byteAt_cutBytes m w a h

end

/-- R187: what the bytes say of slots and request of a cut outbound frame. -/
theorem outFrame_cut_spec {o : Nat} {b : Byte} {u f g : OutFrame}
    (h : CutAt o b (outFrameBytes u) (outFrameBytes f) (outFrameBytes g)) :
    (o = 262 → u = f) ∧ (o < 242 → u.request = g.request) ∧
      ∀ i : Fin 48, (7 + 5 * i.val ≤ o → u.slots[i] = f.slots[i]) ∧ (o < 2 + 5 * i.val → u.slots[i] = g.slots[i]) := by
  refine ⟨fun ho => ?_, fun ho => ?_, fun i => ⟨fun hi => ?_, fun hi => ?_⟩⟩
  · have hbytes : outFrameBytes u = outFrameBytes f :=
      ext_byteAt (by rw [outFrameBytes_length, outFrameBytes_length]) fun i hi =>
        h.before (by rw [outFrameBytes_length] at hi; omega)
    rw [← decodeOutFrame_bytes u, hbytes, decodeOutFrame_bytes]
  · rw [outFrame_request_eq u, outFrame_request_eq g, wordAt_congr fun i hlo _ => h.after (show o < i by omega)]
  · rw [← slotAt_outFrameBytes, ← slotAt_outFrameBytes]
    exact slotAt_congr fun j _ hhi => h.before (by omega)
  · rw [← slotAt_outFrameBytes, ← slotAt_outFrameBytes]
    exact slotAt_congr fun j hlo _ => h.after (by omega)

/-- R187: what the bytes say of slots and reply of a cut return frame. -/
theorem retFrame_cut_spec {o : Nat} {b : Byte} {u f g : RetFrame}
    (h : CutAt o b (retFrameBytes u) (retFrameBytes f) (retFrameBytes g)) :
    (o = 502 → u = f) ∧ (o < 482 → u.reply = g.reply) ∧
      ∀ i : Fin 96, (7 + 5 * i.val ≤ o → u.slots[i] = f.slots[i]) ∧ (o < 2 + 5 * i.val → u.slots[i] = g.slots[i]) := by
  refine ⟨fun ho => ?_, fun ho => ?_, fun i => ⟨fun hi => ?_, fun hi => ?_⟩⟩
  · have hbytes : retFrameBytes u = retFrameBytes f :=
      ext_byteAt (by rw [retFrameBytes_length, retFrameBytes_length]) fun i hi =>
        h.before (by rw [retFrameBytes_length] at hi; omega)
    rw [← decodeRetFrame_bytes u, hbytes, decodeRetFrame_bytes]
  · rw [retFrame_reply_eq u, retFrame_reply_eq g, wordAt_congr fun i hlo _ => h.after (show o < i by omega)]
  · rw [← slotAt_retFrameBytes, ← slotAt_retFrameBytes]
    exact slotAt_congr fun j _ hhi => h.before (by omega)
  · rw [← slotAt_retFrameBytes, ← slotAt_retFrameBytes]
    exact slotAt_congr fun j hlo _ => h.after (by omega)

section
variable {s : State}

theorem State.outCut_spec (m : Passed) {f g : OutFrame} (hf : s.outFrame = some f) (hg : s.outArrived = some g) :
    ∃ u, s.outCut m = some u ∧
      CutAt (if s.outPassing then m.bytes else 262) m.bits (outFrameBytes u) (outFrameBytes f) (outFrameBytes g) := by
  have hlength : (outFrameBytes f).length = (outFrameBytes g).length := by
    rw [outFrameBytes_length, outFrameBytes_length]
  unfold State.outCut
  rw [hf, hg]
  refine ⟨_, rfl, ?_⟩
  cases s.outPassing with
  | true =>
    rw [if_pos rfl, if_pos rfl, OutFrame.cut, outFrameBytes_decode (by
      rw [length_cutBytes m _ _ hlength, outFrameBytes_length])]
    exact .of_cutBytes m hlength
  | false => exact .of_whole _ hlength (outFrameBytes_length f).symm

theorem State.retCut_spec (m : Passed) {f g : RetFrame} (hf : s.replyWritten = some f) (hg : s.retArrived = some g) :
    ∃ u, s.retCut m = some u ∧
      CutAt (if s.inFlight.isSome then m.bytes else 502) m.bits (retFrameBytes u) (retFrameBytes f) (retFrameBytes g) := by
  have hlength : (retFrameBytes f).length = (retFrameBytes g).length := by
    rw [retFrameBytes_length, retFrameBytes_length]
  unfold State.retCut
  rw [hf, hg]
  refine ⟨_, rfl, ?_⟩
  cases s.inFlight.isSome with
  | true =>
    rw [if_pos rfl, if_pos rfl, RetFrame.cut, retFrameBytes_decode (by
      rw [length_cutBytes m _ _ hlength, retFrameBytes_length])]
    exact .of_cutBytes m hlength
  | false => exact .of_whole _ hlength (retFrameBytes_length f).symm

theorem State.assertReset_of_running (h : s.inReset = false) (m n : Passed) :
    s.assertReset m n = { State.afterReset 0 with
      inReset := true, outFrame := s.outCut m, outArrived := s.outArrived, retFrame := s.retCut n
      retArrived := s.retArrived, freeIndex := s.freeIndex + 1, pending := s.pending } :=
  if_neg (by rw [h]; exact Bool.false_ne_true)

theorem State.releaseReset_of_reset (h : s.inReset = true) (a : BitVec 5) :
    s.releaseReset a = { State.afterReset a with
      outFrame := s.outFrame, outArrived := s.outArrived, retFrame := s.retFrame
      retArrived := s.retArrived, freeIndex := s.freeIndex, pending := s.pending } := if_pos h

/-- R10, R13, R14: where no outbound frame can be passing any more. -/
theorem PassingAgrees.not_passing (h : PassingAgrees s)
    (hpast : s.engineCycle = none ∨ s.heldReply.isSome = true ∨ s.returnDecided = true ∨ s.watchArmed = false) :
    s.outPassing = false := by
  refine Bool.eq_false_iff.mpr fun hpassing => ?_
  obtain ⟨-, -, hcycle, harmed, hreply, hdecided⟩ := h hpassing
  rcases hpast with hpast | hpast | hpast | hpast
  · rw [hpast] at hcycle; cases hcycle
  · rw [hreply] at hpast; cases hpast
  · rw [hdecided] at hpast; cases hpast
  · rw [harmed] at hpast; cases hpast

theorem State.replyWritten_of_frame {f : RetFrame} (hf : s.retFrame = some f) :
    s.replyWritten = some { f with
      reply := match s.inFlight.bind (·.reply) with
        | some r => r.field
        | none => f.reply } := by
  unfold State.replyWritten
  rw [hf]
  cases s.inFlight.bind (·.reply) <;> rfl

end

/-- Settles O2: what an assertion leaves of the frames is known byte by byte; all else is a reset value. -/
theorem resetLosesAllState : Obligations.ResetLosesAllState := by
  refine ⟨fun s hrunning => ?_, fun s hreset => congrArg Host.Outcome.next (if_pos hreset), fun s a hreset => ?_,
    fun s a hrunning => congrArg Host.Outcome.next (if_neg (by rw [hrunning]; exact Bool.false_ne_true))⟩
  · have hassert := State.assertReset_of_running hrunning
      ⟨(Config.outPassed s.freeIndex).val, Config.outBits s.freeIndex⟩
      ⟨(Config.retPassed s.freeIndex).val, Config.retBits s.freeIndex⟩
    refine ⟨_, if s.outPassing then Config.outPassed s.freeIndex else 262,
      if s.inFlight.isSome then Config.retPassed s.freeIndex else 502, Config.outBits s.freeIndex,
      Config.retBits s.freeIndex, congrArg Host.Outcome.next hassert, rfl, rfl, fun h => ?_, fun hpassing hpast => ?_,
      fun h => ?_, fun f g hf hg => ?_, fun f g hf hg => ?_⟩
    · rw [h]; rfl
    · rw [hpassing.not_passing hpast]; rfl
    · rw [h]; rfl
    · obtain ⟨u, hu, hcut⟩ := State.outCut_spec ⟨(Config.outPassed s.freeIndex).val, Config.outBits s.freeIndex⟩ hf hg
      have ho : (if s.outPassing then Config.outPassed s.freeIndex else 262 : Fin 263).val =
          if s.outPassing then (Config.outPassed s.freeIndex).val else 262 := by split <;> rfl
      rw [← ho] at hcut
      exact ⟨u, hu, hcut, outFrame_cut_spec hcut⟩
    · obtain ⟨u, hu, hcut⟩ := State.retCut_spec ⟨(Config.retPassed s.freeIndex).val, Config.retBits s.freeIndex⟩
        (State.replyWritten_of_frame hf) hg
      have hn : (if s.inFlight.isSome then Config.retPassed s.freeIndex else 502 : Fin 503).val =
          if s.inFlight.isSome then (Config.retPassed s.freeIndex).val else 502 := by split <;> rfl
      rw [← hn] at hcut
      exact ⟨u, hu, hcut, retFrame_cut_spec hcut⟩
  · refine ⟨_, congrArg Host.Outcome.next (State.releaseReset_of_reset hreset a), rfl, rfl, rfl, rfl, rfl, rfl, rfl, rfl,
      rfl, rfl, rfl, rfl, rfl, fun i => Vector.getElem_replicate _, fun g => Vector.getElem_replicate _, fun k => ?_⟩
    have hstand := State.stand_afterReset a k
    unfold State.stand at hstand ⊢
    dsimp only
    rw [hstand]
    exact ⟨rfl, rfl, rfl, rfl, rfl, rfl, rfl, rfl, rfl, rfl⟩

end Sys2Proof.Machine
end

section
/-!
SUPPORT. The layouts of the items of READ-ITEM (R171-R173): a packed payload carries its fields, the items of
every class, and O48.
-/
namespace Sys2Proof.Machine

/-! ### A packed payload carries its fields -/

/-- A field as `pack` places it. -/
def ItemField.placed : ItemField → Nat × Nat
  | .num n v => (n, v)
  | .flags l => (1, flagBits l)

theorem testBit_flagBits (l : List Bool) (i : Nat) : (flagBits l).testBit i = l.getD i false := by
  induction l generalizing i with
  | nil => simp [flagBits]
  | cons b rest ih =>
    cases i with
    | zero => cases b <;> simp [flagBits, bit, Nat.testBit_zero]
    | succ i =>
      have hhalf : (bit b + 2 * flagBits rest) / 2 = flagBits rest := by have := bit_le_one b; omega
      rw [flagBits, Nat.testBit_succ, hhalf, ih]
      rfl

/-- The bits of a payload from byte b on are those of the number that stands there. -/
theorem getLsbD_of_div {p : Payload} {b n : Nat} (hp : p.toNat / 256 ^ b = n) (j : Nat) :
    p.getLsbD (8 * b + j) = n.testBit j := by
  rw [← hp, show (256 : Nat) = 2 ^ 8 from rfl, ← pow_mul, Nat.testBit_div_two_pow, BitVec.testBit_toNat,
    Nat.add_comm]

/-- R20: a payload whose bytes from b on are the packed fields carries the fields from byte b on. -/
theorem carries_of_packNat {p : Payload} (fields : List ItemField) {b : Nat}
    (hp : p.toNat / 256 ^ b = packNat (fields.map ItemField.placed)) : Carries p b fields := by
  induction fields generalizing b with
  | nil =>
    intro i hi
    obtain ⟨j, rfl⟩ := Nat.exists_eq_add_of_le hi
    rw [getLsbD_of_div hp, List.map_nil, packNat, Nat.zero_testBit]
  | cons f rest ih =>
    have hrest {n v : Nat} (hf : f.placed = (n, v)) :
        p.toNat / 256 ^ (b + n) = packNat (rest.map ItemField.placed) := by
      rw [pow_add, ← Nat.div_div_eq_div_mul, hp, List.map_cons, hf, packNat,
        Nat.add_mul_div_left _ _ (by positivity), Nat.div_eq_of_lt (Nat.mod_lt v (by positivity)),
        Nat.zero_add]
    cases f with
    | num n v =>
      refine ⟨?_, ih (hrest rfl)⟩
      rw [BitVec.extractLsb'_toNat, Nat.shiftRight_eq_div_pow, pow_mul, pow_mul,
        show (2 : Nat) ^ 8 = 256 from rfl, hp, List.map_cons, ItemField.placed, packNat,
        Nat.add_mul_mod_self_left, Nat.mod_mod]
    | flags l =>
      refine ⟨fun i hi => ?_, ih (hrest rfl)⟩
      have hbyte : packNat ((ItemField.flags l :: rest).map ItemField.placed) % 2 ^ 8 = flagBits l % 2 ^ 8 := by
        rw [List.map_cons, ItemField.placed, packNat]
        omega
      have hmod := congrArg (Nat.testBit · i) hbyte
      simp only [Nat.testBit_mod_two_pow, hi, decide_true, Bool.true_and] at hmod
      rw [getLsbD_of_div hp, hmod, testBit_flagBits]

/-- Packed fields stay below the number of bytes they fill. -/
theorem packNat_lt (fields : List (Nat × Nat)) : packNat fields < 256 ^ packWidth fields := by
  induction fields with
  | nil => simp [packNat, packWidth]
  | cons field rest ih =>
    obtain ⟨n, v⟩ := field
    have hv : v % 256 ^ n < 256 ^ n := Nat.mod_lt v (by positivity)
    have hwidth : packWidth ((n, v) :: rest) = n + packWidth rest := by simp [packWidth]
    calc packNat ((n, v) :: rest) = v % 256 ^ n + 256 ^ n * packNat rest := rfl
      _ < 256 ^ n + 256 ^ n * packNat rest := Nat.add_lt_add_right hv _
      _ = 256 ^ n * (packNat rest + 1) := by ring
      _ ≤ 256 ^ n * 256 ^ packWidth rest := Nat.mul_le_mul_left _ ih
      _ = 256 ^ packWidth ((n, v) :: rest) := by rw [hwidth, pow_add]

/-- R20, R172: a packed payload carries its fields from byte 0 on. -/
theorem carries_pack (fields : List ItemField) (hfit : packWidth (fields.map ItemField.placed) ≤ 16) :
    Carries (pack (fields.map ItemField.placed)) 0 fields := by
  refine carries_of_packNat fields ?_
  have hlt : packNat (fields.map ItemField.placed) < 2 ^ 128 :=
    calc packNat (fields.map ItemField.placed)
      _ < 256 ^ packWidth (fields.map ItemField.placed) := packNat_lt _
      _ ≤ 256 ^ 16 := Nat.pow_le_pow_right (by norm_num) hfit
      _ = 2 ^ 128 := by norm_num
  rw [pow_zero, Nat.div_one, pack, BitVec.toNat_ofNat, Nat.mod_eq_of_lt hlt]

theorem carries_of_pack {p : Payload} {fields : List ItemField} (hp : p = pack (fields.map ItemField.placed))
    (hfit : packWidth (fields.map ItemField.placed) ≤ 16) : Carries p 0 fields :=
  hp ▸ carries_pack fields hfit

theorem carries_zero : Carries 0 0 [] := fun _ _ => BitVec.getLsbD_zero

/-! ### The items of R172 -/

section
variable {st : Stand}

theorem optWord_eq {n : Nat} (o : Option (BitVec n)) : optWord o = (o.map (·.toNat)).getD 0 := by
  cases o <;> rfl

theorem mapEntryItem_of_return {m : SlotMap} {i : Nat} {e : Option RetEntry}
    (h : m.returnEntries[i]? = some e) : mapEntryItem m i = returnEntryItem e := by
  match i, h with
  | 0, h => exact congrArg returnEntryItem (Option.some.inj h)
  | 1, h => exact congrArg returnEntryItem (Option.some.inj h)
  | 2, h => exact congrArg returnEntryItem (Option.some.inj h)
  | 3, h => exact congrArg returnEntryItem (Option.some.inj h)
  | 4, h => exact congrArg returnEntryItem (Option.some.inj h)
  | i + 5, h => exact absurd h (by simp [SlotMap.returnEntries])

theorem mapEntryItem_of_outbound {m : SlotMap} {i : Nat} (hi : 5 ≤ i) {e : Option (Fin 48)}
    (h : m.outboundEntries[i - 5]? = some e) : mapEntryItem m i = outboundEntryItem e := by
  obtain ⟨j, rfl⟩ := Nat.exists_eq_add_of_le' hi
  rw [Nat.add_sub_cancel] at h
  match j, h with
  | 0, h => exact congrArg outboundEntryItem (Option.some.inj h)
  | 1, h => exact congrArg outboundEntryItem (Option.some.inj h)
  | 2, h => exact congrArg outboundEntryItem (Option.some.inj h)
  | 3, h => exact congrArg outboundEntryItem (Option.some.inj h)
  | j + 4, h => exact absurd h (by simp [SlotMap.outboundEntries])

theorem returnEntryItem_carries (e : Option RetEntry) :
    Carries (returnEntryItem e) 0
      (match e with
        | some e => [.num 1 1, .num 1 e.slot.val, .num 1 e.divisor.value]
        | none => []) := by
  cases e with
  | none => exact carries_zero
  | some e => exact carries_of_pack rfl (by simp [packWidth, ItemField.placed])

theorem outboundEntryItem_carries (e : Option (Fin 48)) :
    Carries (outboundEntryItem e) 0
      (match e with
        | some n => [.num 1 1, .num 1 n.val, .num 1 0]
        | none => []) := by
  cases e with
  | none => exact carries_zero
  | some e => exact carries_of_pack rfl (by simp [packWidth, ItemField.placed])

theorem imageMapItem_carries (e : Option (Fin 96 × Fin 96)) :
    Carries (imageMapItem e) 0
      (match e with
        | some (m, n) => [.num 1 1, .num 1 m.val, .num 1 n.val]
        | none => []) := by
  cases e with
  | none => exact carries_zero
  | some e => exact carries_of_pack rfl (by simp [packWidth, ItemField.placed])

theorem requesters_eq_flagBits (v : Group) :
    flagBits ([0, 1, 2, 3, 4, 5, 6, 7].map v.has) = v.requesters.toNat := by
  apply Nat.eq_of_testBit_eq
  intro i
  rw [testBit_flagBits, BitVec.testBit_toNat]
  match i with
  | 0 | 1 | 2 | 3 | 4 | 5 | 6 | 7 => rfl
  | i + 8 => simp

theorem groupStateItem_carries (v : Group) :
    Carries (groupStateItem v) 0
      [.num 1 v.grant.code, .num 1 v.grant.holder, .num 4 v.grant.remaining,
        .flags ([0, 1, 2, 3, 4, 5, 6, 7].map v.has), .num 4 v.stagger] := by
  refine carries_of_pack ?_ (by simp [packWidth, ItemField.placed])
  rw [groupStateItem, ← requesters_eq_flagBits]
  rfl

theorem signalItem_carries (g : Capture) (held : Bool) (l : List Bool) (complete present paste knife : Bool)
    (v n w : Nat)
    (hl : flagBits (held :: g.ref.isSome :: l) =
      flagBits [held, g.ref.isSome, complete, present, paste, knife]) :
    Carries (signalItem g held complete present paste knife v n w) 0
      [.num 1 g.cond.code, .num 2 g.since, .flags (held :: g.ref.isSome :: l),
        .num 1 ((g.ref.map (·.toNat)).getD 0), .num 4 v, .num 1 n, .num 1 w] := by
  refine carries_of_pack ?_ (by simp [packWidth, ItemField.placed])
  rw [signalItem, ← hl, optWord_eq]
  rfl

end

/-! ### READ-ITEM (R173) -/

section
variable {s : State} {r : Request} {k : StandId} {c i : Nat}

theorem classSize_le (c : Nat) : classSize c ≤ 18 := by
  unfold classSize
  split <;> decide

theorem exec_readItem_of_taken (h : s.takesAt r k) (hc : c < 256) (hi : i < classSize c) :
    exec (.readItem r (BitVec.ofNat 16 (256 * c + i))) s =
      .next (s.answer r 1 ((s.item k c i).elim (refuse s .noSuch) (doneWith s))) := by
  have hi256 : i < 256 := by have := classSize_le c; omega
  have hclass := itemClass_ofNat hc hi256
  have hindex := itemIndex_ofNat (c := c) hi256
  have hreadable : readable (BitVec.ofNat 16 (256 * c + i)) = true := by
    simp [readable, hclass, hindex, hi]
  refine congrArg Host.Outcome.next ?_
  rw [hreadable, State.serve_of_taken s r 1 _ k h, readItemAnswer, hclass, hindex]
  cases s.item k c i with
  | none => rfl
  | some p => rfl

theorem exec_readItem_of_item {p : Payload} (h : s.takesAt r k) (hc : c < 256) (hi : i < classSize c)
    (hitem : s.item k c i = some p) :
    exec (.readItem r (BitVec.ofNat 16 (256 * c + i))) s = .next (s.replied r 1 .done p) := by
  rw [exec_readItem_of_taken h hc hi, hitem]
  exact congrArg Host.Outcome.next (State.answer_doneWith r 1 p rfl rfl)

theorem exec_readItem_of_none (h : s.takesAt r k) (hc : c < 256) (hi : i < classSize c)
    (hitem : s.item k c i = none) :
    exec (.readItem r (BitVec.ofNat 16 (256 * c + i))) s = .next (s.replied r 1 .noSuch 0) := by
  rw [exec_readItem_of_taken h hc hi, hitem]
  exact congrArg Host.Outcome.next (State.answer_refuse s r 1 .noSuch)

end

/-! ### Which items there are (R173) -/

section
variable {s : State} {k : StandId} {c i : Nat}

theorem StandState.inService_iff {st : Stand} : st.inService = true ↔ st.state ≠ .offline := by
  simp [Stand.inService]

theorem StandState.inService_eq_false {st : Stand} : st.inService = false ↔ st.state = .offline := by
  simp [Stand.inService]

theorem whenOnline_of_offline {st : Stand} (h : st.state = .offline) (p : Payload) : whenOnline st p = none := by
  simp [whenOnline, StandState.inService_eq_false.mpr h]

theorem whenOnline_of_online {st : Stand} (h : st.state ≠ .offline) (p : Payload) :
    whenOnline st p = some p := by
  simp [whenOnline, StandState.inService_iff.mpr h]

/-- R72: a stand in service holds a running context. -/
theorem Stand.running_of_contextsAgree {st : Stand} (hctx : st.contextsAgree = true) (h : st.state ≠ .offline) :
    ∃ q, st.running = some q := by
  rw [← Option.isSome_iff_exists]
  unfold Stand.contextsAgree at hctx
  cases hs : st.state <;> rw [hs] at hctx h <;> simp_all

/-- R173: the items that are answered NO-SUCH. -/
def State.Absent (s : State) (k : StandId) (c i : Nat) : Prop :=
  (c = 11 ∧ (s.stand k).queue.length ≤ i) ∨ (c ∈ [9, 12, 16, 17] ∧ (s.stand k).state = .offline) ∨
  (c = 13 ∧ (s.stand k).ready = none) ∨ (c = 18 ∧ 1 ≤ i ∧ (s.stand k).state = .offline) ∨
  (c = 18 ∧ i = 0 ∧ s.lineMap = none)

theorem State.item_of_absent (h : s.Absent k c i) : s.item k c i = none := by
  obtain ⟨rfl, h⟩ | ⟨hc, h⟩ | ⟨rfl, h⟩ | ⟨rfl, hi, h⟩ | ⟨rfl, rfl, h⟩ := h
  · simpa [State.item] using h
  · have hrow (p : Payload) := whenOnline_of_offline h p
    have hcases : c = 9 ∨ c = 12 ∨ c = 16 ∨ c = 17 := by simpa using hc
    obtain rfl | rfl | rfl | rfl := hcases
    · exact hrow _
    · simp [State.item, hrow]
    · exact hrow _
    · exact hrow _
  · simp [State.item, h]
  · obtain ⟨j, rfl⟩ := Nat.exists_eq_add_of_le' hi
    match j with
    | 0 | 1 | 2 | 3 | j + 4 => exact whenOnline_of_offline h _
  · simp [State.item, signalRead, h]

theorem State.item_of_not_absent (hctx : (s.stand k).contextsAgree = true) (h : ¬ s.Absent k c i) :
    ∃ p, s.item k c i = some p := by
  obtain ⟨hqueue, honline, hready, hsignal, hline⟩ :
      ¬ (c = 11 ∧ (s.stand k).queue.length ≤ i) ∧ ¬ (c ∈ [9, 12, 16, 17] ∧ (s.stand k).state = .offline) ∧
      ¬ (c = 13 ∧ (s.stand k).ready = none) ∧ ¬ (c = 18 ∧ 1 ≤ i ∧ (s.stand k).state = .offline) ∧
      ¬ (c = 18 ∧ i = 0 ∧ s.lineMap = none) := by
    simpa only [State.Absent, not_or] using h
  have hserves (hc : c ∈ [9, 12, 16, 17]) : (s.stand k).state ≠ .offline := fun hoff => honline ⟨hc, hoff⟩
  match c with
  | 9 | 16 | 17 => exact ⟨_, whenOnline_of_online (hserves (by simp)) _⟩
  | 11 =>
    have hi : i < (s.stand k).queue.length := by simpa using hqueue
    exact ⟨recordItem (s.stand k).queue[i], by simp [State.item, hi]⟩
  | 12 =>
    obtain ⟨q, hq⟩ := Stand.running_of_contextsAgree hctx (hserves (by simp))
    exact ⟨halfOf i (runningItem0 q) (runningItem1 q), by
      simp [State.item, hq, whenOnline_of_online (hserves (by simp))]⟩
  | 13 =>
    obtain ⟨q, hq⟩ := Option.ne_none_iff_exists'.mp fun hnone => hready ⟨rfl, hnone⟩
    exact ⟨halfOf i (readyItem0 q) (readyItem1 q), by simp [State.item, hq]⟩
  | 18 =>
    match i with
    | 0 =>
      have hset : s.lineMap.isSome = true := Option.isSome_iff_ne_none.mpr fun hnone => hline ⟨rfl, rfl, hnone⟩
      exact ⟨_, if_pos hset⟩
    | 1 | 2 | 3 | 4 | j + 5 => exact ⟨_, whenOnline_of_online (fun hoff => hsignal ⟨rfl, by omega, hoff⟩) _⟩
  | 0 | 1 | 2 | 3 | 4 | 5 | 6 | 7 | 8 | 10 | 14 | 15 | c + 19 => exact ⟨_, rfl⟩

end

/-! ### The items of a part, by class -/

section
variable {s : State} {k : StandId} {p : Payload}

theorem halfOf_zero (a b : Payload) : halfOf 0 a b = a := if_pos rfl

theorem halfOf_one (a b : Payload) : halfOf 1 a b = b := if_neg Nat.one_ne_zero

theorem eq_of_whenOnline {st : Stand} {x : Payload} (h : whenOnline st x = some p) : p = x := by
  unfold whenOnline at h
  split at h
  case isTrue => exact (Option.some.inj h).symm
  case isFalse => exact absurd h (Option.some_ne_none p).symm

theorem eq_of_lineRead (h : s.item k 18 0 = some p) :
    p = lineItem s.line (if (s.stand k).state ≠ .offline then (s.stand k).watch.line else 0) := by
  have hread : (if s.lineMap.isSome = true then
      some (lineItem s.line (if (s.stand k).inService = true then (s.stand k).watch.line else 0)) else none) =
      some p := h
  split at hread
  case isTrue => rw [← Option.some.inj hread]; simp only [StandState.inService_iff]
  case isFalse => exact absurd hread (Option.some_ne_none p).symm

theorem eq_of_runningRead {q : RunningContext} {i : Nat} (hq : (s.stand k).running = some q)
    (h : s.item k 12 i = some p) : p = halfOf i (runningItem0 q) (runningItem1 q) := by
  refine eq_of_whenOnline (st := s.stand k) ?_
  rw [← h]
  simp [State.item, hq]

theorem eq_of_readyRead {q : ReadyContext} {i : Nat} (hq : (s.stand k).ready = some q)
    (h : s.item k 13 i = some p) : p = halfOf i (readyItem0 q) (readyItem1 q) := by
  simpa [State.item, hq, eq_comm] using h

theorem State.item_group (s : State) (k : StandId) (g : GroupId) :
    s.item k 6 g.val = some (groupTableItem (s.group g)) ∧
    s.item k 7 g.val = some (groupStateItem (s.group g)) := by
  have hself : Fin.ofNat 4 g.val = g := Fin.ext (Nat.mod_eq_of_lt g.isLt)
  constructor
  · exact congrArg (fun a => some (groupTableItem (s.group a))) hself
  · exact congrArg (fun a => some (groupStateItem (s.group a))) hself

theorem parameterItem_eq (st : Stand) (i : Nat) :
    parameterItem st i = BitVec.ofNat 128 (st.params.get i % 2 ^ 32) := rfl

theorem statusItem0_of_offline {st : Stand} (h : st.state = .offline) :
    statusItem0 st = BitVec.ofNat 128 (if st.pinAsserted then 2 ^ 17 else 0) := by
  rw [statusItem0, StandState.inService_eq_false.mpr h]
  cases st.pinAsserted <;> rfl

theorem statusItem0_carries {st : Stand} (h : st.state ≠ .offline) :
    Carries (statusItem0 st) 0
      [.num 1 st.state.code, .num 1 (armCode st.runningArm),
        .flags [st.requestInhibit, st.pinAsserted, st.inhibited, st.forced, st.braking, st.due, st.urgent,
          st.accelTimer.isSome],
        .num 1 (st.driveMode .a).code, .num 1 (st.driveMode .b).code, .num 2 (st.speedRef .a),
        .num 2 (st.speedRef .b), .num 4 (st.accelTimer.getD 0)] := by
  refine carries_of_pack ?_ (by simp [packWidth, ItemField.placed])
  rw [statusItem0, if_pos (StandState.inService_iff.mpr h)]
  rfl

theorem statusItem1_carries (st : Stand) :
    Carries (statusItem1 st) 0
      (if st.state ≠ .offline then
        [.flags [true, st.requestStart.isSome, st.grant.isSome, (st.grant.map (·.urgent)).getD false],
          .num 4 ((st.requestStart.map (·.toNat)).getD 0), .num 4 ((st.grant.map (·.wait)).getD 0)]
      else []) := by
  split
  case isTrue h =>
    refine carries_of_pack ?_ (by simp [packWidth, ItemField.placed])
    rw [statusItem1, if_pos (StandState.inService_iff.mpr h), optWord_eq]
    cases st.grant <;> rfl
  case isFalse h =>
    rw [statusItem1, StandState.inService_eq_false.mpr (not_not.mp h)]
    exact carries_zero

theorem armFlagsItem_carries (st : Stand) :
    Carries (armFlagsItem st) 0
      (if st.state ≠ .offline then
        [.flags [st.mountPending, st.level .a, st.level .b, st.armA.unload, st.armB.unload]]
      else []) := by
  split
  case isTrue h =>
    refine carries_of_pack ?_ (by simp [packWidth, ItemField.placed])
    rw [armFlagsItem, if_pos (StandState.inService_iff.mpr h)]
    rfl
  case isFalse h =>
    rw [armFlagsItem, StandState.inService_eq_false.mpr (not_not.mp h)]
    exact carries_zero

theorem measurementItem0_carries {st : Stand} {q : RunningContext} (h : st.running = some q) :
    Carries (measurementItem0 st) 0
      [.num 2 st.armA.rate, .num 2 st.armB.rate, .num 2 q.dRun, .num 1 q.caliper,
        .flags [q.valid, st.acceptOpen, st.lRem.isSome, st.tTs.isSome, st.lastDg.isSome, st.sNew.isSome,
          st.window.isSome, st.gaugeWindow.isSome],
        .num 4 (st.lRem.getD 0)] := by
  refine carries_of_pack ?_ (by simp [packWidth, ItemField.placed])
  simp only [measurementItem0, Stand.dRun, Stand.diameterValid, h]
  rfl

theorem measurementItem1_carries (st : Stand) :
    Carries (measurementItem1 st) 0
      [.num 4 (st.tTs.getD 0), .num 2 (st.lastDg.getD 0), .num 3 (st.sNew.getD 0),
        .num 1 ((st.gaugeWindow.map (·.count)).getD 0)] := by
  refine carries_of_pack ?_ (by simp [packWidth, ItemField.placed])
  unfold measurementItem1
  cases st.gaugeWindow <;> rfl

theorem runningItem1_carries (q : RunningContext) :
    Carries (runningItem1 q) 0
      [.num 2 ((q.anchor.map (·.diameter)).getD 0), .num 6 ((q.anchor.map (·.travel)).getD 0)] := by
  refine carries_of_pack ?_ (by simp [packWidth, ItemField.placed])
  unfold runningItem1
  cases q.anchor <;> rfl

theorem readyItem1_carries (q : ReadyContext) :
    Carries (readyItem1 q) 0 [.num 2 (q.dNew.getD 0), .num 2 ((q.tape.map (·.toNat)).getD 0)] := by
  refine carries_of_pack ?_ (by simp [packWidth, ItemField.placed])
  rw [readyItem1, optWord_eq]
  rfl

theorem faultItem_carries {st : Stand} {f : FaultRecord} (h : st.record = some f) :
    Carries (faultItem st) 0
      [.flags [true, f.fireIssued, f.further, f.signal.isSome], .num 1 f.kind.code, .num 4 f.cycle.toNat,
        .num 1 f.stateAt.code, .num 1 (armCode f.arm), .num 1 ((f.signal.map (·.code)).getD 0)] := by
  refine carries_of_pack ?_ (by simp [packWidth, ItemField.placed])
  unfold faultItem
  rw [h]
  cases hsignal : f.signal <;> simp [hsignal, ItemField.placed]

theorem planItem0_carries {st : Stand} {f : FirePlan} (h : st.sched.plan = some f) :
    Carries (planItem0 st) 0
      [.flags [true, f.clamped, f.late, f.windowEnd.isSome, f.lag.isSome], .num 4 f.fire.cycle.toNat,
        .num 1 f.fire.offset, .num 2 f.dRun, .num 4 f.delay, .num 1 f.knifeState.code] := by
  refine carries_of_pack ?_ (by simp [packWidth, ItemField.placed])
  unfold planItem0
  rw [h]
  rfl

theorem planItem1_carries {st : Stand} {f : FirePlan} (h : st.sched.plan = some f) :
    Carries (planItem1 st) 0
      [.num 4 f.knife.cycle.toNat, .num 1 f.knife.offset, .num 4 ((f.windowEnd.map (·.cycle.toNat)).getD 0),
        .num 1 ((f.windowEnd.map (·.offset)).getD 0), .num 4 (f.lag.getD 0)] := by
  refine carries_of_pack ?_ (by simp [packWidth, ItemField.placed])
  unfold planItem1
  rw [h]
  cases hend : f.windowEnd <;> simp [hend, ItemField.placed, opt]

theorem planItem_of_none {st : Stand} (h : st.sched.plan = none) (i : Nat) :
    halfOf i (planItem0 st) (planItem1 st) = 0 := by
  unfold halfOf planItem0 planItem1
  rw [h]
  exact ite_self 0

theorem schedulerItem_carries (c : Scheduler) :
    Carries (schedulerItem c) 0
      [.flags [c.target.isSome, c.nRef.isSome, c.prepared.isSome], .num 3 (c.target.getD 0),
        .num 2 (c.nRef.getD 0), .num 2 c.tapeTravel, .num 4 ((c.prepared.map (·.cycle.toNat)).getD 0),
        .num 1 ((c.prepared.map (·.offset)).getD 0)] := by
  refine carries_of_pack ?_ (by simp [packWidth, ItemField.placed])
  unfold schedulerItem
  cases c.prepared <;> simp [ItemField.placed, opt]

theorem historyComplete_eq {α : Type} (h : List α) : historyComplete h = decide (h.length = 17) := by
  unfold historyComplete
  cases hlen : decide (h.length = 17) <;> simp_all

theorem lineItem_carries (g : Line) (w : Nat) :
    Carries (lineItem g w) 0
      [.num 1 g.cap.cond.code, .num 2 g.cap.since,
        .flags [g.pos.isSome, g.cap.ref.isSome, decide (g.hist.length = 17)],
        .num 1 ((g.cap.ref.map (·.toNat)).getD 0), .num 4 ((g.pos.map (·.toNat)).getD 0),
        .num 1 g.hist.length, .num 1 w] := by
  rw [lineItem, historyComplete_eq, optWord_eq]
  exact signalItem_carries g.cap _ [_] _ _ _ _ _ _ _ rfl

theorem spindleItem_carries (st : Stand) (x : Arm) :
    Carries (spindleItem st x) 0
      [.num 1 (st.arm x).spindle.cap.cond.code, .num 2 (st.arm x).spindle.cap.since,
        .flags [(st.arm x).spindle.angle.isSome, (st.arm x).spindle.cap.ref.isSome,
          decide ((st.arm x).spindle.hist.length = 17)],
        .num 1 (((st.arm x).spindle.cap.ref.map (·.toNat)).getD 0),
        .num 4 (((st.arm x).spindle.angle.map (·.toNat)).getD 0), .num 1 (st.arm x).spindle.hist.length,
        .num 1 (if x = st.readyArm then st.watch.spindle else 0)] := by
  rw [spindleItem, historyComplete_eq, optWord_eq]
  exact signalItem_carries _ _ [_] _ _ _ _ _ _ _ rfl

theorem statusSignalItem_carries (st : Stand) :
    Carries (statusSignalItem st) 0
      [.num 1 st.status.cap.cond.code, .num 2 st.status.cap.since,
        .flags [st.status.home.isSome, st.status.cap.ref.isSome, false, false,
          (st.status.home.map (·.paste)).getD false, (st.status.home.map (·.knife)).getD false],
        .num 1 ((st.status.cap.ref.map (·.toNat)).getD 0), .num 4 0, .num 1 0, .num 1 st.watch.status] := by
  refine signalItem_carries st.status.cap _ [false, false, _, _] _ _ _ _ _ _ _ ?_
  cases st.status.home <;> rfl

theorem partByte_eq (s : State) :
    s.partByte = flagBits [decide (s.log ≠ []), s.overrun, decide (∃ j, (s.stand j).claimLost = true),
      decide (∃ j, (s.stand j).linkLoss = true)] := by
  have hany (f : StandId → Bool) : decide (∃ j, f j = true) = allStands.any f := by
    rw [Bool.eq_iff_iff, decide_eq_true_iff, any_allStands_iff]
  have hlog : decide (s.log ≠ []) = !s.log.isEmpty := by cases s.log <;> rfl
  rw [State.partByte, hany, hany, hlog]

theorem partStatusItem_carries (s : State) :
    Carries (partStatusItem s) 0
      [.num 1 s.log.length,
        .flags [decide (s.log ≠ []), s.overrun, decide (∃ j, (s.stand j).claimLost = true),
          decide (∃ j, (s.stand j).linkLoss = true)],
        .num 1 s.nodeAddr.toNat, .flags [s.engineCycle.isSome, s.watchArmed, s.lineMap.isSome],
        .num 4 ((s.engineCycle.map (·.toNat)).getD 0), .num 3 (if s.lineMap = none then 0 else s.lineSpeed),
        .num 3 (if s.lineMap = none then 0 else s.lineInc)] := by
  refine carries_of_pack ?_ (by simp [packWidth, ItemField.placed])
  rw [partStatusItem, partByte_eq, optWord_eq]
  cases s.lineMap <;> rfl

end

/-- Settles O48: what READ-ITEM answers is `State.item`, and each item is a packed list of the fields of its
class (`carries_of_pack`). -/
theorem readItemChangesNothing : Obligations.ReadItemChangesNothing := by
  refine ⟨rfl, rfl, rfl, rfl, rfl, rfl, rfl, ?_⟩
  intro s r k c i htakes hctx hc hi sel st absent
  refine ⟨fun habsent => exec_readItem_of_none htakes hc hi (State.item_of_absent habsent), fun hpresent => ?_⟩
  obtain ⟨p, hp⟩ := State.item_of_not_absent (hctx k) hpresent
  refine ⟨p, exec_readItem_of_item htakes hc hi hp, ?_, ?_, ?_, ?_, ?_, ?_, ?_, ?_, ?_, ?_, ?_, ?_, ?_, ?_, ?_,
    ?_, ?_, ?_, ?_, ?_, ?_, ?_, ?_, ?_, ?_, ?_, ?_, ?_, ?_, ?_, ?_, ?_⟩
  · rintro rfl rfl hoffline
    obtain rfl : p = statusItem0 st := (Option.some.inj hp).symm.trans (halfOf_zero _ _)
    exact statusItem0_of_offline hoffline
  · rintro rfl
    obtain rfl : parameterItem st i = p := Option.some.inj hp
    exact parameterItem_eq st i
  · rintro rfl hnone
    obtain rfl : faultItem st = p := Option.some.inj hp
    rw [faultItem, hnone]
  · rintro rfl
    obtain rfl : parameterItem st i = p := Option.some.inj hp
    exact carries_of_pack rfl (by simp [packWidth, ItemField.placed])
  · rintro rfl e he
    obtain rfl : mapEntryItem st.map i = p := Option.some.inj hp
    rw [mapEntryItem_of_return he]
    exact returnEntryItem_carries e
  · rintro rfl h5 e he
    obtain rfl : mapEntryItem st.map i = p := Option.some.inj hp
    rw [mapEntryItem_of_outbound h5 he]
    exact outboundEntryItem_carries e
  · rintro rfl
    obtain rfl : returnEntryItem s.lineMap = p := Option.some.inj hp
    exact returnEntryItem_carries s.lineMap
  · rintro rfl
    obtain rfl : imageMapItem s.imageMap = p := Option.some.inj hp
    exact imageMapItem_carries s.imageMap
  · rintro rfl g rfl
    rw [State.item_grade s k (Fin.ext (Nat.mod_eq_of_lt g.isLt))] at hp
    obtain rfl := Option.some.inj hp
    exact carries_of_pack rfl (by simp [packWidth, ItemField.placed])
  · rintro rfl g rfl
    obtain rfl := Option.some.inj ((State.item_group s k g).1.symm.trans hp)
    exact carries_of_pack rfl (by simp [packWidth, ItemField.placed])
  · rintro rfl g rfl
    obtain rfl := Option.some.inj ((State.item_group s k g).2.symm.trans hp)
    exact groupStateItem_carries (s.group g)
  · rintro rfl rfl honline
    obtain rfl : p = statusItem0 st := (Option.some.inj hp).symm.trans (halfOf_zero _ _)
    exact statusItem0_carries honline
  · rintro rfl rfl
    obtain rfl : p = statusItem1 st := (Option.some.inj hp).symm.trans (halfOf_one _ _)
    exact statusItem1_carries st
  · rintro q rfl rfl hq
    obtain rfl : p = measurementItem0 st := (eq_of_whenOnline hp).trans (halfOf_zero _ _)
    exact measurementItem0_carries hq
  · rintro rfl rfl
    obtain rfl : p = measurementItem1 st := (eq_of_whenOnline hp).trans (halfOf_one _ _)
    exact measurementItem1_carries st
  · rintro rfl
    obtain rfl : queueLengthItem st = p := Option.some.inj hp
    exact carries_of_pack rfl (by simp [packWidth, ItemField.placed])
  · rintro q rfl hq
    obtain rfl : recordItem q = p := Option.some.inj ((congrArg (Option.map recordItem) hq).symm.trans hp)
    exact carries_of_pack rfl (by simp [packWidth, ItemField.placed])
  · rintro q rfl rfl hq
    obtain rfl : p = runningItem0 q := (eq_of_runningRead hq hp).trans (halfOf_zero _ _)
    exact carries_of_pack rfl (by simp [packWidth, ItemField.placed])
  · rintro q rfl rfl hq
    obtain rfl : p = runningItem1 q := (eq_of_runningRead hq hp).trans (halfOf_one _ _)
    exact runningItem1_carries q
  · rintro q rfl rfl hq
    obtain rfl : p = readyItem0 q := (eq_of_readyRead hq hp).trans (halfOf_zero _ _)
    exact carries_of_pack rfl (by simp [packWidth, ItemField.placed])
  · rintro q rfl rfl hq
    obtain rfl : p = readyItem1 q := (eq_of_readyRead hq hp).trans (halfOf_one _ _)
    exact readyItem1_carries q
  · rintro rfl
    obtain rfl : armFlagsItem st = p := Option.some.inj hp
    exact armFlagsItem_carries st
  · rintro f rfl hf
    obtain rfl : faultItem st = p := Option.some.inj hp
    exact faultItem_carries hf
  · rintro rfl hnone
    obtain rfl : p = halfOf i (planItem0 st) (planItem1 st) := eq_of_whenOnline hp
    exact planItem_of_none hnone i
  · rintro f rfl rfl hf
    obtain rfl : p = planItem0 st := (eq_of_whenOnline hp).trans (halfOf_zero _ _)
    exact planItem0_carries hf
  · rintro f rfl rfl hf
    obtain rfl : p = planItem1 st := (eq_of_whenOnline hp).trans (halfOf_one _ _)
    exact planItem1_carries hf
  · rintro rfl
    obtain rfl : p = schedulerItem st.sched := eq_of_whenOnline hp
    exact schedulerItem_carries st.sched
  · rintro rfl rfl
    obtain rfl := eq_of_lineRead hp
    exact lineItem_carries s.line _
  · rintro x rfl hx
    obtain rfl : p = spindleItem st x := by
      cases x with
      | a => obtain rfl : i = 1 := hx; exact eq_of_whenOnline hp
      | b => obtain rfl : i = 2 := hx; exact eq_of_whenOnline hp
    exact spindleItem_carries st x
  · rintro x rfl hx
    obtain rfl : p = gaugeItem st x := by
      cases x with
      | a => obtain rfl : i = 3 := hx; exact eq_of_whenOnline hp
      | b => obtain rfl : i = 4 := hx; exact eq_of_whenOnline hp
    exact signalItem_carries _ _ [false, _] _ _ _ _ _ _ _ rfl
  · rintro rfl rfl
    obtain rfl : p = statusSignalItem st := eq_of_whenOnline hp
    exact statusSignalItem_carries st
  · rintro rfl
    obtain rfl : partStatusItem s = p := Option.some.inj hp
    exact partStatusItem_carries s

end Sys2Proof.Machine
end

section
/-!
SUPPORT. A pass over the stands of which each step touches one; the log after entries join it; link loss at one stand
and at all, and O10.
-/
namespace Sys2Proof.Machine

/-! ### A pass that touches one stand at a time -/

section
variable {σ β : Type} {view : σ → StandId → β} {f : σ → StandId → σ}

/-- A pass leaves what it shows of a stand that is not in it. -/
theorem foldl_view_of_not_mem (others : ∀ t j k, k ≠ j → view (f t j) k = view t k) {l : List StandId} {k : StandId}
    (hk : k ∉ l) (s : σ) : view (l.foldl f s) k = view s k := by
  induction l generalizing s with
  | nil => rfl
  | cons j l ih =>
    obtain ⟨hne, hrest⟩ := not_or.mp (mt List.mem_cons.mpr hk)
    exact (ih hrest (f s j)).trans (others s j k hne)

/-- A pass makes of a stand what its own step makes of it, after the steps of the stands before. -/
theorem foldl_view_at (others : ∀ t j k, k ≠ j → view (f t j) k = view t k) {l : List StandId} (hl : l.Nodup)
    {k : StandId} (hk : k ∈ l) (s : σ) :
    ∃ pre : List StandId, k ∉ pre ∧ view (l.foldl f s) k = view (f (pre.foldl f s) k) k := by
  obtain ⟨pre, post, rfl⟩ := List.append_of_mem hk
  obtain ⟨-, hpost, hdisjoint⟩ := List.nodup_append.mp hl
  refine ⟨pre, fun hmem => hdisjoint k hmem k List.mem_cons_self rfl, ?_⟩
  rw [List.foldl_append, List.foldl_cons]
  exact foldl_view_of_not_mem others (List.nodup_cons.mp hpost).1 _

end

/-! ### The log after entries join it (R162, R163) -/

theorem insertKeyed_perm {α : Type} (key : α → Nat) (x : α) (l : List α) : (insertKeyed key x l).Perm (x :: l) := by
  induction l with
  | nil => exact .refl _
  | cons y l ih =>
    unfold insertKeyed
    split
    case isTrue => exact .refl _
    case isFalse => exact (ih.cons y).trans (.swap x y l)

/-- An open order is an order of the same elements. -/
theorem sortKeyed_perm {α : Type} (key : α → Nat) (l : List α) : (sortKeyed key l).Perm l := by
  induction l with
  | nil => exact .refl _
  | cons x l ih => exact (insertKeyed_perm key x _).trans (ih.cons x)

/-- R162, R163: of more than 32 entries the oldest are lost, and the overrun flag tells. -/
theorem State.foldl_appendEntry_log (l : List LogEntry) {s : State} (h : s.log.length ≤ 32) :
    (l.foldl State.appendEntry s).log = (s.log ++ l).drop (s.log.length + l.length - 32) ∧
    (l.foldl State.appendEntry s).overrun = (s.overrun || decide (32 < s.log.length + l.length)) := by
  induction l generalizing s with
  | nil =>
    have hnone : s.log.length - 32 = 0 := by omega
    have hnot : ¬ 32 < s.log.length := by omega
    simp [hnone, hnot]
  | cons e l ih =>
    have hpush : (s.appendEntry e).log = (if s.log.length < 32 then s.log else s.log.drop 1) ++ [e] :=
      pushEntry_of_bounded h e
    have hover : (s.appendEntry e).overrun = (s.overrun || decide (32 ≤ s.log.length)) := rfl
    obtain ⟨hlog, hoverrun⟩ := ih (s := s.appendEntry e) (pushEntry_length s.log e h)
    rw [List.foldl_cons, hlog, hoverrun, hpush, hover]
    by_cases hfull : s.log.length < 32
    · rw [if_pos hfull]
      have hnot : ¬ 32 ≤ s.log.length := by omega
      simp [hnot, Nat.add_assoc, Nat.add_comm 1]
    · rw [if_neg hfull]
      have hlen : s.log.length = 32 := by omega
      have hone : 1 ≤ s.log.length := by omega
      refine ⟨?_, by simp [hlen]⟩
      rw [show List.drop 1 s.log ++ [e] ++ l = List.drop 1 (s.log ++ e :: l) by
        rw [List.drop_append_of_le_length hone]; simp, List.drop_drop]
      congr 1
      simp
      omega

/-- R162, R163: what the log and its overrun flag become when the entries formed by an event join. -/
theorem State.joinLog_log {s : State} (h : s.log.length ≤ 32) :
    ∃ es, es.Perm s.formed ∧ s.joinLog.log = (s.log ++ es).drop (s.log.length + es.length - 32) ∧
      s.joinLog.overrun = (s.overrun || decide (32 < s.log.length + es.length)) :=
  ⟨_, sortKeyed_perm _ _, State.foldl_appendEntry_log _ (s := { s with formed := [] }) h⟩

theorem Stand.logEntry_eq_some {st : Stand} {k : StandId} {e : LogEntry} (h : st.logEntry k .aborted = some e) :
    ∃ old new p q, st.running = some old ∧ st.ready = some new ∧ st.sched.plan = some p ∧ st.kept = some q ∧
      e = sequenceEntry k .aborted old new p q none := by
  unfold Stand.logEntry at h
  split at h
  case h_1 old new p q hold hnew hp hq => exact ⟨old, new, p, q, hold, hnew, hp, hq, (Option.some.inj h).symm⟩
  case h_2 => cases h

/-- R67, R119: a stand after its fire has all that its entry needs. -/
theorem Stand.logEntry_of_contextsAgree {st : Stand} (hctx : st.contextsAgree = true)
    (h : st.state.afterFire = true) (k : StandId) (o : LogOutcome) : ∃ e, st.logEntry k o = some e := by
  have hparts : st.running.isSome = true ∧ st.ready.isSome = true ∧ st.sched.plan.isSome = true ∧
      st.kept.isSome = true := by
    unfold Stand.contextsAgree at hctx
    rcases (StandState.afterFire_iff _).mp h with hs | hs <;> rw [hs] at hctx <;>
      simp only [Bool.and_eq_true, Stand.planIs, Stand.readyIs] at hctx <;>
      obtain ⟨⟨⟨hrun, hready⟩, -⟩, hkept, hplan⟩ := hctx <;>
      refine ⟨hrun, ?_, ?_, hkept⟩ <;> split at hready <;> split at hplan <;> simp_all
  obtain ⟨old, hold⟩ := Option.isSome_iff_exists.mp hparts.1
  obtain ⟨new, hnew⟩ := Option.isSome_iff_exists.mp hparts.2.1
  obtain ⟨p, hp⟩ := Option.isSome_iff_exists.mp hparts.2.2.1
  obtain ⟨q, hq⟩ := Option.isSome_iff_exists.mp hparts.2.2.2
  unfold Stand.logEntry
  rw [hold, hnew, hp, hq]
  exact ⟨_, rfl⟩

/-! ### Link loss at one stand -/

/-- R141, R143: what a fault makes of a stand in service. -/
def Stand.struck (st : Stand) (kind : FaultKind) (c : Word) : Stand :=
  if st.state = .fault then st.markFurther else st.enterFault kind c none

theorem Stand.struck_state (st : Stand) (kind : FaultKind) (c : Word) : (st.struck kind c).state = .fault := by
  unfold Stand.struck
  split
  case isTrue h =>
    unfold Stand.markFurther
    split <;> exact h
  case isFalse => rfl

theorem Stand.struck_record_of_fault {st : Stand} (h : st.state = .fault) (kind : FaultKind) (c : Word) :
    (st.struck kind c).record = st.record.map FaultRecord.marked := by
  unfold Stand.struck
  rw [if_pos h]
  unfold Stand.markFurther
  cases hrec : st.record with
  | none => exact hrec
  | some r => rfl

theorem Stand.struck_record_of_service {st : Stand} (h : st.state ≠ .fault) (kind : FaultKind) (c : Word) :
    (st.struck kind c).record = some (st.latched kind c none) := by
  unfold Stand.struck
  rw [if_neg h]
  exact Stand.enterFault_record _ _ _ _

section
variable {s : State} {k : StandId}

theorem State.takeFault_struck (h : (s.stand k).state ≠ .offline) (kind : FaultKind) :
    (s.takeFault k kind none).stand k = (s.stand k).struck kind s.cycle := by
  unfold Stand.struck
  split
  case isTrue hfault => rw [s.takeFault_of_fault k kind none hfault, State.stand_modStand, if_pos rfl]
  case isFalse hfault => exact State.takeFault_stand_self kind none h hfault

/-- R135, R136: a fault changes the groups as leaving the state does. -/
theorem State.takeFault_group (s : State) (k : StandId) (kind : FaultKind) (sig : Option StaleSignal) (g : GroupId) :
    (s.takeFault k kind sig).group g = (s.leaveGroup k).group g := by
  by_cases hoffline : (s.stand k).state = .offline
  · rw [s.takeFault_of_offline k kind sig hoffline, State.leaveGroup_of_idle (by rw [hoffline]; exact ⟨rfl, nofun⟩)]
  by_cases hfault : (s.stand k).state = .fault
  · rw [s.takeFault_of_fault k kind sig hfault, State.leaveGroup_of_idle (by rw [hfault]; exact ⟨rfl, nofun⟩)]
    rfl
  by_cases hfire : (s.stand k).state.afterFire = true
  · rw [State.takeFault_of_afterFire hfire, State.leaveGroup_of_afterFire hfire]
    rfl
  · rw [s.takeFault_of_service k kind sig hoffline hfault, if_neg hfire]
    rfl

/-- R128: a stand that leaves its state changes the grant of no group it does not hold. -/
theorem State.leaveGroup_grant_of_not_held (hs : GroupsAgree s) {g : GroupId} (h : (s.group g).grant ≠ .held k) :
    ((s.leaveGroup k).group g).grant = (s.group g).grant := by
  by_cases hg : g = s.groupOf k
  · subst hg
    have hnot : (s.stand k).state.holdsGrant = false :=
      Bool.eq_false_iff.mpr fun hholds => h (hs.2.1 k hholds)
    by_cases hmatched : (s.stand k).state = .matched
    · rw [State.leaveGroup_of_matched hmatched, State.group_setGroup_same]
      rfl
    · rw [State.leaveGroup_of_idle ⟨hnot, hmatched⟩]
  · rw [State.leaveGroup_group_other s k hg]

/-- R135, R136: what leaving its state makes of the group the stand holds. -/
theorem State.leaveGroup_grant_of_held (hs : GroupsAgree s) {g : GroupId} (h : (s.group g).grant = .held k) :
    ((s.leaveGroup k).group g).grant =
      if (s.stand k).state = .firingPending ∨ (s.group g).stagger = 0 then .free
      else .spacing (s.group g).stagger s.stepPending := by
  obtain ⟨hholds, rfl⟩ := hs.2.2.1 g k h
  by_cases hpending : (s.stand k).state = .firingPending
  · rw [if_pos (.inl hpending), ((s.leaveGroup_groups k).2.2.1 hpending)]
  · have hfire : (s.stand k).state.afterFire = true := by
      revert hholds hpending
      cases (s.stand k).state <;> decide
    have hor : ((s.stand k).state = .firingPending ∨ (s.group (s.groupOf k)).stagger = 0) ↔
        (s.group (s.groupOf k)).stagger = 0 := or_iff_right hpending
    rw [State.leaveGroup_of_afterFire hfire, State.group_setGroup_same]
    simp only [hor]
    rfl

/-- R161: the entries that a fault other than the confirm timeout forms of a stand. -/
def Stand.abortedEntries (st : Stand) (k : StandId) : List LogEntry :=
  if st.state.afterFire then (st.logEntry k .aborted).toList else []

theorem State.takeFault_formed_aborted (s : State) (k : StandId) {kind : FaultKind} (hkind : kind.outcome = .aborted)
    (sig : Option StaleSignal) :
    (s.takeFault k kind sig).formed = s.formed ++ (s.stand k).abortedEntries k := by
  unfold Stand.abortedEntries
  split
  case isTrue hfire =>
    rw [State.takeFault_of_afterFire hfire, hkind]
    rfl
  case isFalse hfire =>
    rw [State.takeFault_formed kind sig (by simpa using hfire), List.append_nil]

theorem State.linkLossAt_stand (h : (s.stand k).inService = true) :
    (s.linkLossAt k).stand k = { (s.stand k).struck .linkLoss s.cycle with linkLoss := true } := by
  rw [State.linkLossAt, if_pos h, State.stand_modStand, if_pos rfl,
    State.takeFault_struck ((Stand.inService_iff _).mp h)]

theorem State.linkLossAt_other (s : State) {j k : StandId} (h : j ≠ k) : (s.linkLossAt k).stand j = s.stand j :=
  (State.linkLossAt_actsAt (cmd := .linkLoss) (agree := False) s k).others j h

theorem State.linkLossAt_group (s : State) (k : StandId) (g : GroupId) :
    (s.linkLossAt k).group g = (s.leaveGroup k).group g := by
  unfold State.linkLossAt
  split
  case isTrue => exact s.takeFault_group k .linkLoss none g
  case isFalse h =>
    have hoffline : (s.stand k).state = .offline := StandState.inService_eq_false.mp (by simpa using h)
    rw [State.leaveGroup_of_idle (by rw [hoffline]; exact ⟨rfl, nofun⟩)]

theorem State.linkLossAt_formed (s : State) (k : StandId) :
    (s.linkLossAt k).formed = s.formed ++ (s.stand k).abortedEntries k := by
  unfold State.linkLossAt
  split
  case isTrue => exact s.takeFault_formed_aborted k rfl none
  case isFalse h =>
    have hoffline : (s.stand k).state = .offline := StandState.inService_eq_false.mp (by simpa using h)
    rw [Stand.abortedEntries, hoffline]
    exact (List.append_nil _).symm

end

/-! ### Link loss at all stands -/

section
variable {s : State} {k : StandId}

theorem State.foldl_linkLossAt_stand {k : StandId} (hk : (s.stand k).inService = true) :
    (allStands.foldl State.linkLossAt s).stand k =
      { (s.stand k).struck .linkLoss s.cycle with linkLoss := true } := by
  obtain ⟨pre, hpre, hview⟩ := foldl_view_at (view := State.stand) (fun t j k hne => t.linkLossAt_other hne)
    allStands_nodup (mem_allStands k) s
  have hsame := foldl_view_of_not_mem (view := State.stand) (fun t j k hne => t.linkLossAt_other hne) hpre s
  have hcycle : (pre.foldl State.linkLossAt s).cycle = s.cycle := by rw [State.foldl_linkLossAt_frame]; rfl
  rw [hview, State.linkLossAt_stand (by rw [hsame]; exact hk), hsame, hcycle]

theorem State.linkLossAt_of_offline (h : (s.stand k).inService = false) : s.linkLossAt k = s := by
  unfold State.linkLossAt
  rw [h]
  rfl

theorem State.foldl_linkLossAt_stand_offline (hk : (s.stand k).inService = false) :
    (allStands.foldl State.linkLossAt s).stand k = s.stand k := by
  obtain ⟨pre, hpre, hview⟩ := foldl_view_at (view := State.stand) (fun t j k hne => t.linkLossAt_other hne)
    allStands_nodup (mem_allStands k) s
  have hsame := foldl_view_of_not_mem (view := State.stand) (fun t j k hne => t.linkLossAt_other hne) hpre s
  rw [hview, State.linkLossAt_of_offline (by rw [hsame]; exact hk), hsame]

/-- R135, R136: the grant of a group at a link loss is that which its holder leaves it with. -/
theorem State.foldl_linkLossAt_grant_of_not_held {l : List StandId} {g : GroupId} (hs : GroupsAgree s)
    (h : ∀ j ∈ l, (s.group g).grant ≠ .held j) :
    ((l.foldl State.linkLossAt s).group g).grant = (s.group g).grant := by
  induction l generalizing s with
  | nil => rfl
  | cons j l ih =>
    have hstep : ((s.linkLossAt j).group g).grant = (s.group g).grant := by
      rw [State.linkLossAt_group, State.leaveGroup_grant_of_not_held hs (h j List.mem_cons_self)]
    rw [List.foldl_cons, ih (hs.linkLossAt j) fun i hi => by rw [hstep]; exact h i (List.mem_cons_of_mem j hi), hstep]

theorem State.foldl_linkLossAt_stagger (l : List StandId) (g : GroupId) :
    ((l.foldl State.linkLossAt s).group g).stagger = (s.group g).stagger := by
  induction l generalizing s with
  | nil => rfl
  | cons j l ih =>
    rw [List.foldl_cons, ih]
    exact (State.linkLossAt_actsAt (cmd := .linkLoss) (agree := False) s j).stagger g

theorem State.foldl_linkLossAt_grant_of_held {g : GroupId} (hs : GroupsAgree s) (h : (s.group g).grant = .held k) :
    ((allStands.foldl State.linkLossAt s).group g).grant =
      if (s.stand k).state = .firingPending ∨ (s.group g).stagger = 0 then .free
      else .spacing (s.group g).stagger s.stepPending := by
  obtain ⟨pre, post, hsplit⟩ := List.append_of_mem (mem_allStands k)
  have hnodup := allStands_nodup
  rw [hsplit] at hnodup
  obtain ⟨-, -, hdisjoint⟩ := List.nodup_append.mp hnodup
  have hpre : k ∉ pre := fun hmem => hdisjoint k hmem k List.mem_cons_self rfl
  have hfirst := State.foldl_linkLossAt_grant_of_not_held (l := pre) (g := g) hs fun j hj hheld => by
    rw [h] at hheld
    exact hpre (GrantState.held.inj hheld ▸ hj)
  have hagree := (hs.foldl_linkLossAt pre).1
  have hstand := foldl_view_of_not_mem (view := State.stand) (fun t j k hne => t.linkLossAt_other hne) hpre s
  have hpending : (pre.foldl State.linkLossAt s).stepPending = s.stepPending := by
    rw [State.foldl_linkLossAt_frame]
  have hstep := (congrArg Group.grant (State.linkLossAt_group _ k g)).trans
    (State.leaveGroup_grant_of_held hagree (hfirst.trans h))
  rw [hstand, State.foldl_linkLossAt_stagger, hpending] at hstep
  have hrest := State.foldl_linkLossAt_grant_of_not_held (l := post) (g := g) (hagree.linkLossAt k)
    fun j _ => by rw [hstep]; split <;> nofun
  rw [hsplit, List.foldl_append, List.foldl_cons, hrest, hstep]

/-- R161: one pass forms the entries of all stands after their fire. -/
theorem State.foldl_linkLossAt_formed {l : List StandId} (hl : l.Nodup) :
    (l.foldl State.linkLossAt s).formed = s.formed ++ l.flatMap fun k => (s.stand k).abortedEntries k := by
  induction l generalizing s with
  | nil => simp
  | cons j l ih =>
    obtain ⟨hnot, hrest⟩ := List.nodup_cons.mp hl
    have hsame : (l.flatMap fun k => ((s.linkLossAt j).stand k).abortedEntries k) =
        l.flatMap fun k => (s.stand k).abortedEntries k :=
      List.flatMap_congr fun k hk => by rw [s.linkLossAt_other (ne_of_mem_of_not_mem hk hnot)]
    rw [List.foldl_cons, ih hrest, hsame, State.linkLossAt_formed, List.flatMap_cons, List.append_assoc]

theorem State.decideChanged_of_no_chosen {b : State} (h : ∀ g, s.chosen g = none) : State.decideChanged b s = s := by
  have hfixed (g : GroupId) : State.decideChangedGroup b s g = s := by
    unfold State.decideChangedGroup
    split
    · rfl
    · exact State.decideGroup_of_none (h g)
  exact List.foldl_fixed' hfixed allGroups

end

/-! ### The entries of the stands struck after their fire -/

section
variable {s : State} {e : LogEntry} {k : StandId}

theorem Stand.mem_abortedEntries {st : Stand} (h : e ∈ st.abortedEntries k) :
    st.state.afterFire = true ∧ ∃ old new p q, st.running = some old ∧ st.ready = some new ∧
      st.sched.plan = some p ∧ st.kept = some q ∧ e = sequenceEntry k .aborted old new p q none := by
  unfold Stand.abortedEntries at h
  split at h
  case isTrue hfire => exact ⟨hfire, Stand.logEntry_eq_some (Option.mem_toList.mp h)⟩
  case isFalse => cases h

theorem Stand.map_stand_abortedEntries {st : Stand} (hctx : st.contextsAgree = true) (k : StandId) :
    (st.abortedEntries k).map (·.stand) = if st.state.afterFire then [k] else [] := by
  unfold Stand.abortedEntries
  split
  case isTrue hfire =>
    obtain ⟨e, he⟩ := Stand.logEntry_of_contextsAgree hctx hfire k .aborted
    obtain ⟨old, new, p, q, -, -, -, -, heq⟩ := Stand.logEntry_eq_some he
    rw [he, heq]
    rfl
  case isFalse => rfl

/-- R160: the stands of the entries are those struck after their fire, once each. -/
theorem map_stand_flatMap_abortedEntries (hctx : ContextsAgree s) (l : List StandId) :
    (l.flatMap fun k => (s.stand k).abortedEntries k).map (·.stand) =
      l.filter fun k => (s.stand k).state.afterFire := by
  induction l with
  | nil => rfl
  | cons k l ih =>
    rw [List.flatMap_cons, List.map_append, ih, Stand.map_stand_abortedEntries (hctx k), List.filter_cons]
    split <;> rfl

end

/-! ### The expiry of the watch -/

section
variable {s : State}

/-- The part when all stands have been struck, before the entries join the log. -/
def State.allStruck (s : State) : State :=
  allStands.foldl State.linkLossAt { s with watchArmed := false, linkLost := true, outPassing := false }

theorem State.allStruck_frame (s : State) :
    s.allStruck = { s with
      watchArmed := false, linkLost := true, outPassing := false
      groups := s.allStruck.groups, stands := s.allStruck.stands, formed := s.allStruck.formed } :=
  State.foldl_linkLossAt_frame allStands _

theorem State.allStruck_stand {k : StandId} (hk : (s.stand k).inService = true) :
    s.allStruck.stand k = { (s.stand k).struck .linkLoss s.cycle with linkLoss := true } :=
  State.foldl_linkLossAt_stand (s := { s with watchArmed := false, linkLost := true, outPassing := false }) hk

theorem State.allStruck_stand_offline {k : StandId} (hk : (s.stand k).inService = false) :
    s.allStruck.stand k = s.stand k :=
  State.foldl_linkLossAt_stand_offline (s := { s with watchArmed := false, linkLost := true, outPassing := false }) hk

theorem GroupsAgree.allStruck (hs : GroupsAgree s) : GroupsAgree s.allStruck :=
  (GroupsAgree.foldl_linkLossAt (s := { s with watchArmed := false, linkLost := true, outPassing := false }) hs
    allStands).1

/-- R15, R104: after a link loss every stand is in FAULT or OFFLINE, so none holds or requests a group. -/
theorem GroupsAgree.allStruck_no_claim (hs : GroupsAgree s) (g : GroupId) (k : StandId) :
    (s.allStruck.group g).grant ≠ .held k ∧ (s.allStruck.group g).has k = false := by
  have hstate : (s.allStruck.stand k).state = .fault ∨ (s.allStruck.stand k).state = .offline := by
    cases hk : (s.stand k).inService
    case false => exact .inr (by rw [State.allStruck_stand_offline hk]; exact StandState.inService_eq_false.mp hk)
    case true => exact .inl (by rw [State.allStruck_stand hk]; exact Stand.struck_state _ _ _)
  exact hs.allStruck.not_in_group (by rcases hstate with h | h <;> rw [h] <;> rfl)
    (by rcases hstate with h | h <;> rw [h] <;> nofun) g

theorem State.loseLink_eq (hs : GroupsAgree s) : s.loseLink = { s.allStruck.joinLog with freeIndex := s.freeIndex + 1 } := by
  have hnone (g : GroupId) : s.allStruck.chosen g = none :=
    State.chosen_eq_none_iff.mpr fun k => Bool.eq_false_iff.mpr fun hmay => by
      have hhas := State.has_of_mayGrant hmay
      rw [(hs.allStruck_no_claim g k).2] at hhas
      cases hhas
  have hsame := State.decideChanged_of_no_chosen (b := s) hnone
  show { (State.decideChanged s s.allStruck).joinLog with freeIndex := s.freeIndex + 1 } = _
  rw [hsame]

/-- R160-R163: the entries formed by a link loss, and the log after they joined it. -/
theorem State.allStruck_log (hlog : LogBounded s) (hctx : ContextsAgree s) :
    ∃ es : List LogEntry, (es.map (·.stand)).Nodup ∧
      (∀ k, k ∈ es.map (·.stand) ↔ (s.stand k).state ∈ [.firingIssued, .confirm]) ∧
      (∀ e ∈ es, ∃ old new p q, (s.stand e.stand).running = some old ∧ (s.stand e.stand).ready = some new ∧
        (s.stand e.stand).sched.plan = some p ∧ (s.stand e.stand).kept = some q ∧
        e = sequenceEntry e.stand .aborted old new p q none) ∧
      s.allStruck.joinLog.log = (s.log ++ es).drop (s.log.length + es.length - 32) ∧
      s.allStruck.joinLog.overrun = (s.overrun || decide (32 < s.log.length + es.length)) := by
  have hformed : s.allStruck.formed = allStands.flatMap fun k => (s.stand k).abortedEntries k :=
    (State.foldl_linkLossAt_formed (s := { s with watchArmed := false, linkLost := true, outPassing := false })
      allStands_nodup).trans (congrArg (· ++ _) hlog.2)
  have hbefore : s.allStruck.log = s.log ∧ s.allStruck.overrun = s.overrun := by
    rw [State.allStruck_frame]; exact ⟨rfl, rfl⟩
  obtain ⟨es, hperm, hjoined, hover⟩ := State.joinLog_log (s := s.allStruck) (by rw [hbefore.1]; exact hlog.1)
  rw [hbefore.1] at hjoined hover
  rw [hbefore.2] at hover
  rw [hformed] at hperm
  have hstands := hperm.map (·.stand)
  rw [map_stand_flatMap_abortedEntries hctx] at hstands
  refine ⟨es, hstands.nodup_iff.mpr (allStands_nodup.filter _), fun k => ?_, fun e he => ?_, hjoined, hover⟩
  · rw [hstands.mem_iff, List.mem_filter, StandState.afterFire_iff]
    simp [mem_allStands]
  · obtain ⟨k, -, hk⟩ := List.mem_flatMap.mp (hperm.mem_iff.mp he)
    obtain ⟨-, old, new, p, q, hold, hnew, hp, hq, rfl⟩ := Stand.mem_abortedEntries hk
    exact ⟨old, new, p, q, hold, hnew, hp, hq, rfl⟩

end

/-- R125: a knife not yet written is withheld. -/
theorem Stand.struck_plan_of_issued {st : Stand} (h : st.state = .firingIssued) (kind : FaultKind) (c : Word) :
    (st.struck kind c).sched.plan.map (·.knifeState) = st.sched.plan.map fun _ => .withheld := by
  unfold Stand.struck
  rw [if_neg (by rw [h]; exact nofun)]
  show (st.sched.plan.map (·.atFault st.state)).map (·.knifeState) = _
  rw [h, Option.map_map]
  rfl

theorem State.watchExpiry_frame {s : State} (hreset : s.inReset = false) (harmed : s.watchArmed = true)
    (hs : GroupsAgree s) :
    s.watchExpiry = { s.allStruck with
      log := s.allStruck.joinLog.log, overrun := s.allStruck.joinLog.overrun, formed := []
      freeIndex := s.freeIndex + 1 } := by
  have hexec : s.watchExpiry = s.loseLink := by
    unfold State.watchExpiry
    rw [hreset, harmed]
    rfl
  rw [hexec, State.loseLink_eq hs, State.joinLog_frame]

theorem State.watchExpiry_of_unarmed {s : State} (harmed : s.watchArmed = false) : s.watchExpiry = s := by
  unfold State.watchExpiry
  rw [harmed, Bool.not_false, Bool.or_true, if_pos rfl]

/-- What an expiry of an armed watch leaves, by the part when all stands have been struck. -/
theorem State.watchExpiry_parts {s : State} (hreset : s.inReset = false) (harmed : s.watchArmed = true)
    (hs : GroupsAgree s) :
    (s.watchExpiry.watchArmed = false ∧ s.watchExpiry.linkLost = true ∧
      s.watchExpiry.engineCycle = s.engineCycle ∧ s.watchExpiry.outPassing = false) ∧
    (∀ k, s.watchExpiry.stand k = s.allStruck.stand k) ∧ (∀ g, s.watchExpiry.group g = s.allStruck.group g) ∧
    s.watchExpiry.log = s.allStruck.joinLog.log ∧ s.watchExpiry.overrun = s.allStruck.joinLog.overrun := by
  have hframe := State.watchExpiry_frame hreset harmed hs
  have hstruck := s.allStruck_frame
  generalize s.watchExpiry = t, s.allStruck = u at hframe hstruck ⊢
  have hwatch : u.watchArmed = false := congrArg State.watchArmed hstruck
  have hlost : u.linkLost = true := congrArg State.linkLost hstruck
  have hcycle : u.engineCycle = s.engineCycle := (congrArg State.engineCycle hstruck :)
  have hpassing : u.outPassing = false := congrArg State.outPassing hstruck
  subst hframe
  exact ⟨⟨hwatch, hlost, hcycle, hpassing⟩, fun _ => rfl, fun _ => rfl, rfl, rfl⟩

/-- Settles O10: every stand is struck on its own (`linkLossAt_stand`), no stand then claims a group, and the entries
formed are those of the stands after their fire. -/
theorem linkLossStrikesStandsInService : Obligations.LinkLossStrikesStandsInService := by
  refine ⟨fun s hreset harmed hs => ?_, fun s harmed =>
    congrArg Host.Outcome.next (State.watchExpiry_of_unarmed harmed)⟩
  have hexec : exec .linkLoss s = .next s.watchExpiry := rfl
  obtain ⟨⟨hwatch, hlost, hcycle, hpassing⟩, hstand, hgroup, hlogs⟩ := State.watchExpiry_parts hreset harmed hs
  generalize s.watchExpiry = t at *
  refine ⟨t, hexec, hwatch, hlost, hcycle, hpassing, fun g k => ?_, fun g k hheld => ?_, fun hlog hctx => ?_,
    fun k => ?_⟩
  · rw [hgroup]
    exact hs.allStruck_no_claim g k
  · have hgrant := State.foldl_linkLossAt_grant_of_held
      (s := { s with watchArmed := false, linkLost := true, outPassing := false }) hs hheld
    rw [hgroup]
    split
    case isTrue h => exact hgrant.trans (if_pos h)
    case isFalse h => exact hgrant.trans (if_neg h)
  · obtain ⟨es, hnodup, hmem, hentries, hjoined, hover⟩ := State.allStruck_log hlog hctx
    exact ⟨es, hnodup, hmem, hentries, hlogs.1.trans hjoined, hlogs.2.trans hover⟩
  · rw [hstand]
    refine ⟨State.allStruck_stand_offline, fun hk => ?_⟩
    rw [State.allStruck_stand hk]
    exact ⟨Stand.struck_state _ _ _, rfl, fun h => Stand.struck_record_of_service h _ _,
      fun h => Stand.struck_record_of_fault h _ _, fun h => Stand.struck_plan_of_issued h _ _⟩

end Sys2Proof.Machine
end

section
/-!
SUPPORT. The steps of a stand depend on that stand and on what the part has of the cycle; what a whole step of a cycle
makes of one stand (R26, R131).
-/
namespace Sys2Proof.Machine

/-! ### Parts that a stand cannot tell apart -/

/-- Parts with the same stand k, and the same engine cycle, line speed, grades and free index. -/
structure State.Alike (k : StandId) (s t : State) : Prop where
  stand : t.stand k = s.stand k
  engineCycle : t.engineCycle = s.engineCycle
  lineSpeed : t.lineSpeed = s.lineSpeed
  grades : t.grades = s.grades
  freeIndex : t.freeIndex = s.freeIndex

namespace State.Alike

variable {k : StandId} {s t : State}

theorem cycle (h : s.Alike k t) : t.cycle = s.cycle := by
  unfold State.cycle
  rw [h.engineCycle]

theorem setStand (h : s.Alike k t) (st : Stand) : (s.setStand k st).Alike k (t.setStand k st) :=
  ⟨by rw [State.stand_setStand_same, State.stand_setStand_same], h.engineCycle, h.lineSpeed, h.grades, h.freeIndex⟩

theorem modStand (h : s.Alike k t) (f : Stand → Stand) : (s.modStand k f).Alike k (t.modStand k f) := by
  rw [State.modStand_eq, State.modStand_eq, h.stand]
  exact h.setStand _

theorem setGroup (h : s.Alike k t) (g g' : GroupId) (v v' : Group) : (s.setGroup g v).Alike k (t.setGroup g' v') :=
  ⟨h.stand, h.engineCycle, h.lineSpeed, h.grades, h.freeIndex⟩

theorem formEntry (h : s.Alike k t) (o : LogOutcome) : (s.formEntry k o).Alike k (t.formEntry k o) :=
  ⟨h.stand, h.engineCycle, h.lineSpeed, h.grades, h.freeIndex⟩

theorem leaveGroup (h : s.Alike k t) : (s.leaveGroup k).Alike k (t.leaveGroup k) := by
  unfold State.leaveGroup
  dsimp only
  rw [h.stand]
  split
  case h_1 => exact h.setGroup _ _ _ _
  case h_2 => exact h.setGroup _ _ _ _
  case h_3 => exact h.setGroup _ _ _ _
  case h_4 => exact h.setGroup _ _ _ _
  case h_5 => exact h

theorem refreshRequest (h : s.Alike k t) : (s.refreshRequest k).Alike k (t.refreshRequest k) := by
  unfold State.refreshRequest
  dsimp only
  rw [h.stand, h.cycle]
  split
  · split
    · exact (h.setStand _).setGroup _ _ _ _
    · exact h.setGroup _ _ _ _
  · exact h

theorem takeFault (h : s.Alike k t) (kind : FaultKind) (sig : Option StaleSignal) :
    (s.takeFault k kind sig).Alike k (t.takeFault k kind sig) := by
  by_cases hoffline : (s.stand k).state = .offline
  · rw [s.takeFault_of_offline k kind sig hoffline, t.takeFault_of_offline k kind sig (by rw [h.stand]; exact hoffline)]
    exact h
  by_cases hfault : (s.stand k).state = .fault
  · rw [s.takeFault_of_fault k kind sig hfault, t.takeFault_of_fault k kind sig (by rw [h.stand]; exact hfault)]
    exact h.modStand _
  rw [s.takeFault_of_service k kind sig hoffline hfault,
    t.takeFault_of_service k kind sig (by rw [h.stand]; exact hoffline) (by rw [h.stand]; exact hfault), h.cycle, h.stand]
  split
  · exact ((h.formEntry kind.outcome).leaveGroup).modStand _
  · exact h.leaveGroup.modStand _

theorem applyVerdict (h : s.Alike k t) (v : Verdict) : (s.applyVerdict k v).Alike k (t.applyVerdict k v) := by
  cases v with
  | stay => exact h.refreshRequest
  | fault kind further =>
    have hfirst := h.takeFault kind none
    unfold State.applyVerdict
    dsimp only
    split
    · exact hfirst.takeFault .accelTimeout none
    · exact hfirst
  | enterMatched => exact (h.modStand _).refreshRequest
  | leaveBand =>
    unfold State.applyVerdict State.leaveBand
    exact h.leaveGroup.modStand _
  | confirmed =>
    have hleft := (h.formEntry .spliced).leaveGroup.modStand fun st => st.enterSettle s.grades
    unfold State.applyVerdict State.enterSettle
    dsimp only
    rw [h.grades]
    exact hleft

theorem gaugeDone (h : s.Alike k t) (dg : Nat) : (s.gaugeDone k dg).Alike k (t.gaugeDone k dg) := by
  unfold State.gaugeDone
  rw [h.stand]
  split
  · exact h.modStand _
  · exact h.takeFault _ _

theorem transitions (h : s.Alike k t) (hand : StandHand) (lineStale : Bool) (dg : Option Nat) (unmounted : Bool) :
    (s.transitions k hand lineStale dg unmounted).Alike k (t.transitions k hand lineStale dg unmounted) := by
  unfold State.transitions
  dsimp only
  rw [h.stand, h.lineSpeed, h.cycle, h.freeIndex]
  split
  case h_1 => exact h
  case h_2 =>
    split
    · exact h
    · exact h.setStand _
  case h_3 =>
    split
    · exact h.gaugeDone _
    · exact h
  case h_4 =>
    split
    · exact h.setStand _
    · exact h
  case h_5 => exact h.setStand _
  case h_6 => exact h
  case h_7 => exact (h.setStand _).applyVerdict _

theorem controllerStep (h : s.Alike k t) (hand : StandHand) (lineStale : Bool) (dg : Option Nat) :
    (s.controllerStep k hand lineStale dg).Alike k (t.controllerStep k hand lineStale dg) := by
  unfold State.controllerStep
  dsimp only
  rw [h.stand]
  exact (h.setStand _).transitions _ _ _ _

theorem watchStand (h : s.Alike k t) (lineStale : Bool) : (s.watchStand k lineStale).Alike k (t.watchStand k lineStale) := by
  unfold State.watchStand
  dsimp only
  rw [h.stand]
  split
  · exact (h.setStand _).takeFault _ _
  · exact h.setStand _

/-- The steps of a stand make the same of it in parts that it cannot tell apart. -/
theorem standStep (h : s.Alike k t) (samples : Option (Vector Slot 96)) (passedOver : Bool) (lh : LineHand) :
    (State.standStep samples passedOver lh s k).Alike k (State.standStep samples passedOver lh t k) := by
  have hcaptured : (State.capturedAt samples passedOver lh s k).Alike k (State.capturedAt samples passedOver lh t k) := by
    unfold State.capturedAt
    dsimp only
    rw [h.stand]
    exact (h.setStand _).watchStand _
  cases hk : (s.stand k).inService
  case false =>
    rw [State.standStep_of_not_inService hk, State.standStep_of_not_inService (by rw [h.stand]; exact hk)]
    exact h
  case true =>
    have hmeasured : State.measuredAt samples passedOver lh t k = State.measuredAt samples passedOver lh s k := by
      unfold State.measuredAt
      rw [hcaptured.stand, h.stand, h.lineSpeed, h.grades]
    rw [State.standStep_of_inService hk, State.standStep_of_inService (by rw [h.stand]; exact hk), hmeasured, h.stand]
    exact (hcaptured.setStand _).controllerStep _ _ _

end State.Alike

/-! ### What the step of a cycle makes of one stand -/

section
variable {s : State} {samples : Option (Vector Slot 96)} {passedOver : Bool} {lh : LineHand}

theorem State.standStep_other (s : State) {j k : StandId} (h : j ≠ k) :
    (State.standStep samples passedOver lh s k).stand j = s.stand j :=
  (State.standStep_actsAt (cmd := .linkLoss) (agree := False) samples passedOver lh s k).others j h

/-- One pass of the steps of all stands makes of each what its own step makes of it. -/
theorem State.foldl_standStep_stand (s : State) (k : StandId) :
    (allStands.foldl (State.standStep samples passedOver lh) s).stand k =
      (State.standStep samples passedOver lh s k).stand k := by
  have others : ∀ (t : State) (j i : StandId), i ≠ j → (State.standStep samples passedOver lh t j).stand i = t.stand i :=
    fun t j i hne => t.standStep_other hne
  obtain ⟨pre, hpre, hview⟩ := foldl_view_at (view := State.stand) others allStands_nodup (mem_allStands k) s
  have hframe := State.foldl_standStep_frame samples passedOver lh pre s
  have halike : s.Alike k (pre.foldl (State.standStep samples passedOver lh) s) :=
    ⟨foldl_view_of_not_mem (view := State.stand) others hpre s, by rw [hframe], by rw [hframe], by rw [hframe],
      by rw [hframe]⟩
  rw [hview, (halike.standStep samples passedOver lh).stand]

/-- The part in which the stands take their steps of a cycle: LINE is captured and the groups are counted down. -/
def State.lineTaken (s : State) (samples : Option (Vector Slot 96)) (passedOver : Bool) : State :=
  (s.lineStep samples passedOver).1.countDown (s.lineStep samples passedOver).2.increment

/-- R26: stand k after its steps of a cycle, before the decisions. -/
def State.stepped (s : State) (samples : Option (Vector Slot 96)) (passedOver : Bool) (k : StandId) : Stand :=
  (State.standStep samples passedOver (s.lineStep samples passedOver).2 (s.lineTaken samples passedOver) k).stand k

/-- R26, R131, R133: a step of a cycle makes of a stand what its own steps make of it, and may grant it. -/
theorem State.cycleStep_stand (s : State) (samples : Option (Vector Slot 96)) (passedOver : Bool) (k : StandId) :
    (s.cycleStep samples passedOver).stand k = s.stepped samples passedOver k ∨
      (GroupsAgree s → (s.stepped samples passedOver k).requests = true) ∧
        ∃ g, (s.cycleStep samples passedOver).stand k =
          { s.stepped samples passedOver k with state := .firingPending, grant := some g } := by
  have hstand := (allStands.foldl (State.standStep samples passedOver (s.lineStep samples passedOver).2)
    (s.lineTaken samples passedOver)).decideAll_grantsAny.stand k
  have hpass : (allStands.foldl (State.standStep samples passedOver (s.lineStep samples passedOver).2)
      (s.lineTaken samples passedOver)).stand k = s.stepped samples passedOver k := State.foldl_standStep_stand _ k
  have hagree (hs : GroupsAgree s) : GroupsAgree (allStands.foldl (State.standStep samples passedOver
      (s.lineStep samples passedOver).2) (s.lineTaken samples passedOver)) :=
    .foldl (fun _ j ht => ht.standStep samples passedOver _ j) allStands ((hs.lineStep samples passedOver).countDown _)
  have hcycle : (s.cycleStep samples passedOver).stand k = (State.decideAll (allStands.foldl (State.standStep samples
      passedOver (s.lineStep samples passedOver).2) (s.lineTaken samples passedOver))).stand k := by
    unfold State.cycleStep
    dsimp only
    rw [State.joinLog_frame]
    rfl
  rw [hcycle]
  rw [hpass] at hstand
  exact hstand.imp_right fun ⟨hreq, hgrant⟩ => ⟨fun hs => (hreq (hagree hs)).1, hgrant⟩

end

end Sys2Proof.Machine
end

section
/-!
SUPPORT. What a stand has of the link, its signals, claim-lost flag, command counts and slot map: of the steps of a
cycle only the capture changes it (R26); and only a request takes a stand out of service.
-/
namespace Sys2Proof.Machine

/-- Two stands with the same five signals, claim-lost flag, command counts and slot map. -/
structure Stand.SameLinkSide (st st' : Stand) : Prop where
  status : st'.status = st.status
  spindle : ∀ x, (st'.arm x).spindle = (st.arm x).spindle
  gauge : ∀ x, (st'.arm x).gauge = (st.arm x).gauge
  claimLost : st'.claimLost = st.claimLost
  counts : st'.counts = st.counts
  map : st'.map = st.map

namespace Stand.SameLinkSide

variable {st st' st'' : Stand}

theorem refl (st : Stand) : st.SameLinkSide st := ⟨rfl, fun _ => rfl, fun _ => rfl, rfl, rfl, rfl⟩

theorem trans (h : st.SameLinkSide st') (h' : st'.SameLinkSide st'') : st.SameLinkSide st'' :=
  ⟨h'.status.trans h.status, fun x => (h'.spindle x).trans (h.spindle x), fun x => (h'.gauge x).trans (h.gauge x),
    h'.claimLost.trans h.claimLost, h'.counts.trans h.counts, h'.map.trans h.map⟩

/-- The arms' further fields are not looked at, but where they stay the signals do. -/
theorem of_eq (h : (st'.status, st'.armA, st'.armB, st'.claimLost, st'.counts, st'.map) =
    (st.status, st.armA, st.armB, st.claimLost, st.counts, st.map)) : st.SameLinkSide st' := by
  obtain ⟨hstatus, ha, hb, hclaim, hcounts, hmap⟩ : st'.status = st.status ∧ st'.armA = st.armA ∧
      st'.armB = st.armB ∧ st'.claimLost = st.claimLost ∧ st'.counts = st.counts ∧ st'.map = st.map := by
    simpa only [Prod.mk.injEq] using h
  have harm (x : Arm) : st'.arm x = st.arm x := by
    cases x
    · exact ha
    · exact hb
  exact ⟨hstatus, fun x => by rw [harm], fun x => by rw [harm], hclaim, hcounts, hmap⟩

end Stand.SameLinkSide

/-! ### What a stand's own operations leave of its link side -/

section
variable (st : Stand)

theorem Stand.staleWindow_linkSide (h : StandHand) (lh : LineHand) : st.SameLinkSide (st.staleWindow h lh) := by
  unfold Stand.staleWindow
  split <;> exact .of_eq rfl

theorem Stand.returnToHead_linkSide : st.SameLinkSide st.returnToHead := by
  rw [Stand.returnToHead_frame]
  exact .of_eq rfl

theorem Stand.enterFault_linkSide (kind : FaultKind) (c : Word) (sig : Option StaleSignal) :
    st.SameLinkSide (st.enterFault kind c sig) := by
  unfold Stand.enterFault
  dsimp only
  split
  · exact st.returnToHead_linkSide.trans (.of_eq rfl)
  · exact .of_eq rfl

theorem Stand.markFurther_linkSide : st.SameLinkSide st.markFurther := by
  unfold Stand.markFurther
  split <;> exact .of_eq rfl

theorem Stand.measureRates_linkSide : st.SameLinkSide st.measureRates := by
  refine ⟨rfl, fun x => ?_, fun x => ?_, rfl, rfl, rfl⟩ <;> cases x <;> rfl

theorem Stand.acceptTest_linkSide (d : Nat) (grades : Vector Grade 16) : st.SameLinkSide (st.acceptTest d grades) := by
  unfold Stand.acceptTest
  split <;> exact .of_eq rfl

theorem Stand.advanceWindow_linkSide (w : DiameterWindow) (inc : Nat) (travel : Angle) (grades : Vector Grade 16) :
    st.SameLinkSide (st.advanceWindow w inc travel grades) := by
  unfold Stand.advanceWindow
  dsimp only
  split
  · refine Stand.SameLinkSide.trans ?_ (Stand.acceptTest_linkSide _ _ grades)
    exact .of_eq rfl
  · exact .of_eq rfl

theorem Stand.windowStep_linkSide (lineLive passedOver : Bool) (inc : Nat) (grades : Vector Grade 16) :
    st.SameLinkSide (st.windowStep lineLive passedOver inc grades) := by
  unfold Stand.windowStep
  dsimp only
  split
  case isFalse => exact .refl st
  case isTrue =>
    split
    case h_1 => exact st.advanceWindow_linkSide _ _ _ grades
    case h_2 => split <;> exact .of_eq rfl
    case h_3 => exact .refl st

theorem Stand.gaugeStep_linkSide (h : StandHand) : st.SameLinkSide (st.gaugeStep h).1 := by
  unfold Stand.gaugeStep
  split
  case h_1 =>
    split
    case isTrue => exact .of_eq rfl
    case isFalse =>
      split
      case h_1 =>
        unfold Stand.countReading
        split <;> exact .of_eq rfl
      case h_2 => exact .refl st
  case h_2 => exact .refl st

theorem Stand.measureStep_linkSide (h : StandHand) (lineLive passedOver : Bool) (inc speed : Nat)
    (grades : Vector Grade 16) : st.SameLinkSide (st.measureStep h lineLive passedOver inc speed grades).1 := by
  have hrates : st.SameLinkSide (st.measureRates.advanceAnchor inc) := st.measureRates_linkSide.trans (.of_eq rfl)
  have hwindow := hrates.trans (Stand.windowStep_linkSide _ lineLive passedOver inc grades)
  have hlength : st.SameLinkSide (((st.measureRates.advanceAnchor inc).windowStep lineLive passedOver inc
      grades).measureLength speed) := hwindow.trans (.of_eq rfl)
  exact (hlength.trans (Stand.gaugeStep_linkSide _ h)).trans (.of_eq rfl)

theorem Stand.unmount_linkSide : st.SameLinkSide st.unmount := by
  have hpending : st.SameLinkSide { st with mountPending := false } := .of_eq rfl
  have hreturned := hpending.trans (Stand.returnToHead_linkSide _)
  unfold Stand.unmount
  dsimp only
  split
  · exact hreturned.trans (.of_eq rfl)
  · exact hreturned.trans (.of_eq rfl)
  · exact hreturned
  · exact hpending

theorem Stand.reelChanges_linkSide (h : StandHand) : st.SameLinkSide (st.reelChanges h) := by
  unfold Stand.reelChanges
  dsimp only
  split
  · exact st.unmount_linkSide
  · split <;> exact .of_eq rfl

theorem Stand.brakingStep_linkSide : st.SameLinkSide st.brakingStep := by
  unfold Stand.brakingStep
  split <;> exact .of_eq rfl

theorem Stand.tryBind_linkSide (waits : Bool) : st.SameLinkSide (st.tryBind waits) := by
  rcases st.tryBind_cases waits with ⟨-, h⟩ | ⟨q, rest, -, -, -, -, h⟩ <;> rw [h]
  · exact .refl st
  · exact .of_eq rfl

theorem Stand.settleWork_linkSide : st.SameLinkSide st.settleWork := by
  unfold Stand.settleWork
  split
  · refine Stand.SameLinkSide.trans ?_ (Stand.tryBind_linkSide _ false)
    exact .of_eq rfl
  · exact .refl st

theorem Stand.markUnload_linkSide (x : Arm) : st.SameLinkSide (st.markUnload x) := by
  unfold Stand.markUnload
  split
  · refine ⟨by cases x <;> rfl, fun y => ?_, fun y => ?_, by cases x <;> rfl, by cases x <;> rfl, by cases x <;> rfl⟩
    · cases x <;> cases y <;> rfl
    · cases x <;> cases y <;> rfl
  · exact .refl st

theorem Stand.enterSettle_linkSide (grades : Vector Grade 16) : st.SameLinkSide (st.enterSettle grades) := by
  have htransfer : st.SameLinkSide (st.transfer grades) := by
    unfold Stand.transfer
    split
    · exact (st.markUnload_linkSide st.runningArm).trans (.of_eq rfl)
    · exact .refl st
  exact htransfer.trans (.of_eq rfl)

theorem Stand.trackTape_linkSide (h : ArmHand) (first : Nat) : st.SameLinkSide (st.trackTape h first) := by
  unfold Stand.trackTape
  dsimp only
  split <;> exact .of_eq rfl

theorem Stand.schedulerRest_linkSide (h : StandHand) (lineStale : Bool) (c : Word) :
    st.SameLinkSide (st.schedulerRest h lineStale c).1 := by
  unfold Stand.schedulerRest
  split
  case h_1 =>
    unfold Stand.accelWork
    dsimp only
    split
    · exact .of_eq rfl
    · split <;> exact .of_eq rfl
  case h_2 => split <;> exact .refl st
  case h_3 =>
    unfold Stand.pendingWork
    split
    · exact .refl st
    · split <;> exact .of_eq rfl
  case h_4 =>
    unfold Stand.confirmWork
    split
    · split
      · exact .of_eq rfl
      · split <;> exact .refl st
    · exact .refl st
  case h_5 => exact .refl st

theorem Stand.schedulerStep_linkSide (h : StandHand) (lineStale : Bool) (speed : Nat) (c : Word) (first : Nat) :
    st.SameLinkSide (st.schedulerStep h lineStale speed c first).1 := by
  have htrack : st.SameLinkSide (if st.state.watched then st.trackTape (h.arm st.readyArm) first else st) := by
    split
    · exact st.trackTape_linkSide _ _
    · exact .refl st
  unfold Stand.schedulerStep
  dsimp only
  generalize (if st.state.watched then st.trackTape (h.arm st.readyArm) first else st) = st1 at htrack ⊢
  split
  · split <;> exact htrack.trans (.of_eq rfl)
  · have htarget : st.SameLinkSide (st1.formTarget speed) := htrack.trans (.of_eq rfl)
    exact htarget.trans (Stand.schedulerRest_linkSide _ h lineStale c)

end

/-! ### What the steps of a stand leave of its link side -/

section
variable (s : State) (k : StandId)

theorem State.takeFault_linkSide (kind : FaultKind) (sig : Option StaleSignal) :
    (s.stand k).SameLinkSide ((s.takeFault k kind sig).stand k) := by
  by_cases hoffline : (s.stand k).state = .offline
  · rw [s.takeFault_of_offline k kind sig hoffline]
    exact .refl _
  by_cases hfault : (s.stand k).state = .fault
  · rw [s.takeFault_of_fault k kind sig hfault, State.stand_modStand, if_pos rfl]
    exact Stand.markFurther_linkSide _
  rw [State.takeFault_stand_self kind sig hoffline hfault]
  exact Stand.enterFault_linkSide _ kind _ sig

theorem State.refreshRequest_linkSide : (s.stand k).SameLinkSide ((s.refreshRequest k).stand k) := by
  unfold State.refreshRequest
  dsimp only
  split
  · split
    · rw [State.setGroup_stand, State.stand_setStand_same]
      exact .of_eq rfl
    · exact .refl _
  · exact .refl _

theorem State.applyVerdict_linkSide (v : Verdict) : (s.stand k).SameLinkSide ((s.applyVerdict k v).stand k) := by
  cases v with
  | stay => exact s.refreshRequest_linkSide k
  | fault kind further =>
    have hfirst := s.takeFault_linkSide k kind none
    unfold State.applyVerdict
    dsimp only
    split
    · exact hfirst.trans (State.takeFault_linkSide _ k _ none)
    · exact hfirst
  | enterMatched =>
    refine Stand.SameLinkSide.trans ?_ (State.refreshRequest_linkSide _ k)
    rw [State.stand_modStand, if_pos rfl]
    exact .of_eq rfl
  | leaveBand =>
    unfold State.applyVerdict State.leaveBand
    rw [State.stand_modStand, if_pos rfl, State.leaveGroup_stand]
    exact .of_eq rfl
  | confirmed =>
    unfold State.applyVerdict State.enterSettle
    rw [State.stand_modStand, if_pos rfl, State.leaveGroup_stand]
    exact Stand.enterSettle_linkSide _ _

theorem State.transitions_linkSide (h : StandHand) (lineStale : Bool) (dg : Option Nat) (unmounted : Bool) :
    (s.stand k).SameLinkSide ((s.transitions k h lineStale dg unmounted).stand k) := by
  unfold State.transitions
  dsimp only
  split
  case h_1 => exact .refl _
  case h_2 =>
    split
    · exact .refl _
    · rw [State.stand_setStand_same]
      exact Stand.tryBind_linkSide _ false
  case h_3 =>
    split
    · unfold State.gaugeDone
      split
      · rw [State.stand_modStand, if_pos rfl]
        exact .of_eq rfl
      · exact s.takeFault_linkSide k _ none
    · exact .refl _
  case h_4 =>
    split
    · rw [State.stand_setStand_same]
      exact .of_eq rfl
    · exact .refl _
  case h_5 =>
    rw [State.stand_setStand_same]
    exact Stand.settleWork_linkSide _
  case h_6 => exact .refl _
  case h_7 =>
    refine Stand.SameLinkSide.trans ?_ (State.applyVerdict_linkSide _ k _)
    rw [State.stand_setStand_same]
    exact Stand.schedulerStep_linkSide _ h lineStale _ _ _

theorem State.controllerStep_linkSide (h : StandHand) (lineStale : Bool) (dg : Option Nat) :
    (s.stand k).SameLinkSide ((s.controllerStep k h lineStale dg).stand k) := by
  have hworked := ((s.stand k).reelChanges_linkSide h).trans (Stand.brakingStep_linkSide _)
  refine hworked.trans ?_
  have hsteps := State.transitions_linkSide (s.setStand k ((s.stand k).reelChanges h).brakingStep) k h lineStale dg
    ((s.stand k).state != ((s.stand k).reelChanges h).state)
  rw [State.stand_setStand_same] at hsteps
  exact hsteps

theorem State.watchStand_linkSide (lineStale : Bool) :
    (s.stand k).SameLinkSide ((s.watchStand k lineStale).stand k) := by
  have hwatch : (s.stand k).SameLinkSide ((s.setStand k ((s.stand k).watchStep lineStale)).stand k) := by
    rw [State.stand_setStand_same]
    exact .of_eq rfl
  unfold State.watchStand
  dsimp only
  split
  · exact hwatch.trans (State.takeFault_linkSide _ k _ _)
  · exact hwatch

/-- R26: the link side of a stand in service after its steps is that which the capture left. -/
theorem State.standStep_linkSide {s : State} {k : StandId} (h : (s.stand k).inService = true)
    (samples : Option (Vector Slot 96)) (passedOver : Bool) (lh : LineHand) :
    ((s.stand k).captureStep samples passedOver).1.SameLinkSide
      ((State.standStep samples passedOver lh s k).stand k) := by
  have hcaptured : ((s.stand k).captureStep samples passedOver).1.SameLinkSide
      ((State.capturedAt samples passedOver lh s k).stand k) := by
    refine (Stand.staleWindow_linkSide _ ((s.stand k).captureStep samples passedOver).2 lh).trans ?_
    have hwatched := State.watchStand_linkSide (s.setStand k (((s.stand k).captureStep samples passedOver).1.staleWindow
      ((s.stand k).captureStep samples passedOver).2 lh)) k lh.stale
    rw [State.stand_setStand_same] at hwatched
    exact hwatched
  rw [State.standStep_of_inService h]
  refine (hcaptured.trans (Stand.measureStep_linkSide _ ((s.stand k).captureStep samples passedOver).2 (!lh.stale)
    passedOver lh.increment s.lineSpeed s.grades)).trans ?_
  have hcontrolled := State.controllerStep_linkSide ((State.capturedAt samples passedOver lh s k).setStand k
    (State.measuredAt samples passedOver lh s k).1) k ((s.stand k).captureStep samples passedOver).2 lh.stale
    (State.measuredAt samples passedOver lh s k).2
  rw [State.stand_setStand_same] at hcontrolled
  exact hcontrolled

end

/-! ### Who takes a stand out of service -/

section
variable {cmd : Instr} {agree : Prop} {grades : Vector Grade 16} {k : StandId} {st st' : Stand}

theorem Stand.returnToHead_state (st : Stand) : st.returnToHead.state = st.state :=
  (congrArg Stand.state st.returnToHead_frame :)

theorem Stand.tryBind_inService (waits : Bool) (h : st.state ≠ .offline) : (st.tryBind waits).state ≠ .offline := by
  rcases st.tryBind_cases waits with ⟨-, heq⟩ | ⟨q, rest, -, -, -, -, heq⟩ <;> rw [heq]
  · exact h
  · exact nofun

/-- R103: no move but that of a STAND-OFFLINE takes a stand out of service. -/
theorem Stand.Move.inService (h : st.Move cmd agree grades k st') (hcmd : ∀ r, cmd ≠ .standOffline r)
    (hst : st.state ≠ .offline) : st'.state ≠ .offline := by
  cases h with
  | quiet h => rw [h.state]; exact hst
  | arm x => rw [Stand.setArm_state]; exact hst
  | anchor => exact hst
  | accept => exact hst
  | latch => exact hst
  | unmount =>
    unfold Stand.unmount
    dsimp only
    split
    · exact nofun
    · exact nofun
    · rw [Stand.returnToHead_state]; exact hst
    · exact hst
  | bind waits => exact Stand.tryBind_inService waits hst
  | gauged => exact nofun
  | accel => exact nofun
  | settled =>
    unfold Stand.settleWork
    split
    · exact Stand.tryBind_inService false nofun
    · exact hst
  | matched => exact nofun
  | outOfBand => exact nofun
  | settle => exact nofun
  | grant => exact nofun
  | fault => exact nofun
  | further =>
    unfold Stand.markFurther
    split <;> exact hst
  | fire => exact nofun
  | knife => exact nofun
  | clear waits =>
    intro hoffline
    have hmem := st.clearFault_state waits
    rw [hoffline] at hmem
    exact absurd hmem (by decide)
  | clearNamed x waits =>
    intro hoffline
    have hmem := (st.nameArm x grades).clearFault_state waits
    rw [hoffline] at hmem
    exact absurd hmem (by decide)
  | unwind =>
    rcases st.returnReady_cases with ⟨-, heq⟩ | ⟨-, heq⟩ <;> rw [heq] <;> exact nofun
  | edge => exact hst
  | enqueue => exact hst
  | dequeue => exact hst
  | drop waits =>
    exact Stand.tryBind_inService waits nofun
  | param => exact hst
  | map => exact hst
  | online => exact nofun
  | offline h => exact absurd h.choose_spec (hcmd _)

theorem Stand.Moves.inService (h : Stand.Moves cmd agree grades k st st') (hcmd : ∀ r, cmd ≠ .standOffline r)
    (hst : st.state ≠ .offline) : st'.state ≠ .offline := by
  induction h with
  | refl => exact hst
  | tail _ hmove ih => exact hmove.inService hcmd ih

end

end Sys2Proof.Machine
end

section
/-! SUPPORT. The return frame of the current cycle (R10-R13, R26, R39, R85): O8. -/
namespace Sys2Proof.Machine

/-! ### The step of a cycle: LINE and the signals of a stand -/

section
variable {s : State} {samples : Option (Vector Slot 96)} {passedOver : Bool} {k : StandId}

/-- R40, R42: the capture of LINE changes the line-wide quantities. -/
theorem State.lineStep_frame (s : State) (samples : Option (Vector Slot 96)) (passedOver : Bool) :
    (s.lineStep samples passedOver).1 = { s with
      line := (s.lineStep samples passedOver).1.line
      lineSpeed := (s.lineStep samples passedOver).1.lineSpeed
      lineInc := (s.lineStep samples passedOver).1.lineInc } := by
  unfold State.lineStep
  split <;> rfl

theorem State.cycleStep_line_of_mapped {e : RetEntry} (h : s.lineMap = some e) :
    (s.cycleStep samples passedOver).line = s.line.step (some e) samples passedOver := by
  rw [State.cycleStep_frame]
  unfold State.lineStep
  rw [h]

theorem State.cycleStep_line_of_unmapped (h : s.lineMap = none) : (s.cycleStep samples passedOver).line = s.line := by
  rw [State.cycleStep_frame]
  unfold State.lineStep
  rw [h]

theorem State.lineTaken_alike (s : State) (samples : Option (Vector Slot 96)) (passedOver : Bool) (k : StandId) :
    (s.lineTaken samples passedOver).stand k = s.stand k ∧ (s.lineTaken samples passedOver).engineCycle = s.engineCycle ∧
      (s.lineTaken samples passedOver).grades = s.grades ∧
      (s.lineTaken samples passedOver).freeIndex = s.freeIndex ∧
      (s.lineTaken samples passedOver).lineSpeed = (s.lineStep samples passedOver).1.lineSpeed := by
  unfold State.lineTaken
  rw [State.countDown_frame, State.lineStep_frame]
  exact ⟨rfl, rfl, rfl, rfl, rfl⟩

/-- R26: the link side of a stand in service after its steps of a cycle is that which the capture left. -/
theorem State.stepped_linkSide (h : (s.stand k).inService = true) (samples : Option (Vector Slot 96)) (passedOver : Bool) :
    ((s.stand k).captureStep samples passedOver).1.SameLinkSide (s.stepped samples passedOver k) := by
  obtain ⟨hstand, -⟩ := s.lineTaken_alike samples passedOver k
  have hsteps := State.standStep_linkSide (s := s.lineTaken samples passedOver) (k := k) (by rw [hstand]; exact h) samples
    passedOver (s.lineStep samples passedOver).2
  rw [hstand] at hsteps
  exact hsteps

theorem State.cycleStep_linkSide (h : (s.stand k).inService = true) (samples : Option (Vector Slot 96)) (passedOver : Bool) :
    ((s.stand k).captureStep samples passedOver).1.SameLinkSide ((s.cycleStep samples passedOver).stand k) := by
  have hstepped := State.stepped_linkSide h samples passedOver
  rcases s.cycleStep_stand samples passedOver k with heq | ⟨-, g, heq⟩ <;> rw [heq]
  · exact hstepped
  · exact hstepped.trans (.of_eq rfl)

/-- R26: the five signals of a stand in service after a step of a cycle. -/
theorem State.cycleStep_captures (h : (s.stand k).inService = true) (samples : Option (Vector Slot 96))
    (passedOver : Bool) :
    ((s.cycleStep samples passedOver).stand k).status = ((s.stand k).status.step (s.stand k).map.status samples).1 ∧
      ∀ x, (((s.cycleStep samples passedOver).stand k).arm x).spindle =
          (((s.stand k).arm x).spindle.step ((s.stand k).map.spindle x) samples passedOver).1 ∧
        (((s.cycleStep samples passedOver).stand k).arm x).gauge =
          (((s.stand k).arm x).gauge.step ((s.stand k).map.gauge x) samples).1 := by
  have hsignals := State.cycleStep_linkSide h samples passedOver
  exact ⟨hsignals.status, fun x => ⟨(hsignals.spindle x).trans (by cases x <;> rfl),
    (hsignals.gauge x).trans (by cases x <;> rfl)⟩⟩

/-- The steps of a cycle make the same of a stand in parts with the same LINE that it cannot tell apart. -/
theorem State.stepped_congr {t : State} (h : s.Alike k t) (hmap : t.lineMap = s.lineMap) (hline : t.line = s.line) :
    t.stepped samples passedOver k = s.stepped samples passedOver k := by
  have hhand : (t.lineStep samples passedOver).2 = (s.lineStep samples passedOver).2 ∧
      (t.lineStep samples passedOver).1.lineSpeed = (s.lineStep samples passedOver).1.lineSpeed := by
    unfold State.lineStep
    rw [hmap, hline, h.lineSpeed]
    cases s.lineMap with
    | none => exact ⟨rfl, h.lineSpeed⟩
    | some e => exact ⟨rfl, rfl⟩
  obtain ⟨hs, hsc, hsg, hsf, hss⟩ := s.lineTaken_alike samples passedOver k
  obtain ⟨ht, htc, htg, htf, hts⟩ := t.lineTaken_alike samples passedOver k
  have halike : (s.lineTaken samples passedOver).Alike k (t.lineTaken samples passedOver) :=
    ⟨ht.trans (h.stand.trans hs.symm), htc.trans (h.engineCycle.trans hsc.symm),
      hts.trans (hhand.2.trans hss.symm),
      htg.trans (h.grades.trans hsg.symm), htf.trans (h.freeIndex.trans hsf.symm)⟩
  unfold State.stepped
  rw [hhand.1]
  exact (halike.standStep _ _ _).stand

end

/-! ### The steps of one stand -/

section
variable {samples : Option (Vector Slot 96)} {passedOver : Bool} {lh : LineHand} {s : State} {k : StandId}

theorem Stand.brakingStep_state (st : Stand) : st.brakingStep.state = st.state := by
  unfold Stand.brakingStep
  split <;> rfl

theorem Stand.reelChanges_of_gone {st : Stand} {h : StandHand} (hgone : (h.arm st.readyArm).change = some false) :
    st.reelChanges h = st.unmount := if_pos hgone

theorem Stand.unmount_of_other {st : Stand} (h : st.state ∉ [.checking, .ready, .fault]) :
    st.unmount = { st with mountPending := false } := by
  unfold Stand.unmount
  cases hstate : st.state <;> simp_all

theorem Stand.unmount_of_fault {st : Stand} (h : st.state = .fault) :
    st.unmount = { st with mountPending := false }.returnToHead := by
  unfold Stand.unmount
  rw [h]

theorem Stand.returnToHead_of_spent {st : Stand} (h : ∀ c, st.ready = some c → c.spent = true) :
    st.returnToHead = st := by
  unfold Stand.returnToHead
  split
  case h_1 c hc => rw [h c hc, if_pos rfl]
  case h_2 => rfl

theorem Stand.mountEdge_iff (st : Stand) (x : Arm) (h : ArmHand) :
    st.mountEdge x h = true ↔ st.ready = none ∧
      (h.change = some true ∨ h.firstTrue = true ∧ (st.arm x).declaredEmpty = true) := by
  simp [Stand.mountEdge]

theorem Stand.reelChanges_of_mount {st : Stand} {h : StandHand} (hnot : (h.arm st.readyArm).change ≠ some false)
    (hmount : st.mountEdge st.readyArm (h.arm st.readyArm) = true) :
    st.reelChanges h = { st with mountPending := true } :=
  (if_neg hnot).trans (if_pos hmount)

theorem Stand.reelChanges_of_none {st : Stand} {h : StandHand} (hnot : (h.arm st.readyArm).change ≠ some false)
    (hmount : ¬ st.mountEdge st.readyArm (h.arm st.readyArm) = true) : st.reelChanges h = st :=
  (if_neg hnot).trans (if_neg hmount)

end

/-! ### Frames in flight -/

section
variable {s : State} {f : RetFrame}

theorem State.beginReturn_inReset (s : State) (f : RetFrame) : (s.beginReturn f).inReset = s.inReset := by
  have hend : s.endReturn.inReset = s.inReset := by rw [State.endReturn_frame]
  unfold State.beginReturn
  dsimp only
  split
  · exact hend
  · split
    · split
      · unfold State.matchReturn
        split <;> exact hend
      · exact hend
    · exact hend

theorem State.returnEvent_head (hreset : s.inReset = false) (f : RetFrame) :
    s.returnEvent (.head f) = s.beginReturn f := if_neg (by rw [hreset]; exact Bool.false_ne_true)

theorem State.returnEvent_tail (hreset : s.inReset = false) : s.returnEvent .tail = s.endReturn :=
  if_neg (by rw [hreset]; exact Bool.false_ne_true)

/-- R10, R12: the return frame of the current cycle as it begins. -/
theorem State.beginReturn_of_matched (haddr : s.hasAddress = true) (hflight : s.inFlight = none)
    (hdecided : s.returnDecided = false) (hcycle : s.lastCycle = some f.cycle) :
    s.beginReturn f = { s with
      retFrame := some { f with slots := s.imageSlots f.slots }, retArrived := some f
      imageCount := if s.imageActive.isSome = true then s.imageCount + 1 else s.imageCount
      inFlight := some ⟨some f.slots, s.heldReply⟩
      heldReply := none, returnDecided := true, outPassing := false } := by
  rw [State.beginReturn_of_undecided hflight hdecided hcycle, if_pos rfl]
  exact if_pos haddr

/-- R12: the image in its two slots. -/
theorem State.imageSlots_of_none (h : s.imageActive = none) (slots : Vector Slot 96) : s.imageSlots slots = slots := by
  unfold State.imageSlots
  rw [h]

theorem State.imageSlots_of_some {i j : Fin 96} (h : s.imageActive = some (i, j)) (hne : i ≠ j) (slots : Vector Slot 96) :
    (s.imageSlots slots)[i] = ⟨s.imageCount + 1, s.nodeAddr, s.image0⟩ ∧
      (s.imageSlots slots)[j] = ⟨s.imageCount + 1, s.nodeAddr, s.image1⟩ ∧
      ∀ n : Fin 96, n ≠ i → n ≠ j → (s.imageSlots slots)[n] = slots[n] := by
  have hne' : i.val ≠ j.val := fun heq => hne (Fin.ext heq)
  unfold State.imageSlots
  rw [h]
  refine ⟨?_, ?_, fun n hi hj => ?_⟩
  · simp [hne'.symm, ownSlot]
  · simp [ownSlot]
  · have hi' : i.val ≠ n.val := fun heq => hi (Fin.ext heq.symm)
    have hj' : j.val ≠ n.val := fun heq => hj (Fin.ext heq.symm)
    simp [hi', hj']

/-- R11, R13, R26: the end of a frame in flight with samples. -/
theorem State.endReturn_of_samples {v : Vector Slot 96} {r : Option Reply} (h : s.inFlight = some ⟨some v, r⟩) :
    s.endReturn =
      { s with inFlight := none, retFrame := s.replyWritten, stepPending := false }.cycleStep (some v) false := by
  unfold State.endReturn
  rw [h]

/-- R11: the end of a frame in flight of which the next cycle took the samples. -/
theorem State.endReturn_of_no_samples {r : Option Reply} (h : s.inFlight = some ⟨none, r⟩) :
    s.endReturn = { s with inFlight := none, retFrame := s.replyWritten } := by
  unfold State.endReturn
  rw [h]

/-- R10, R12, R13: the part when the frame of its cycle has passed whole, and its step is to be taken. -/
def State.passedReturn (s : State) (f : RetFrame) : State :=
  { s with
    retFrame := some { f with
      slots := s.imageSlots f.slots
      reply := match s.heldReply with
        | some r => r.field
        | none => f.reply }
    retArrived := some f
    imageCount := if s.imageActive.isSome = true then s.imageCount + 1 else s.imageCount
    inFlight := none, heldReply := none, returnDecided := true, outPassing := false, stepPending := false }

theorem State.returnEvent_of_matched (hreset : s.inReset = false) (haddr : s.hasAddress = true)
    (hflight : s.inFlight = none) (hdecided : s.returnDecided = false) (hcycle : s.lastCycle = some f.cycle) :
    s.returnEvent (.whole f) = (s.passedReturn f).cycleStep (some f.slots) false := by
  have hbegun := State.beginReturn_of_matched haddr hflight hdecided hcycle
  rw [State.returnEvent_whole hreset, hbegun, State.endReturn_of_samples rfl, State.replyWritten_of_frame rfl]
  rfl

/-- A stand cannot tell the part from the one in which its frame has passed. -/
theorem State.passedReturn_alike (s : State) (f : RetFrame) (k : StandId) : s.Alike k (s.passedReturn f) :=
  ⟨rfl, rfl, rfl, rfl, rfl⟩

end

/-- R85, with the measurement before it: the steps of a stand in service, written out. -/
theorem State.standStep_eq {samples : Option (Vector Slot 96)} {passedOver : Bool} {lh : LineHand} {s : State}
    {k : StandId} (h : (s.stand k).state ≠ .offline) :
    let c := (s.stand k).captureStep samples passedOver
    let s1 := (s.setStand k (c.1.staleWindow c.2 lh)).watchStand k lh.stale
    let m := (s1.stand k).measureStep c.2 (!lh.stale) passedOver lh.increment s.lineSpeed s.grades
    let v := (m.1.reelChanges c.2).brakingStep
    State.standStep samples passedOver lh s k =
      (s1.setStand k v).transitions k c.2 lh.stale m.2 (m.1.state != v.state) := by
  intro c s1 m v
  rw [State.standStep_of_inService ((Stand.inService_iff _).mpr h), State.controllerStep, State.stand_setStand_same, State.setStand_setStand, ← Stand.brakingStep_state (Stand.reelChanges _ _)]
  rfl

/-- R69, R70, R73, R85: what a change of reel-present of the ready arm makes of a stand, by cases. -/
theorem Stand.reelChanges_cases (st : Stand) (h : StandHand) :
    let x := st.readyArm
    ((h.arm x).change = some false →
      (∀ c, st.ready = some c → c.spent = false → st.state ∈ [.checking, .ready, .fault] →
        st.reelChanges h = { st with
          mountPending := false, queue := c.record :: st.queue, ready := none, sNew := none
          gaugeWindow := none, state := if st.state = .fault then .fault else .running }) ∧
      (st.state ∉ [.checking, .ready, .fault] → st.reelChanges h = { st with mountPending := false }) ∧
      (st.state = .fault → (∀ c, st.ready = some c → c.spent = true) →
        st.reelChanges h = { st with mountPending := false })) ∧
    ((h.arm x).change ≠ some false → st.ready = none →
      (h.arm x).change = some true ∨ (h.arm x).firstTrue = true ∧ (st.arm x).declaredEmpty = true →
      st.reelChanges h = { st with mountPending := true }) ∧
    ((h.arm x).change ≠ some false →
      st.ready ≠ none ∨ (h.arm x).change = none ∧
        ((h.arm x).firstTrue = false ∨ (st.arm x).declaredEmpty = false) →
      st.reelChanges h = st) := by
  intro x
  refine ⟨fun hgone => ⟨fun c hc hspent hstate => ?_, fun hstate => ?_, fun hfault hspent => ?_⟩,
    fun hnot hready hmount => ?_, fun hnot hnone => ?_⟩
  · by_cases hfault : st.state = .fault
    · rw [Stand.reelChanges_of_gone hgone, Stand.unmount_of_fault hfault,
        Stand.returnToHead_of_returnable (st := { st with mountPending := false }) hc hspent, if_pos hfault, ← hfault]
    · have hbound : st.state ∈ [.checking, .ready] := by simpa [hfault] using hstate
      rw [Stand.reelChanges_of_unmounted hbound hgone hc hspent, if_neg hfault]
  · rw [Stand.reelChanges_of_gone hgone, Stand.unmount_of_other hstate]
  · rw [Stand.reelChanges_of_gone hgone, Stand.unmount_of_fault hfault,
      Stand.returnToHead_of_spent (st := { st with mountPending := false }) hspent]
  · exact Stand.reelChanges_of_mount hnot ((st.mountEdge_iff _ _).mpr ⟨hready, hmount⟩)
  · refine Stand.reelChanges_of_none hnot fun hmount => ?_
    obtain ⟨hready, hedge⟩ := (st.mountEdge_iff _ _).mp hmount
    rcases hnone with hsome | ⟨hchange, hfirst⟩
    · exact hsome hready
    · rcases hedge with hedge | ⟨hfirstTrue, hempty⟩
      · rw [hchange] at hedge; cases hedge
      · rcases hfirst with hfirst | hfirst
        · rw [hfirst] at hfirstTrue; cases hfirstTrue
        · rw [hfirst] at hempty; cases hempty

theorem State.startMarker_of_running {s : State} (hreset : s.inReset = false) (f : OutFrame) :
    s.startMarker f = (s.beginCycle f.cycle).passOutbound f := if_neg (by rw [hreset]; exact Bool.false_ne_true)

/-- Settles O8: a whole frame is its passing (`passedReturn`) and the step of its cycle, of which a stand sees what its
own steps make of it (`cycleStep_stand`). -/
theorem matchedReturnFrameIsWritten : Obligations.MatchedReturnFrameIsWritten := by
  refine ⟨fun s f hreset haddr hflight hdecided hcycle => ?_, fun samples passedOver lh s k => ⟨fun h => ?_, fun h => ?_⟩,
    fun s f hreset => ?_, fun s f g hreset hflight => ?_, fun st h => st.reelChanges_cases h⟩
  · have hexec : exec (.returnFrame (.whole f)) s = .next ((s.passedReturn f).cycleStep (some f.slots) false) :=
      congrArg Host.Outcome.next (State.returnEvent_of_matched hreset haddr hflight hdecided hcycle)
    have hwork := (s.passedReturn f).cycleStep_onlyWork (some f.slots) false
    have hmapped (e : RetEntry) (h : s.lineMap = some e) := State.cycleStep_line_of_mapped (s := s.passedReturn f)
      (samples := some f.slots) (passedOver := false) h
    have hunmapped (h : s.lineMap = none) := State.cycleStep_line_of_unmapped (s := s.passedReturn f)
      (samples := some f.slots) (passedOver := false) h
    have hsignals (k : StandId) (h : (s.stand k).inService = true) := State.cycleStep_captures (s := s.passedReturn f)
      (k := k) h (some f.slots) false
    have hstands (k : StandId) := (s.passedReturn f).cycleStep_stand (some f.slots) false k
    simp only [State.stepped_congr (s.passedReturn_alike f _) rfl rfl] at hstands
    generalize (s.passedReturn f).cycleStep (some f.slots) false = t at *
    refine ⟨t, { f with
        slots := s.imageSlots f.slots
        reply := match s.heldReply with
          | some r => r.field
          | none => f.reply }, hexec, (congrArg State.retFrame hwork :), rfl, rfl, fun hnone => ?_,
      fun i j hmap hne => ?_, (congrArg State.heldReply hwork :), (congrArg State.inFlight hwork :),
      (congrArg State.returnDecided hwork :), (congrArg State.stepPending hwork :), (congrArg State.outPassing hwork :),
      (congrArg State.engineCycle hwork :), hmapped, hunmapped, hsignals, fun hs k => ?_⟩
    · refine ⟨State.imageSlots_of_none hnone _, (congrArg State.imageCount hwork :).trans ?_⟩
      exact if_neg (by rw [hnone]; exact Bool.false_ne_true)
    · obtain ⟨hi, hj, hothers⟩ := State.imageSlots_of_some hmap hne f.slots
      refine ⟨hi, hj, hothers, (congrArg State.imageCount hwork :).trans ?_⟩
      exact if_pos (by rw [hmap]; rfl)
    · exact (hstands k).imp_right fun ⟨hrequests, hgrant⟩ => ⟨hrequests hs, hgrant⟩
  · exact State.standStep_of_not_inService (StandState.inService_eq_false.mpr h)
  · exact State.standStep_eq h
  · have hbegun := (State.beginReturn_inReset s f).trans hreset
    refine ⟨s.beginReturn f, congrArg Host.Outcome.next (State.returnEvent_head hreset f), ?_, fun haddr hflight hdecided
      hcycle => State.beginReturn_of_matched haddr hflight hdecided hcycle⟩
    exact congrArg Host.Outcome.next ((State.returnEvent_tail hbegun).trans (State.returnEvent_whole hreset f).symm)
  · have hexec : exec (.outboundStartMarker f) s = .next ((s.beginCycle f.cycle).passOutbound f) :=
      congrArg Host.Outcome.next (State.startMarker_of_running hreset f)
    have hbegun := (s.beginCycle_frame f.cycle).2
    have hpassed := (s.beginCycle f.cycle).passOutbound_frame f
    generalize s.beginCycle f.cycle = u at hbegun hpassed hexec
    generalize u.passOutbound f = t at hpassed hexec
    have hreset' : t.inReset = false :=
      (congrArg State.inReset hpassed :).trans ((congrArg State.inReset hbegun :).trans hreset)
    have hret : t.retFrame = s.retFrame := (congrArg State.retFrame hpassed :).trans (congrArg State.retFrame hbegun :)
    have hflight' : t.inFlight = some ⟨none, g.reply⟩ := by
      rw [(congrArg State.inFlight hpassed :), (congrArg State.inFlight hbegun :)]
      dsimp only
      rw [hflight]
      rfl
    refine ⟨t, hexec, hflight', hret, (congrArg State.retArrived hpassed :).trans (congrArg State.retArrived hbegun :), ?_⟩
    refine congrArg Host.Outcome.next ((State.returnEvent_tail hreset').trans ?_)
    rw [State.endReturn_of_no_samples hflight', State.replyWritten, hflight', hret]
    cases g.reply with
    | none => simp
    | some r => simp

end Sys2Proof.Machine
end

section
/-!
SUPPORT. The marker begins a cycle without a change of claims, counts and maps; the claim check of a frame (R7, R8, R160):
O7.
-/
namespace Sys2Proof.Machine

/-! ### Claims through the steps of cycles -/

/-- Two stands with the same claim-lost flag, command counts, slot map and service. -/
structure Stand.SameClaim (st st' : Stand) : Prop where
  claimLost : st'.claimLost = st.claimLost
  counts : st'.counts = st.counts
  map : st'.map = st.map
  service : st'.inService = st.inService

theorem Stand.SameClaim.refl (st : Stand) : st.SameClaim st := ⟨rfl, rfl, rfl, rfl⟩

theorem Stand.SameClaim.trans {st st' st'' : Stand} (h : st.SameClaim st') (h' : st'.SameClaim st'') : st.SameClaim st'' :=
  ⟨h'.claimLost.trans h.claimLost, h'.counts.trans h.counts, h'.map.trans h.map, h'.service.trans h.service⟩

/-- From s to t, where groups and stands agree, they agree still and every stand has the same claim. -/
def State.KeepsClaims (s t : State) : Prop :=
  GroupsAgree s → GroupsAgree t ∧ ∀ k, (s.stand k).SameClaim (t.stand k)

section
variable {s t u : State}

theorem State.KeepsClaims.refl (s : State) : s.KeepsClaims s := fun hs => ⟨hs, fun _ => .refl _⟩

theorem State.KeepsClaims.trans (h : s.KeepsClaims t) (h' : t.KeepsClaims u) : s.KeepsClaims u := fun hs => by
  obtain ⟨ht, hst⟩ := h hs
  obtain ⟨hu, htu⟩ := h' ht
  exact ⟨hu, fun k => (hst k).trans (htu k)⟩

theorem State.stepped_of_offline {samples : Option (Vector Slot 96)} {passedOver : Bool} {k : StandId}
    (h : (s.stand k).inService = false) : s.stepped samples passedOver k = s.stand k := by
  obtain ⟨hstand, -⟩ := s.lineTaken_alike samples passedOver k
  unfold State.stepped
  rw [State.standStep_of_not_inService (by rw [hstand]; exact h), hstand]

theorem State.stepped_inService {samples : Option (Vector Slot 96)} {passedOver : Bool} {k : StandId}
    (h : (s.stand k).inService = true) : (s.stepped samples passedOver k).inService = true := by
  obtain ⟨hstand, -⟩ := s.lineTaken_alike samples passedOver k
  have hmoves := (State.standStep_actsAt (cmd := .linkLoss) (agree := False) samples passedOver
    (s.lineStep samples passedOver).2 (s.lineTaken samples passedOver) k).moves
  rw [Stand.inService_iff] at h ⊢
  exact hmoves.inService (fun _ => nofun) (by rw [hstand]; exact h)

theorem State.stepped_claim (samples : Option (Vector Slot 96)) (passedOver : Bool) (k : StandId) :
    (s.stand k).SameClaim (s.stepped samples passedOver k) := by
  cases hk : (s.stand k).inService
  case false =>
    rw [State.stepped_of_offline hk]
    exact .refl _
  case true =>
    have hside := State.stepped_linkSide hk samples passedOver
    exact ⟨hside.claimLost, hside.counts, hside.map, (State.stepped_inService hk).trans hk.symm⟩

theorem State.cycleStep_keepsClaims (s : State) (samples : Option (Vector Slot 96)) (passedOver : Bool) :
    s.KeepsClaims (s.cycleStep samples passedOver) := fun hs => by
  refine ⟨(s.cycleStep_keepsAgreement samples passedOver hs).1, fun k => ?_⟩
  have hstepped := s.stepped_claim samples passedOver k
  rcases s.cycleStep_stand samples passedOver k with heq | ⟨hrequests, g, heq⟩ <;> rw [heq]
  · exact hstepped
  · refine hstepped.trans ⟨rfl, rfl, rfl, ?_⟩
    have hmatched := Stand.matched_of_requests (hrequests hs)
    unfold Stand.inService
    rw [hmatched]
    rfl

theorem State.pendingStep_keepsClaims (s : State) : s.KeepsClaims s.pendingStep := by
  unfold State.pendingStep
  split
  · exact State.cycleStep_keepsClaims { s with stepPending := false } none false
  · exact .refl s

theorem State.passOver_keepsClaims (n : Nat) (s : State) : s.KeepsClaims (State.passOver n s) := by
  induction n generalizing s with
  | zero => exact .refl s
  | succ n ih =>
    have hstep := State.cycleStep_keepsClaims { s with engineCycle := some (s.cycle + 1) } none true
    exact State.KeepsClaims.trans hstep (ih _)

theorem State.dropFires_stand (s : State) (k : StandId) : s.dropFires.stand k = (s.stand k).dropFire :=
  State.stand_foldl_allStands (fun _ => Stand.dropFire) s k

theorem State.restart_stand (s : State) (k : StandId) : s.restart.stand k = (s.stand k).restart :=
  State.stand_foldl_allStands (fun _ => Stand.restart) { s with line := { s.line with hist := [] } } k

theorem State.dropFires_keepsClaims (s : State) : s.KeepsClaims s.dropFires := fun hs =>
  ⟨(s.dropFires_keepsAgreement hs).1, fun k => by rw [State.dropFires_stand]; exact ⟨rfl, rfl, rfl, rfl⟩⟩

theorem State.restart_keepsClaims (s : State) : s.KeepsClaims s.restart := fun hs =>
  ⟨(s.restart_keepsAgreement hs).1, fun k => by rw [State.restart_stand]; exact ⟨rfl, rfl, rfl, rfl⟩⟩

theorem State.advanceCycle_keepsClaims (s : State) (c : Word) (d : Nat) : s.KeepsClaims (s.advanceCycle c d) := by
  have hdrop : s.KeepsClaims (if d = 1 then s else s.dropFires) := by
    split
    · exact .refl s
    · exact s.dropFires_keepsClaims
  have hrestart : ∀ t : State, t.KeepsClaims (if s.breaks d then t.restart else t) := by
    intro t
    split
    · exact t.restart_keepsClaims
    · exact .refl t
  exact ((hdrop.trans (State.pendingStep_keepsClaims _)).trans (hrestart _)).trans
    (State.passOver_keepsClaims (d - 1) _)

/-- R3, R4, R26: the steps a marker makes up for leave claims, counts, maps and service as they are. -/
theorem State.beginCycle_keepsClaims (s : State) (num : BitVec 16) : s.KeepsClaims (s.beginCycle num) := by
  have hdiscard : s.KeepsClaims { s.discardSamples with heldReply := none } := .refl s
  unfold State.beginCycle
  generalize { s.discardSamples with heldReply := none } = s0 at hdiscard ⊢
  dsimp only
  split
  case h_1 => exact hdiscard
  case h_2 c _ => exact hdiscard.trans (s0.advanceCycle_keepsClaims c _)

end

/-! ### A claim conflict of one stand -/

/-- A stand as it was, or a requester that a decision has granted (R133). -/
def Stand.SameOrGranted (st st' : Stand) : Prop :=
  st' = st ∨ st.requests = true ∧ ∃ g, st' = { st with state := .firingPending, grant := some g }

section
variable {st st' st'' : Stand}

theorem Stand.SameOrGranted.refl (st : Stand) : st.SameOrGranted st := .inl rfl

theorem Stand.SameOrGranted.trans (h : st.SameOrGranted st') (h' : st'.SameOrGranted st'') : st.SameOrGranted st'' := by
  rcases h' with rfl | ⟨hrequests', g', rfl⟩
  · exact h
  · rcases h with rfl | ⟨hrequests, g, rfl⟩
    · exact .inr ⟨hrequests', g', rfl⟩
    · exact .inr ⟨hrequests, g', rfl⟩

theorem Stand.SameOrGranted.eq_of_not_matched (h : st.SameOrGranted st') (hstate : st.state ≠ .matched) : st' = st := by
  rcases h with heq | ⟨hrequests, -⟩
  · exact heq
  · exact absurd (Stand.matched_of_requests hrequests) hstate

theorem Stand.SameOrGranted.claim (h : st.SameOrGranted st') : st.SameClaim st' := by
  rcases h with rfl | ⟨hrequests, g, rfl⟩
  · exact .refl _
  · refine ⟨rfl, rfl, rfl, ?_⟩
    have hmatched := Stand.matched_of_requests hrequests
    unfold Stand.inService
    rw [hmatched]
    rfl

end

section
variable {s : State} {k : StandId}

theorem State.GrantsIn.sameOrGranted {G : GroupId → Prop} {t : State} (h : s.GrantsIn G t) (hs : GroupsAgree s) (j : StandId) :
    (s.stand j).SameOrGranted (t.stand j) :=
  (h.stand j).imp_right fun ⟨hrequests, hgrant⟩ => ⟨(hrequests hs).1, hgrant⟩

/-- The part when stand k has taken the fault of its claim conflict, before the decisions. -/
def State.claimFaulted (s : State) (k : StandId) : State :=
  (s.modStand k fun st => { st with claimLost := true }).takeFault k .claimConflict none

theorem State.claimConflict_eq (s : State) (k : StandId) :
    s.claimConflict k = (State.decideChanged s (s.claimFaulted k)).joinLog := rfl

theorem GroupsAgree.claimFaulted (hs : GroupsAgree s) (k : StandId) : GroupsAgree (s.claimFaulted k) :=
  ((State.modStand_sameRoles Stand.claimLost_sameRole s k).groupsAgree hs).takeFault k .claimConflict none

theorem State.claimFaulted_stand (h : (s.stand k).inService = true) :
    (s.claimFaulted k).stand k = Stand.struck { s.stand k with claimLost := true } .claimConflict s.cycle := by
  have hself : (s.modStand k fun st => { st with claimLost := true }).stand k =
      { s.stand k with claimLost := true } := by rw [State.stand_modStand, if_pos rfl]
  unfold State.claimFaulted
  rw [State.takeFault_struck (by rw [hself]; exact (Stand.inService_iff _).mp h), hself]
  rfl

theorem State.claimFaulted_actsAt (s : State) (k : StandId) : s.ActsAt .linkLoss False k (s.claimFaulted k) :=
  (s.claimLost_actsAt k).trans (State.takeFault_actsAt _ k .claimConflict none)

theorem State.claimFaulted_other (s : State) {j k : StandId} (h : j ≠ k) : (s.claimFaulted k).stand j = s.stand j :=
  (s.claimFaulted_actsAt k).others j h

theorem State.claimConflict_stand_decided (s : State) (j k : StandId) :
    (s.claimConflict k).stand j = (State.decideChanged s (s.claimFaulted k)).stand j := by
  rw [State.claimConflict_eq, State.joinLog_frame]
  rfl

/-- R7: a stand with a claim conflict is struck, and no decision changes it. -/
theorem State.claimConflict_stand (hs : GroupsAgree s) (h : (s.stand k).inService = true) :
    (s.claimConflict k).stand k = Stand.struck { s.stand k with claimLost := true } .claimConflict s.cycle := by
  have hstand := State.claimFaulted_stand h
  rw [State.claimConflict_stand_decided, State.decideChanged_stand_of_not_requests (hs.claimFaulted k), hstand]
  rw [hstand]
  exact Stand.requests_eq_false (by rw [Stand.struck_state]; exact nofun)

theorem State.claimConflict_other (hs : GroupsAgree s) {j : StandId} (h : j ≠ k) :
    (s.stand j).SameOrGranted ((s.claimConflict k).stand j) := by
  rw [State.claimConflict_stand_decided, ← s.claimFaulted_other h]
  exact (State.decideChanged_grantsAny s _).sameOrGranted (hs.claimFaulted k) j

theorem Stand.struck_claim (st : Stand) (kind : FaultKind) (c : Word) :
    (st.struck kind c).claimLost = st.claimLost ∧ (st.struck kind c).map = st.map ∧ (st.struck kind c).counts = st.counts := by
  have hside : st.SameLinkSide (st.struck kind c) := by
    unfold Stand.struck
    split
    · exact st.markFurther_linkSide
    · exact st.enterFault_linkSide kind c none
  exact ⟨hside.claimLost, hside.map, hside.counts⟩

/-- R160: the log entries that a claim conflict forms. -/
theorem State.claimFaulted_formed (s : State) (k : StandId) :
    (s.claimFaulted k).formed = s.formed ++ (s.stand k).abortedEntries k := by
  have hself : (s.modStand k fun st => { st with claimLost := true }).stand k =
      { s.stand k with claimLost := true } := by rw [State.stand_modStand, if_pos rfl]
  unfold State.claimFaulted
  rw [State.takeFault_formed_aborted _ k rfl none, hself]
  rfl

/-- R160-R163: the log after a claim conflict. -/
theorem State.claimConflict_log (s : State) (k : StandId) (hlog : LogBounded s) :
    ((s.stand k).abortedEntries k = [] → (s.claimConflict k).log = s.log ∧ (s.claimConflict k).overrun = s.overrun) ∧
    ∀ e, (s.stand k).abortedEntries k = [e] →
      (s.claimConflict k).log = (if s.log.length < 32 then s.log else s.log.drop 1) ++ [e] ∧
      (s.claimConflict k).overrun = (s.overrun || decide (s.log.length = 32)) := by
  have hframe := (s.claimFaulted_actsAt k).frame
  have hbefore : (s.claimFaulted k).log = s.log ∧ (s.claimFaulted k).overrun = s.overrun :=
    ⟨(congrArg State.log hframe :), (congrArg State.overrun hframe :)⟩
  have hformed := s.claimFaulted_formed k
  rw [hlog.2, List.nil_append] at hformed
  have hdecided := (State.decideChanged_grantsAny s (s.claimFaulted k)).frame
  rw [State.claimConflict_eq]
  generalize State.decideChanged s (s.claimFaulted k) = t at hdecided ⊢
  have htformed : t.formed = (s.stand k).abortedEntries k := (congrArg State.formed hdecided :).trans hformed
  have htlog : t.log = s.log := (congrArg State.log hdecided :).trans hbefore.1
  have htover : t.overrun = s.overrun := (congrArg State.overrun hdecided :).trans hbefore.2
  refine ⟨fun hnone => ?_, fun e hone => ?_⟩
  · rw [State.joinLog_of_formed_nil t (htformed.trans hnone)]
    exact ⟨htlog, htover⟩
  · obtain ⟨es, hperm, hjoined, hover⟩ := State.joinLog_log (s := t) (by rw [htlog]; exact hlog.1)
    rw [htformed, hone] at hperm
    obtain rfl := List.perm_singleton.mp hperm
    rw [htlog] at hjoined hover
    rw [htover] at hover
    have hlen := hlog.1
    refine ⟨hjoined.trans ?_, hover.trans (congrArg (s.overrun || ·) (decide_eq_decide.mpr ?_))⟩
    · split
      case isTrue hroom =>
        rw [show s.log.length + [e].length - 32 = 0 by simp; omega, List.drop_zero]
      case isFalse hfull =>
        rw [show s.log.length + [e].length - 32 = 1 by simp; omega, List.drop_append_of_le_length (by omega)]
    · simp only [List.length_singleton]
      omega

/-! ### The claim check of a frame -/

theorem State.claimConflict_keeps_other_stands (hs : GroupsAgree s) (l : List StandId) {j : StandId} (hj : j ∉ l) :
    (s.stand j).SameOrGranted ((l.foldl State.claimConflict s).stand j) := by
  induction l generalizing s with
  | nil => exact .refl _
  | cons k l ih =>
    obtain ⟨hne, hrest⟩ := not_or.mp (mt List.mem_cons.mpr hj)
    exact (State.claimConflict_other hs hne).trans (ih (s.claimConflict_keepsAgreement k hs).1 hrest)

/-- R7: a stand with a claim conflict is struck as it stands after the conflicts before it, and stays so. -/
theorem State.foldl_claimConflict_stand (hs : GroupsAgree s) {l : List StandId} (hl : l.Nodup) (hk : k ∈ l)
    (hservice : (s.stand k).inService = true) :
    ∃ st, (s.stand k).SameOrGranted st ∧
      (l.foldl State.claimConflict s).stand k = Stand.struck { st with claimLost := true } .claimConflict s.cycle := by
  obtain ⟨pre, post, rfl⟩ := List.append_of_mem hk
  obtain ⟨-, hpost, hdisjoint⟩ := List.nodup_append.mp hl
  have hpre : k ∉ pre := fun hmem => hdisjoint k hmem k List.mem_cons_self rfl
  have hsame := State.claimConflict_keeps_other_stands hs pre hpre
  have hagree : GroupsAgree (pre.foldl State.claimConflict s) :=
    .foldl (fun t j ht => (t.claimConflict_keepsAgreement j ht).1) pre hs
  have hcycle : (pre.foldl State.claimConflict s).cycle = s.cycle := by
    have hwork := State.OnlyWork.foldl State.claimConflict_onlyWork pre s
    unfold State.OnlyWork at hwork
    exact (congrArg State.cycle hwork :)
  have hstruck := State.claimConflict_stand hagree (hsame.claim.service.trans hservice)
  have hkept := State.claimConflict_keeps_other_stands ((State.claimConflict_keepsAgreement _ k hagree).1) post
    (List.nodup_cons.mp hpost).1
  rw [List.foldl_append, List.foldl_cons]
  refine ⟨_, hsame, (hkept.eq_of_not_matched ?_).trans (hstruck.trans (by rw [hcycle]))⟩
  rw [hstruck, Stand.struck_state]
  exact nofun

theorem sortKeyed_mem {α : Type} (key : α → Nat) {l : List α} {x : α} : x ∈ sortKeyed key l ↔ x ∈ l :=
  (sortKeyed_perm key l).mem_iff

theorem State.checkClaims_stand (s : State) (slots : Vector Slot 48) (k : StandId) :
    (s.checkClaims slots).stand k =
      ((sortKeyed (Config.eventOrder s.freeIndex) (allStands.filter (s.claimFails slots))).foldl State.claimConflict
        s).stand k := rfl

theorem mem_commandSlots (m : SlotMap) (i : Fin 48) :
    i ∈ m.commandSlots ↔ some i ∈ [m.driveA, m.driveB, m.paste, m.knife] := by
  simp [SlotMap.commandSlots, SlotMap.outboundEntries, eq_comm]

theorem State.claimFails_iff (s : State) (slots : Vector Slot 48) (k : StandId) :
    s.claimFails slots k = true ↔ (s.stand k).inService = true ∧ (s.stand k).claimLost = false ∧
      ∃ i ∈ (s.stand k).map.commandSlots, slots[i].tag ≠ 0 ∧ slots[i].tag ≠ s.nodeAddr := by
  simp [State.claimFails, foreignTag, and_assoc]

/-- R7: the claim check leaves a stand whose claim does not fail, but for a grant. -/
theorem State.checkClaims_of_not_fails (hs : GroupsAgree s) {slots : Vector Slot 48}
    (h : ¬ s.claimFails slots k = true) : (s.stand k).SameOrGranted ((s.checkClaims slots).stand k) := by
  rw [State.checkClaims_stand]
  refine State.claimConflict_keeps_other_stands hs _ fun hmem => h ?_
  exact (List.mem_filter.mp ((sortKeyed_mem _).mp hmem)).2

theorem State.checkClaims_of_fails (hs : GroupsAgree s) {slots : Vector Slot 48} (h : s.claimFails slots k = true) :
    ∃ st, (s.stand k).SameOrGranted st ∧
      (s.checkClaims slots).stand k = Stand.struck { st with claimLost := true } .claimConflict s.cycle := by
  rw [State.checkClaims_stand]
  refine State.foldl_claimConflict_stand hs ((sortKeyed_perm _ _).nodup_iff.mpr (allStands_nodup.filter _))
    ((sortKeyed_mem _).mpr (List.mem_filter.mpr ⟨mem_allStands k, h⟩)) ((s.claimFails_iff slots k).mp h).1

/-- R7: the claim check leaves maps, counts and service, and clears no claim-lost flag. -/
theorem State.checkClaims_claim (hs : GroupsAgree s) (slots : Vector Slot 48) (k : StandId) :
    ((s.checkClaims slots).stand k).map = (s.stand k).map ∧ ((s.checkClaims slots).stand k).counts = (s.stand k).counts ∧
      ((s.checkClaims slots).stand k).inService = (s.stand k).inService ∧
      (((s.checkClaims slots).stand k).claimLost = true ↔
        (s.stand k).claimLost = true ∨ s.claimFails slots k = true) := by
  by_cases h : s.claimFails slots k = true
  · obtain ⟨st, hst, hstand⟩ := State.checkClaims_of_fails hs h
    obtain ⟨hclaim, hmap, hcounts⟩ := Stand.struck_claim { st with claimLost := true } .claimConflict s.cycle
    have hservice := ((s.claimFails_iff slots k).mp h).1
    rw [hstand]
    refine ⟨hmap.trans hst.claim.map, hcounts.trans hst.claim.counts, ?_, by simp [hclaim, h]⟩
    rw [hservice, Stand.inService_iff, Stand.struck_state]
    exact nofun
  · have hsame := (State.checkClaims_of_not_fails hs h).claim
    exact ⟨hsame.map, hsame.counts, hsame.service, by simp [hsame.claimLost, h]⟩

end

/-! ### The writes of a frame -/

section
variable {m : Word} {i : Fin 48}

theorem writeSlot_other {slots : Vector Slot 48} {e : Option (Fin 48)} (h : e ≠ some i) (addr : BitVec 5) (n : BitVec 3)
    (payload : BitVec 32) : (writeSlot slots e addr n payload)[i] = slots[i] := by
  unfold writeSlot
  split
  case h_1 j =>
    have hne : j.val ≠ i.val := fun heq => h (congrArg some (Fin.ext heq))
    simp [hne]
  case h_2 => rfl

theorem Stand.writeSlots_other {st : Stand} (h : i ∉ st.map.commandSlots) (addr : BitVec 5) (fire knife : Option Nat)
    (slots : Vector Slot 48) : (st.writeSlots addr fire knife slots)[i] = slots[i] := by
  rw [mem_commandSlots] at h
  simp only [List.mem_cons, List.not_mem_nil, or_false, not_or] at h
  obtain ⟨ha, hb, hp, hn⟩ := h
  unfold Stand.writeSlots
  dsimp only
  rw [writeSlot_other (Ne.symm hn), writeSlot_other (Ne.symm hp), writeSlot_other (Ne.symm hb), writeSlot_other (Ne.symm ha)]

theorem State.writeStand_of_not_written {acc : State × Vector Slot 48} {k : StandId}
    (h : (acc.1.stand k).written = false) : State.writeStand m acc k = acc := by
  unfold State.writeStand
  rw [h, if_neg Bool.false_ne_true]

theorem State.writeStand_other (acc : State × Vector Slot 48) {j k : StandId} (h : j ≠ k) :
    (State.writeStand m acc k).1.stand j = acc.1.stand j :=
  (State.writeStand_actsAt (cmd := .linkLoss) (agree := False) m acc k).others j h

theorem Stand.fireStep_map (s : State) (k : StandId) (m : Word) :
    ((s.fireStep k m).1.stand k).map = (s.stand k).map ∧ ((s.fireStep k m).1.stand k).counts = (s.stand k).counts := by
  unfold State.fireStep
  dsimp only
  split
  · split <;> rw [State.stand_setStand_same] <;> exact ⟨rfl, rfl⟩
  · exact ⟨rfl, rfl⟩

theorem Stand.knifeStep_map (s : State) (k : StandId) (m : Word) :
    ((s.knifeStep k m).1.stand k).map = (s.stand k).map ∧ ((s.knifeStep k m).1.stand k).counts = (s.stand k).counts := by
  unfold State.knifeStep
  dsimp only
  split
  · split
    · rw [State.stand_setStand_same]; exact ⟨rfl, rfl⟩
    · exact ⟨rfl, rfl⟩
  · exact ⟨rfl, rfl⟩

/-- The part after the fire, the knife and the counts of stand k in outbound m. -/
def State.advanced (s : State) (k : StandId) (m : Word) : State :=
  ((s.fireStep k m).1.knifeStep k m).1.modStand k fun st => { st with counts := st.counts.advance }

theorem State.writeStand_of_written {acc : State × Vector Slot 48} {k : StandId} (h : (acc.1.stand k).written = true) :
    State.writeStand m acc k = (acc.1.advanced k m, ((acc.1.advanced k m).stand k).writeSlots (acc.1.advanced k m).nodeAddr
      (acc.1.fireStep k m).2 ((acc.1.fireStep k m).1.knifeStep k m).2 acc.2) := by
  unfold State.writeStand
  rw [h, if_pos rfl]
  rfl

theorem State.advanced_stand (s : State) (k : StandId) (m : Word) :
    (s.advanced k m).stand k = { ((s.fireStep k m).1.knifeStep k m).1.stand k with
      counts := (s.stand k).counts.advance } := by
  unfold State.advanced
  rw [State.stand_modStand, if_pos rfl, (Stand.knifeStep_map _ k m).2, (Stand.fireStep_map s k m).2]

theorem State.advanced_map (s : State) (k : StandId) (m : Word) : ((s.advanced k m).stand k).map = (s.stand k).map := by
  rw [State.advanced_stand]
  exact (Stand.knifeStep_map _ k m).1.trans (Stand.fireStep_map s k m).1

/-- R5: the writes of a stand leave every slot that is not its own. -/
theorem State.writeStand_slot_other {acc : State × Vector Slot 48} {k : StandId}
    (h : (acc.1.stand k).written = true → i ∉ (acc.1.stand k).map.commandSlots) :
    (State.writeStand m acc k).2[i] = acc.2[i] := by
  cases hk : (acc.1.stand k).written
  case false => rw [State.writeStand_of_not_written hk]
  case true =>
    rw [State.writeStand_of_written hk]
    exact Stand.writeSlots_other (by rw [State.advanced_map]; exact h hk) _ _ _ _

/-- R5: the writes of a frame leave every slot that is that of no stand the part writes. -/
theorem State.foldl_writeStand_slot_other {l : List StandId} (hl : l.Nodup) {acc : State × Vector Slot 48}
    (h : ∀ k ∈ l, (acc.1.stand k).written = true → i ∉ (acc.1.stand k).map.commandSlots) :
    (l.foldl (State.writeStand m) acc).2[i] = acc.2[i] := by
  induction l generalizing acc with
  | nil => rfl
  | cons k l ih =>
    obtain ⟨hnot, hrest⟩ := List.nodup_cons.mp hl
    rw [List.foldl_cons, ih hrest fun j hj => ?_]
    · exact State.writeStand_slot_other (h k List.mem_cons_self)
    · rw [State.writeStand_other acc (ne_of_mem_of_not_mem hj hnot)]
      exact h j (List.mem_cons_of_mem k hj)

theorem State.foldl_writeStand_stand_of_not_written {l : List StandId} {acc : State × Vector Slot 48} {k : StandId}
    (h : (acc.1.stand k).written = false) : (l.foldl (State.writeStand m) acc).1.stand k = acc.1.stand k := by
  induction l generalizing acc with
  | nil => rfl
  | cons j l ih =>
    have hsame : (State.writeStand m acc j).1.stand k = acc.1.stand k := by
      by_cases hj : k = j
      · subst hj
        rw [State.writeStand_of_not_written h]
      · exact State.writeStand_other acc hj
    rw [List.foldl_cons, ih (by rw [hsame]; exact h), hsame]

end

/-! ### An outbound frame with an address -/

section
variable {s : State} {f : OutFrame}

theorem State.passOutbound_of_address (h : s.hasAddress = true) (f : OutFrame) :
    ∃ w : State × Vector Slot 48,
      w = allStands.foldl (State.writeStand s.cycle) (s.checkClaims f.slots, f.slots) ∧
      (s.passOutbound f).outFrame = some { f with slots := w.2 } ∧ ∀ k, (s.passOutbound f).stand k = w.1.stand k := by
  refine ⟨_, rfl, ?_⟩
  unfold State.passOutbound
  rw [if_pos h]
  generalize allStands.foldl (State.writeStand s.cycle) (s.checkClaims f.slots, f.slots) = w
  exact ⟨rfl, fun _ => rfl⟩

end

end Sys2Proof.Machine
end

section
/-! SUPPORT. O7 and O5: the stands that a frame's claims strike, and the slots that leave as they arrived. -/
namespace Sys2Proof.Machine

section
variable {s : State} {k : StandId}

theorem Stand.abortedEntries_of_not_fired {st : Stand} (h : st.state ∉ [.firingIssued, .confirm]) (k : StandId) :
    st.abortedEntries k = [] := by
  unfold Stand.abortedEntries
  refine if_neg fun hfire => h ?_
  simpa using (StandState.afterFire_iff _).mp hfire

theorem Stand.abortedEntries_of_fired {st : Stand} (h : st.state ∈ [.firingIssued, .confirm]) {old : RunningContext}
    {new : ReadyContext} {p : FirePlan} {q : KeptSequence} (hold : st.running = some old) (hnew : st.ready = some new)
    (hp : st.sched.plan = some p) (hq : st.kept = some q) (k : StandId) :
    st.abortedEntries k = [sequenceEntry k .aborted old new p q none] := by
  unfold Stand.abortedEntries Stand.logEntry
  rw [if_pos ((StandState.afterFire_iff _).mpr (by simpa using h)), hold, hnew, hp, hq]
  rfl

/-- R142: the record that a stand latches which a decision may have granted before. -/
theorem Stand.SameOrGranted.latched_fields {st st' : Stand} (h : st.SameOrGranted st') (c : Word) :
    ((st'.latched .claimConflict c none).fireIssued =
      decide (st.state = .firingIssued ∨ st.state = .confirm ∨ st.state = .settle)) ∧
    st'.runningArm = st.runningArm ∧ (st'.state = st.state ∨ st.requests = true ∧ st'.state = .firingPending) := by
  rcases h with rfl | ⟨hrequests, g, rfl⟩
  · exact ⟨rfl, rfl, .inl rfl⟩
  · refine ⟨?_, rfl, .inr ⟨hrequests, rfl⟩⟩
    rw [Stand.matched_of_requests hrequests]
    rfl

theorem Stand.SameOrGranted.not_fault {st st' : Stand} (h : st.SameOrGranted st') (hstate : st.state ≠ .fault) :
    st'.state ≠ .fault := by
  rcases h with rfl | ⟨-, g, rfl⟩
  · exact hstate
  · exact nofun

theorem State.claimFails_iff_struck (s : State) (slots : Vector Slot 48) (k : StandId) :
    s.claimFails slots k = true ↔ (s.stand k).state ≠ .offline ∧ (s.stand k).claimLost = false ∧
      ∃ i : Fin 48, some i ∈ [(s.stand k).map.driveA, (s.stand k).map.driveB, (s.stand k).map.paste,
        (s.stand k).map.knife] ∧ slots[i].tag ≠ 0 ∧ slots[i].tag ≠ s.nodeAddr := by
  rw [State.claimFails_iff, Stand.inService_iff]
  simp only [mem_commandSlots]

/-- R7, R142, R143: a stand struck by the claim check of a frame. -/
theorem State.checkClaims_struck (hs : GroupsAgree s) {slots : Vector Slot 48} (h : s.claimFails slots k = true) :
    ((s.checkClaims slots).stand k).claimLost = true ∧ ((s.checkClaims slots).stand k).state = .fault ∧
      ((s.stand k).state = .fault →
        ((s.checkClaims slots).stand k).record = (s.stand k).record.map FaultRecord.marked) ∧
      ((s.stand k).state ≠ .fault → ∃ f, ((s.checkClaims slots).stand k).record = some f ∧ f.kind = .claimConflict ∧
        f.cycle = s.cycle ∧ f.arm = (s.stand k).runningArm ∧ f.signal = none ∧ f.further = false ∧
        f.fireIssued = decide ((s.stand k).state = .firingIssued ∨ (s.stand k).state = .confirm ∨
          (s.stand k).state = .settle) ∧
        (f.stateAt = (s.stand k).state ∨ (s.stand k).requests = true ∧ f.stateAt = .firingPending)) := by
  obtain ⟨st, hst, hstand⟩ := State.checkClaims_of_fails hs h
  rw [hstand]
  refine ⟨(Stand.struck_claim _ _ _).1, Stand.struck_state _ _ _, fun hfault => ?_, fun hservice => ?_⟩
  · obtain rfl := hst.eq_of_not_matched (by rw [hfault]; exact nofun)
    exact Stand.struck_record_of_fault (st := { s.stand k with claimLost := true }) hfault _ _
  · obtain ⟨hissued, harm, hstate⟩ := hst.latched_fields s.cycle
    exact ⟨_, Stand.struck_record_of_service (st := { st with claimLost := true }) (hst.not_fault hservice) _ _, rfl, rfl,
      harm, rfl, rfl, hissued, hstate⟩

end

/-! ### The marker of a part that runs -/

section
variable {s : State} {f : OutFrame}

/-- R1, R3, R18: what the claim check of a marker finds of a stand is what it was before the marker. -/
theorem State.beginCycle_claims (hs : GroupsAgree s) (num : BitVec 16) :
    GroupsAgree (s.beginCycle num) ∧ (s.beginCycle num).nodeAddr = s.nodeAddr ∧
      ∀ k, (s.stand k).SameClaim ((s.beginCycle num).stand k) :=
  have ⟨hagree, hclaims⟩ := s.beginCycle_keepsClaims num hs
  ⟨hagree, by rw [(s.beginCycle_frame num).2], hclaims⟩

theorem State.beginCycle_claimFails (hs : GroupsAgree s) (num : BitVec 16) (slots : Vector Slot 48) (k : StandId) :
    (s.beginCycle num).claimFails slots k = true ↔ s.claimFails slots k = true := by
  obtain ⟨-, haddr, hclaims⟩ := State.beginCycle_claims hs num
  rw [State.claimFails_iff, State.claimFails_iff, (hclaims k).service, (hclaims k).claimLost, (hclaims k).map, haddr]

/-- R5, R7: a stand the part writes once the claims of a frame are checked was in service with its claim, which no
slot contests. -/
theorem State.written_of_checkClaims (hs : GroupsAgree s) (slots : Vector Slot 48) (k : StandId) :
    ((s.checkClaims slots).stand k).written = true ↔
      (s.stand k).inService = true ∧ (s.stand k).claimLost = false ∧ ¬ s.claimFails slots k = true := by
  obtain ⟨-, -, hservice, hclaim⟩ := State.checkClaims_claim hs slots k
  have hlost : ((s.checkClaims slots).stand k).claimLost = false ↔
      (s.stand k).claimLost = false ∧ ¬ s.claimFails slots k = true := by
    rw [← Bool.not_eq_true, hclaim, not_or, Bool.not_eq_true]
  rw [Stand.written, Bool.and_eq_true, Bool.not_eq_true', hservice, hlost]

/-- R1, R5, R8: a slot that is that of no stand in service with its claim leaves a frame as it arrived. -/
theorem State.passOutbound_slot_other (hs : GroupsAgree s) (haddr : s.hasAddress = true) {f' : OutFrame}
    (hframe : (s.passOutbound f).outFrame = some f') {i : Fin 48}
    (h : ∀ k, (s.stand k).inService = true → (s.stand k).claimLost = false → ¬ s.claimFails f.slots k = true →
      i ∉ (s.stand k).map.commandSlots) : f'.slots[i] = f.slots[i] := by
  obtain ⟨w, hw, hwritten, -⟩ := State.passOutbound_of_address haddr f
  obtain rfl : { f with slots := w.2 } = f' := Option.some.inj (hwritten.symm.trans hframe)
  show w.2[i] = f.slots[i]
  rw [hw]
  refine State.foldl_writeStand_slot_other (acc := (s.checkClaims f.slots, f.slots)) allStands_nodup fun k _ hwritten => ?_
  obtain ⟨hservice, hclaim, hnot⟩ := (State.written_of_checkClaims hs f.slots k).mp hwritten
  rw [(State.checkClaims_claim hs f.slots k).1]
  exact h k hservice hclaim hnot

theorem State.startMarker_of_reset (hreset : s.inReset = true) (f : OutFrame) : s.startMarker f = s.passOut f :=
  if_pos hreset

end

/-- Settles O7: a stand is struck as it stands after the conflicts before it (`foldl_claimConflict_stand`), which at most
granted it. -/
theorem claimConflictStrikesStand : Obligations.ClaimConflictStrikesStand := by
  refine ⟨fun s k hs hservice => ?_, fun s slots k hs => ⟨fun hstruck => ?_, fun hnot => ?_⟩,
    fun s f hreset haddr hs => ?_⟩
  · have hstand := State.claimConflict_stand hs hservice
    obtain ⟨hclaim, hmap, hcounts⟩ := Stand.struck_claim { s.stand k with claimLost := true } .claimConflict s.cycle
    have hlog := s.claimConflict_log k
    generalize s.claimConflict k = t at hstand hlog
    dsimp only
    rw [hstand]
    refine ⟨hclaim, Stand.struck_state _ _ _,
      fun h => Stand.struck_record_of_service (st := { s.stand k with claimLost := true }) h _ _,
      fun h => Stand.struck_record_of_fault (st := { s.stand k with claimLost := true }) h _ _, hmap, hcounts,
      fun hbounded => ⟨fun h => (hlog hbounded).1 (Stand.abortedEntries_of_not_fired h k),
        fun old new p q h hold hnew hp hq => (hlog hbounded).2 _ (Stand.abortedEntries_of_fired h hold hnew hp hq k)⟩⟩
  · exact State.checkClaims_struck hs ((s.claimFails_iff_struck slots k).mpr hstruck)
  · exact State.checkClaims_of_not_fails hs (mt (s.claimFails_iff_struck slots k).mp hnot)
  · obtain ⟨hagree, hnode, hclaims⟩ := State.beginCycle_claims hs f.cycle
    have hfails := State.beginCycle_claimFails hs f.cycle f.slots
    have hexec : exec (.outboundStartMarker f) s = .next ((s.beginCycle f.cycle).passOutbound f) :=
      congrArg Host.Outcome.next (State.startMarker_of_running hreset f)
    have haddr' : (s.beginCycle f.cycle).hasAddress = true := by
      unfold State.hasAddress
      rw [hnode]
      exact haddr
    generalize s.beginCycle f.cycle = u at *
    obtain ⟨w, hw, hframe, hstands⟩ := State.passOutbound_of_address haddr' f
    refine ⟨u.passOutbound f, { f with slots := w.2 }, hexec, hframe, fun k hstate hlost hforeign => ?_⟩
    have hfail : u.claimFails f.slots k = true :=
      (hfails k).mpr ((s.claimFails_iff f.slots k).mpr ⟨(Stand.inService_iff _).mpr hstate, hlost, hforeign⟩)
    obtain ⟨hclaim, hfault, -⟩ := State.checkClaims_struck hagree hfail
    have hunwritten : ((u.checkClaims f.slots).stand k).written = false := by
      rw [Stand.written, hclaim, Bool.not_true, Bool.and_false]
    have hkept : (u.passOutbound f).stand k = (u.checkClaims f.slots).stand k := by
      rw [hstands, hw]
      exact State.foldl_writeStand_stand_of_not_written (acc := (u.checkClaims f.slots, f.slots)) hunwritten
    rw [hkept]
    refine ⟨hclaim, hfault, fun i hi hothers => ?_⟩
    refine State.passOutbound_slot_other hagree haddr' hframe fun j hservice _ hnot => ?_
    have hne : j ≠ k := fun heq => hnot (heq ▸ hfail)
    rw [(hclaims j).map]
    exact hothers j hne ((hclaims j).service.symm.trans hservice)

/-- Settles O5, by where the part stands: while RESET is asserted and without an address the frame passes; else no
write reaches the slot. -/
theorem markerLeavesForeignSlots : Obligations.MarkerLeavesForeignSlots := by
  intro s f hs
  have hpass {t : State} (hexec : exec (.outboundStartMarker f) s = .next t) (hframe : t.outFrame = some f)
      (harrived : t.outArrived = some f) : ∃ t f', exec (.outboundStartMarker f) s = .next t ∧ t.outFrame = some f' ∧
        t.outArrived = some f ∧ f'.cycle = f.cycle ∧ f'.request = f.request ∧
        ∀ i : Fin 48, (∀ k, (s.stand k).inService = true → (s.stand k).claimLost = false →
          i ∉ (s.stand k).map.commandSlots) → f'.slots[i] = f.slots[i] :=
    ⟨t, f, hexec, hframe, harrived, rfl, rfl, fun _ _ => rfl⟩
  cases hreset : s.inReset
  case true => exact hpass (congrArg Host.Outcome.next (State.startMarker_of_reset hreset f)) rfl rfl
  case false =>
    have hexec : exec (.outboundStartMarker f) s = .next ((s.beginCycle f.cycle).passOutbound f) :=
      congrArg Host.Outcome.next (State.startMarker_of_running hreset f)
    obtain ⟨hagree, -, hclaims⟩ := State.beginCycle_claims hs f.cycle
    generalize s.beginCycle f.cycle = u at *
    have harrived : (u.passOutbound f).outArrived = some f := by rw [State.passOutbound_frame]
    cases haddr : u.hasAddress
    case false => exact hpass hexec (by rw [State.passOutbound, haddr]; rfl) harrived
    case true =>
      obtain ⟨w, -, hframe, -⟩ := State.passOutbound_of_address haddr f
      refine ⟨_, { f with slots := w.2 }, hexec, hframe, harrived, rfl, rfl, fun i hforeign => ?_⟩
      refine State.passOutbound_slot_other hagree haddr hframe fun k hservice hclaim _ => ?_
      rw [(hclaims k).map]
      exact hforeign k ((hclaims k).service.symm.trans hservice) ((hclaims k).claimLost.symm.trans hclaim)

end Sys2Proof.Machine
end

section
/-! SUPPORT. What a written stand's slots carry (R2, R5, R16, R17, section 1.11): O6. -/
namespace Sys2Proof.Machine

/-! ### Payload layouts (section 1.11) -/

theorem drivePayload_layout (m : DriveMode) {ref : Nat} (h : ref ≤ 65535) :
    (drivePayload m ref).extractLsb' 0 2 =
        (match m with | .idle => 0#2 | .speed => 1#2 | .tension => 2#2 | .brake => 3#2) ∧
      (drivePayload m ref).extractLsb' 2 14 = 0#14 ∧ ((drivePayload m ref).extractLsb' 16 16).toNat = ref := by
  have hmode : (match m with | .idle => 0#2 | .speed => 1#2 | .tension => 2#2 | .brake => 3#2) =
      BitVec.ofNat 2 m.code := by cases m <;> rfl
  have hcode : m.code < 4 := by cases m <;> decide
  refine ⟨BitVec.eq_of_toNat_eq ?_, BitVec.eq_of_toNat_eq ?_, ?_⟩
  · rw [hmode, drivePayload, toNat_extract_ofNat, BitVec.toNat_ofNat]
    omega
  · rw [drivePayload, toNat_extract_ofNat, BitVec.toNat_ofNat]
    omega
  · rw [drivePayload, toNat_extract_ofNat]
    omega

theorem firePayload_layout {off : Nat} (h : off ≤ 255) :
    (firePayload (some off)).extractLsb' 0 8 = 1#8 ∧ ((firePayload (some off)).extractLsb' 8 8).toNat = off ∧
      (firePayload (some off)).extractLsb' 16 16 = 0#16 := by
  refine ⟨BitVec.eq_of_toNat_eq ?_, ?_, BitVec.eq_of_toNat_eq ?_⟩
  · rw [firePayload, toNat_extract_ofNat, BitVec.toNat_ofNat]
    omega
  · rw [firePayload, toNat_extract_ofNat]
    omega
  · rw [firePayload, toNat_extract_ofNat, BitVec.toNat_ofNat]
    omega

/-! ### The four slots of a stand -/

section
variable {st : Stand} {addr : BitVec 5} {fire knife : Option Nat} {slots slots' : Vector Slot 48}

theorem writeSlot_same (slots : Vector Slot 48) (i : Fin 48) (addr : BitVec 5) (n : BitVec 3) (payload : BitVec 32) :
    (writeSlot slots (some i) addr n payload)[i] = ⟨n, addr, payload⟩ := by
  simp [writeSlot, ownSlot]

/-- R2, R5: what a stand's writes put into its four slots. -/
theorem Stand.writeSlots_at {a b p n : Fin 48} (ha : st.map.driveA = some a) (hb : st.map.driveB = some b)
    (hp : st.map.paste = some p) (hn : st.map.knife = some n) (hnodup : [a, b, p, n].Nodup) :
    (st.writeSlots addr fire knife slots)[a] =
        ⟨st.counts.driveA, addr, drivePayload (st.driveMode .a) (st.speedRef .a)⟩ ∧
      (st.writeSlots addr fire knife slots)[b] =
        ⟨st.counts.driveB, addr, drivePayload (st.driveMode .b) (st.speedRef .b)⟩ ∧
      (st.writeSlots addr fire knife slots)[p] = ⟨st.counts.paste, addr, firePayload fire⟩ ∧
      (st.writeSlots addr fire knife slots)[n] = ⟨st.counts.knife, addr, firePayload knife⟩ := by
  obtain ⟨⟨hab, hap, han⟩, ⟨hbp, hbn⟩, hpn⟩ : (a ≠ b ∧ a ≠ p ∧ a ≠ n) ∧ (b ≠ p ∧ b ≠ n) ∧ p ≠ n := by
    simpa using hnodup
  have hsome {i j : Fin 48} (h : i ≠ j) : some j ≠ some i := fun heq => h (Option.some.inj heq).symm
  unfold Stand.writeSlots
  dsimp only
  rw [ha, hb, hp, hn]
  refine ⟨?_, ?_, ?_, writeSlot_same _ n _ _ _⟩
  · rw [writeSlot_other (hsome han), writeSlot_other (hsome hap), writeSlot_other (hsome hab), writeSlot_same]
  · rw [writeSlot_other (hsome hbn), writeSlot_other (hsome hbp), writeSlot_same]
  · rw [writeSlot_other (hsome hpn), writeSlot_same]

theorem writeSlot_congr {i : Fin 48} (h : slots[i] = slots'[i]) (e : Option (Fin 48)) (n : BitVec 3)
    (payload : BitVec 32) : (writeSlot slots e addr n payload)[i] = (writeSlot slots' e addr n payload)[i] := by
  by_cases he : e = some i
  · subst he
    rw [writeSlot_same, writeSlot_same]
  · rw [writeSlot_other he, writeSlot_other he, h]

theorem Stand.writeSlots_congr {i : Fin 48} (h : slots[i] = slots'[i]) :
    (st.writeSlots addr fire knife slots)[i] = (st.writeSlots addr fire knife slots')[i] :=
  writeSlot_congr (writeSlot_congr (writeSlot_congr (writeSlot_congr h _ _ _) _ _ _) _ _ _) _ _ _

end

/-! ### Fire and knife of a frame -/

section
variable {s t : State} {k : StandId} {m : Word}

theorem State.fireStep_groups (s : State) (k : StandId) (m : Word) : (s.fireStep k m).1.groups = s.groups := by
  unfold State.fireStep
  dsimp only
  split
  · split <;> rfl
  · rfl

theorem State.knifeStep_groups (s : State) (k : StandId) (m : Word) : (s.knifeStep k m).1.groups = s.groups := by
  unfold State.knifeStep
  dsimp only
  split
  · split <;> rfl
  · rfl

theorem State.fireStep_of_none (h : (s.stand k).sched.prepared = none) : s.fireStep k m = (s, none) := by
  unfold State.fireStep
  dsimp only
  rw [h]

/-- R16: the offset of the fire that a frame carries. -/
theorem State.fireStep_payload (s : State) (k : StandId) (m : Word) :
    firePayload (s.fireStep k m).2 =
      match (s.stand k).sched.prepared with
      | some q => if (s.stand k).state = .firingPending ∧ q.cycle = m then firePayload (some q.offset) else 0
      | none => 0 := by
  cases hp : (s.stand k).sched.prepared with
  | none => rw [State.fireStep_of_none hp]; rfl
  | some q =>
    dsimp only
    split
    case isTrue hdue => rw [State.fireStep_of_due hp hdue.1 hdue.2]
    case isFalse hnot => rw [State.fireStep_of_dropped hp (not_and_or.mp hnot)]; rfl

/-- R16: a fire that is not written leaves the state and the plan of its stand. -/
theorem State.fireStep_of_not_due (h : ∀ q, (s.stand k).sched.prepared = some q →
      (s.stand k).state ≠ .firingPending ∨ q.cycle ≠ m) :
    ((s.fireStep k m).1.stand k).state = (s.stand k).state ∧
      ((s.fireStep k m).1.stand k).sched.plan = (s.stand k).sched.plan ∧
      ((s.fireStep k m).1.stand k).params = (s.stand k).params := by
  cases hp : (s.stand k).sched.prepared with
  | none => rw [State.fireStep_of_none hp]; exact ⟨rfl, rfl, rfl⟩
  | some q =>
    rw [State.fireStep_of_dropped hp (h q hp)]
    dsimp only
    rw [State.stand_setStand_same]
    exact ⟨rfl, rfl, rfl⟩

theorem State.knifeStep_of_not_issued (h : (s.stand k).state ≠ .firingIssued) : s.knifeStep k m = (s, none) := by
  unfold State.knifeStep
  dsimp only
  split
  · exact if_neg fun hdue => h hdue.1
  · rfl

/-- R17: the knife that a frame carries after the fire was issued in an earlier one. -/
theorem State.knifeStep_payload {q : FirePlan} (hstate : (s.stand k).state = .firingIssued)
    (hq : (s.stand k).sched.plan = some q) (hplanned : q.knifeState = .planned) :
    firePayload (s.knifeStep k m).2 =
      if q.knife.cycle = m + 1 then firePayload (some q.knife.offset)
      else if cycleAfter q.knife.cycle (m + 1) then 0
      else firePayload (some 0) := by
  by_cases hafter : cycleAfter q.knife.cycle (m + 1) = true
  · have hne : q.knife.cycle ≠ m + 1 := fun heq => by rw [heq] at hafter; simp [cycleAfter] at hafter
    rw [State.knifeStep_of_not_due hq hplanned hafter, if_neg hne, if_pos hafter]
    rfl
  · rw [State.knifeStep_of_due hstate hq hplanned (by simpa using hafter)]
    dsimp only
    by_cases heq : q.knife.cycle = m + 1
    · rw [if_pos heq, (FirePlan.issueKnife_of_on_time _ heq).1]
    · rw [if_neg heq, if_neg hafter, (FirePlan.issueKnife_of_late _ heq).1]

/-- R17, R120: the knife of a fire lies at least four cycles after it, so not in the frame of the fire. -/
theorem firePlanAt_knife_after {q : Params} {speed dRun o : Nat} (hmin : 1000 ≤ q.minGap) (hgap : q.minGap ≤ q.maxGap)
    (hmax : q.maxGap ≤ 1000000) (ho : o ≤ 249) :
    cycleAfter (firePlanAt q speed dRun ⟨m + 1, o⟩).knife.cycle (m + 1) = true := by
  obtain ⟨hle, hge⟩ := knifeDelay_within speed hgap
  have hcycle : (firePlanAt q speed dRun ⟨m + 1, o⟩).knife.cycle =
      m + 1 + BitVec.ofNat 32 ((o + (knifeDelay q speed).1) / 250) := rfl
  have hlo : 4 ≤ (o + (knifeDelay q speed).1) / 250 := by omega
  have hhi : (o + (knifeDelay q speed).1) / 250 ≤ 4001 := by omega
  rw [hcycle]
  generalize (o + (knifeDelay q speed).1) / 250 = x at hlo hhi
  have hx : (BitVec.ofNat 32 x).toNat = x := by rw [BitVec.toNat_ofNat]; omega
  have hne : BitVec.ofNat 32 x ≠ 0#32 := fun hzero => by rw [hzero, BitVec.toNat_ofNat] at hx; omega
  have hlt : x < 2147483648 := by omega
  simp [cycleAfter, hne, hx, hlt]

/-- R17: no knife goes with the frame that issues a fire. -/
theorem State.knifeStep_of_pending (hstate : (s.stand k).state = .firingPending)
    (hoffset : ∀ q, (s.stand k).sched.prepared = some q → q.offset ≤ 249) (hmin : 1000 ≤ (s.stand k).params.minGap)
    (hgap : (s.stand k).params.minGap ≤ (s.stand k).params.maxGap) (hmax : (s.stand k).params.maxGap ≤ 1000000) :
    ((s.fireStep k m).1.knifeStep k m).2 = none := by
  by_cases hdue : ∃ q, (s.stand k).sched.prepared = some q ∧ q.cycle = m
  · obtain ⟨q, hq, hcycle⟩ := hdue
    rw [State.fireStep_of_due hq hstate hcycle]
    dsimp only
    rw [State.knifeStep_of_not_due (p := firePlanAt (s.stand k).params s.lineSpeed (s.stand k).dRun ⟨m + 1, q.offset⟩)
      (by rw [State.stand_setStand_same]; rfl) rfl (firePlanAt_knife_after hmin hgap hmax (hoffset q hq))]
  · obtain ⟨hsame, -⟩ := State.fireStep_of_not_due (s := s) (k := k) (m := m) fun q hq => .inr fun hcycle => hdue ⟨q, hq, hcycle⟩
    rw [State.knifeStep_of_not_issued (by rw [hsame, hstate]; exact nofun)]

/-- R17: what the KNIFE slot of a written stand carries. -/
theorem State.knifeStep_after_fire (s : State) (k : StandId) (m : Word) :
    ((s.stand k).state ≠ .firingPending → (s.stand k).state ≠ .firingIssued →
      firePayload ((s.fireStep k m).1.knifeStep k m).2 = 0) ∧
    ((s.stand k).state = .firingIssued → ∀ q, (s.stand k).sched.plan = some q → q.knifeState = .planned →
      firePayload ((s.fireStep k m).1.knifeStep k m).2 =
        if q.knife.cycle = m + 1 then firePayload (some q.knife.offset)
        else if cycleAfter q.knife.cycle (m + 1) then 0
        else firePayload (some 0)) := by
  refine ⟨fun hpending hissued => ?_, fun hissued q hq hplanned => ?_⟩
  · obtain ⟨hsame, -⟩ := State.fireStep_of_not_due (s := s) (k := k) (m := m) fun q _ => .inl hpending
    rw [State.knifeStep_of_not_issued (by rw [hsame]; exact hissued)]
    rfl
  · obtain ⟨hsame, hplan, -⟩ := State.fireStep_of_not_due (s := s) (k := k) (m := m)
      fun q _ => .inl (by rw [hissued]; exact nofun)
    exact State.knifeStep_payload (hsame.trans hissued) (hplan.trans hq) hplanned

end

/-! ### The writes of one stand, and of one stand among all -/

section
variable {s t : State} {k : StandId} {m : Word}

theorem State.advanced_frame (s : State) (k : StandId) (m : Word) :
    (s.advanced k m).nodeAddr = s.nodeAddr ∧ (s.advanced k m).lineSpeed = s.lineSpeed ∧
      (s.advanced k m).groups = s.groups ∧ ∀ j, j ≠ k → (s.advanced k m).stand j = s.stand j := by
  have hacts : s.ActsAt .linkLoss False k (s.advanced k m) :=
    ((s.fireStep_actsAt k m).trans (State.knifeStep_actsAt _ k m)).trans
      (.setStand_core ⟨rfl, rfl, rfl, rfl, rfl, rfl, rfl, rfl, rfl, rfl, rfl, rfl, rfl⟩)
  exact ⟨(congrArg State.nodeAddr hacts.frame :), hacts.lineSpeed,
    (State.knifeStep_groups _ k m).trans (State.fireStep_groups s k m), hacts.others⟩

theorem State.Alike.fireStep (h : s.Alike k t) (m : Word) :
    (s.fireStep k m).1.Alike k (t.fireStep k m).1 ∧ (t.fireStep k m).2 = (s.fireStep k m).2 := by
  unfold State.fireStep
  dsimp only
  rw [h.stand, h.lineSpeed]
  split
  · split
    · exact ⟨h.setStand _, rfl⟩
    · exact ⟨h.setStand _, rfl⟩
  · exact ⟨h, rfl⟩

theorem State.Alike.knifeStep (h : s.Alike k t) (m : Word) :
    (s.knifeStep k m).1.Alike k (t.knifeStep k m).1 ∧ (t.knifeStep k m).2 = (s.knifeStep k m).2 := by
  unfold State.knifeStep
  dsimp only
  rw [h.stand]
  split
  · split
    · exact ⟨h.setStand _, rfl⟩
    · exact ⟨h, rfl⟩
  · exact ⟨h, rfl⟩

/-- The writes of a stand are the same in parts with the same address that it cannot tell apart. -/
theorem State.writeStand_congr {acc acc' : State × Vector Slot 48} (h : acc.1.Alike k acc'.1)
    (haddr : acc'.1.nodeAddr = acc.1.nodeAddr) :
    (State.writeStand m acc' k).1.stand k = (State.writeStand m acc k).1.stand k ∧
      ∀ i : Fin 48, acc'.2[i] = acc.2[i] → (State.writeStand m acc' k).2[i] = (State.writeStand m acc k).2[i] := by
  cases hk : (acc.1.stand k).written
  case false =>
    rw [State.writeStand_of_not_written hk, State.writeStand_of_not_written (by rw [h.stand]; exact hk)]
    exact ⟨h.stand, fun _ hi => hi⟩
  case true =>
    obtain ⟨hfire, hoffset⟩ := h.fireStep m
    obtain ⟨hknife, hoffset'⟩ := hfire.knifeStep m
    have hstand : (acc'.1.advanced k m).stand k = (acc.1.advanced k m).stand k := (hknife.modStand _).stand
    rw [State.writeStand_of_written hk, State.writeStand_of_written (by rw [h.stand]; exact hk)]
    refine ⟨hstand, fun i hi => ?_⟩
    dsimp only
    rw [hstand, hoffset, hoffset', (State.advanced_frame _ k m).1, (State.advanced_frame _ k m).1, haddr]
    exact Stand.writeSlots_congr hi

/-- R5: among the writes of a frame, those of a stand whose slots are no other's are as if alone. -/
theorem State.foldl_writeStand_at {acc : State × Vector Slot 48} {k : StandId}
    (h : ∀ j i, j ≠ k → (acc.1.stand j).written = true → i ∈ (acc.1.stand j).map.commandSlots →
      i ∉ (acc.1.stand k).map.commandSlots) :
    (allStands.foldl (State.writeStand m) acc).1.stand k = (State.writeStand m acc k).1.stand k ∧
      ∀ i ∈ (acc.1.stand k).map.commandSlots,
        (allStands.foldl (State.writeStand m) acc).2[i] = (State.writeStand m acc k).2[i] := by
  have others : ∀ (t : State × Vector Slot 48) (j i : StandId), i ≠ j →
      (State.writeStand m t j).1.stand i = t.1.stand i := fun t j i hne => State.writeStand_other t hne
  obtain ⟨pre, post, hsplit⟩ := List.append_of_mem (mem_allStands k)
  have hnodup := allStands_nodup
  rw [hsplit] at hnodup ⊢
  obtain ⟨hprenodup, hrest, hdisjoint⟩ := List.nodup_append.mp hnodup
  obtain ⟨hpost, hpostnodup⟩ := List.nodup_cons.mp hrest
  have hpre : k ∉ pre := fun hmem => hdisjoint k hmem k List.mem_cons_self rfl
  have hframe := State.foldl_writeStand_frame m pre acc
  have hbefore (j : StandId) (hj : j ∉ pre) : (pre.foldl (State.writeStand m) acc).1.stand j = acc.1.stand j :=
    foldl_view_of_not_mem (view := fun t : State × Vector Slot 48 => t.1.stand) others hj acc
  have halike : acc.1.Alike k (pre.foldl (State.writeStand m) acc).1 :=
    ⟨hbefore k hpre, by rw [hframe], by rw [hframe], by rw [hframe], by rw [hframe]⟩
  obtain ⟨hstand, hslots⟩ := State.writeStand_congr (m := m) halike (by rw [hframe])
  have hfirst {i : Fin 48} (hi : i ∈ (acc.1.stand k).map.commandSlots) :
      (pre.foldl (State.writeStand m) acc).2[i] = acc.2[i] :=
    State.foldl_writeStand_slot_other hprenodup fun j hj hwritten hmem =>
      h j i (ne_of_mem_of_not_mem hj hpre) hwritten hmem hi
  rw [List.foldl_append, List.foldl_cons]
  generalize pre.foldl (State.writeStand m) acc = mid at *
  refine ⟨(foldl_view_of_not_mem (view := fun t : State × Vector Slot 48 => t.1.stand) others hpost _).trans hstand,
    fun i hi => ?_⟩
  rw [← hslots i (hfirst hi)]
  refine State.foldl_writeStand_slot_other hpostnodup fun j hj hwritten hmem => ?_
  have hne : j ≠ k := ne_of_mem_of_not_mem hj hpost
  have hnot : j ∉ pre := fun hmem => hdisjoint j hmem j (List.mem_cons_of_mem k hj) rfl
  rw [State.writeStand_other mid hne, hbefore j hnot] at hwritten hmem
  exact h j i hne hwritten hmem hi

end

/-! ### The frame of a part with an address -/

section
variable {s : State} {f : OutFrame} {k : StandId} {m : Word}

/-- R2, R5: the four slots of a stand the part writes, by the fire and the knife of the frame. -/
theorem State.writeStand_of_mapped {acc : State × Vector Slot 48} {a b p n : Fin 48}
    (hwritten : (acc.1.stand k).written = true) (ha : (acc.1.stand k).map.driveA = some a)
    (hb : (acc.1.stand k).map.driveB = some b) (hp : (acc.1.stand k).map.paste = some p)
    (hn : (acc.1.stand k).map.knife = some n) (hnodup : [a, b, p, n].Nodup) :
    let t := (State.writeStand m acc k).1
    let w := (State.writeStand m acc k).2
    (t.stand k).counts = (acc.1.stand k).counts.advance ∧
      w[a] = ⟨(acc.1.stand k).counts.driveA + 1, acc.1.nodeAddr,
        drivePayload ((t.stand k).driveMode .a) ((t.stand k).speedRef .a)⟩ ∧
      w[b] = ⟨(acc.1.stand k).counts.driveB + 1, acc.1.nodeAddr,
        drivePayload ((t.stand k).driveMode .b) ((t.stand k).speedRef .b)⟩ ∧
      w[p] = ⟨(acc.1.stand k).counts.paste + 1, acc.1.nodeAddr, firePayload (acc.1.fireStep k m).2⟩ ∧
      w[n] = ⟨(acc.1.stand k).counts.knife + 1, acc.1.nodeAddr,
        firePayload ((acc.1.fireStep k m).1.knifeStep k m).2⟩ ∧
      (∀ i : Fin 48, i ∉ [a, b, p, n] → w[i] = acc.2[i]) ∧ (∀ j, j ≠ k → t.stand j = acc.1.stand j) ∧
      t.groups = acc.1.groups := by
  rw [State.writeStand_of_written hwritten]
  dsimp only
  obtain ⟨haddr, -, hgroups, hothers⟩ := acc.1.advanced_frame k m
  have hmap := acc.1.advanced_map k m
  have hcounts : ((acc.1.advanced k m).stand k).counts = (acc.1.stand k).counts.advance := by
    rw [State.advanced_stand]
  rw [← hmap] at ha hb hp hn
  obtain ⟨hwa, hwb, hwp, hwn⟩ := Stand.writeSlots_at (addr := (acc.1.advanced k m).nodeAddr)
    (fire := (acc.1.fireStep k m).2) (knife := ((acc.1.fireStep k m).1.knifeStep k m).2) (slots := acc.2) ha hb hp hn hnodup
  rw [hcounts, haddr] at hwa hwb hwp hwn
  rw [haddr]
  refine ⟨hcounts, hwa, hwb, hwp, hwn, fun i hi => Stand.writeSlots_other ?_ _ _ _ _, hothers, hgroups⟩
  rw [mem_commandSlots, ha, hb, hp, hn]
  simpa using hi

/-- R5: in the frame of a part with an address, a stand whose slots are no other's is written as if alone. -/
theorem State.passOutbound_at (hs : GroupsAgree s) (haddr : s.hasAddress = true)
    (hown : ∀ j i, j ≠ k → (s.stand j).inService = true → i ∈ (s.stand j).map.commandSlots →
      i ∉ (s.stand k).map.commandSlots) :
    ∃ f', (s.passOutbound f).outFrame = some f' ∧
      (s.passOutbound f).stand k = (State.writeStand s.cycle (s.checkClaims f.slots, f.slots) k).1.stand k ∧
      ∀ i ∈ (s.stand k).map.commandSlots,
        f'.slots[i] = (State.writeStand s.cycle (s.checkClaims f.slots, f.slots) k).2[i] := by
  obtain ⟨w, hw, hframe, hstands⟩ := State.passOutbound_of_address haddr f
  have hmap (j : StandId) := (State.checkClaims_claim hs f.slots j).1
  obtain ⟨hstand, hslots⟩ := State.foldl_writeStand_at (m := s.cycle) (acc := (s.checkClaims f.slots, f.slots)) (k := k)
    fun j i hne hwritten hmem => by
      rw [hmap] at hmem ⊢
      exact hown j i hne ((State.written_of_checkClaims hs f.slots j).mp hwritten).1 hmem
  rw [← hw] at hstand hslots
  rw [hmap] at hslots
  exact ⟨{ f with slots := w.2 }, hframe, (hstands k).trans hstand, hslots⟩

end

theorem hasAddress_of_bounds {addr : BitVec 5} (hlo : 1 ≤ addr.toNat) (hhi : addr.toNat ≤ 30) :
    (addr != 0 && addr != 31) = true := by
  rw [Bool.and_eq_true, bne_iff_ne, bne_iff_ne]
  refine ⟨fun h => ?_, fun h => ?_⟩
  · rw [h] at hlo
    exact absurd hlo (by decide)
  · rw [h] at hhi
    exact absurd hhi (by decide)

/-- Settles O6: a written stand's slots hold what its own writes make of them (`writeSlots_at`), and those of no other
reach them (`foldl_writeStand_at`). -/
theorem standSlotsAreWritten : Obligations.StandSlotsAreWritten := by
  refine ⟨fun m ref h => drivePayload_layout m h, fun off h => firePayload_layout h, rfl,
    fun m s slots k a b p n hwritten ha hb hp hn hnodup => ?_, fun s f k hs haddr hown => ?_,
    fun s f k a b p n hs hreset hlo hhi hstate hclaim ha hb hp hn hnodup htags hown => ?_⟩
  · obtain ⟨-, hwa, hwb, hwp, hwn, hothers, hstands, hgroups⟩ := State.writeStand_of_mapped (m := m) (acc := (s, slots))
      hwritten ha hb hp hn hnodup
    obtain ⟨hidle, hissued⟩ := s.knifeStep_after_fire k m
    refine ⟨hwa, hwb, ?_, congrArg Slot.count hwn, congrArg Slot.tag hwn,
      fun hpending hissued => (congrArg Slot.payload hwn).trans (hidle hpending hissued),
      fun hpending hoffset hmin hgap hmax => (congrArg Slot.payload hwn).trans ?_,
      fun h q hq hplanned => (congrArg Slot.payload hwn).trans (hissued h q hq hplanned), hothers, hstands, hgroups⟩
    · rw [hwp, State.fireStep_payload] <;> rfl
    · rw [State.knifeStep_of_pending hpending hoffset hmin hgap hmax]
      rfl
  · exact State.passOutbound_at hs haddr hown
  · obtain ⟨hagree, hnode, hclaims⟩ := State.beginCycle_claims hs f.cycle
    have hexec : exec (.outboundStartMarker f) s = .next ((s.beginCycle f.cycle).passOutbound f) :=
      congrArg Host.Outcome.next (State.startMarker_of_running hreset f)
    generalize s.beginCycle f.cycle = u at *
    have haddr : u.hasAddress = true := by
      unfold State.hasAddress
      rw [hnode]
      exact hasAddress_of_bounds hlo hhi
    have hcommands : (s.stand k).map.commandSlots = [a, b, p, n] := by
      simp [SlotMap.commandSlots, SlotMap.outboundEntries, ha, hb, hp, hn]
    have hfails : ¬ u.claimFails f.slots k = true := fun hfails => by
      obtain ⟨-, -, i, hi, hzero, hother⟩ := (u.claimFails_iff f.slots k).mp hfails
      rw [(hclaims k).map, hcommands] at hi
      rw [hnode] at hother
      exact (htags i hi).elim hzero hother
    have hnode' : (u.checkClaims f.slots).nodeAddr = s.nodeAddr := by
      have hwork := u.checkClaims_onlyWork f.slots
      unfold State.OnlyWork at hwork
      exact (congrArg State.nodeAddr hwork :).trans hnode
    obtain ⟨hmap, hcounts, -, -⟩ := State.checkClaims_claim hagree f.slots k
    have hwritten : ((u.checkClaims f.slots).stand k).written = true :=
      (State.written_of_checkClaims hagree f.slots k).mpr ⟨(hclaims k).service.trans ((Stand.inService_iff _).mpr hstate),
        (hclaims k).claimLost.trans hclaim, hfails⟩
    obtain ⟨f', hframe, hstand, hslots⟩ := State.passOutbound_at (f := f) (k := k) hagree haddr fun j i hne hservice hi => by
      rw [(hclaims k).map, hcommands]
      rw [(hclaims j).map] at hi
      exact hown j i hne ((hclaims j).service.symm.trans hservice) hi
    have hmapped := hmap.trans (hclaims k).map
    obtain ⟨hadvanced, hwa, hwb, hwp, hwn, -⟩ := State.writeStand_of_mapped (m := u.cycle)
      (acc := (u.checkClaims f.slots, f.slots)) hwritten (by rw [hmapped]; exact ha) (by rw [hmapped]; exact hb)
      (by rw [hmapped]; exact hp) (by rw [hmapped]; exact hn) hnodup
    dsimp only at hadvanced hwa hwb hwp hwn
    rw [hcounts, (hclaims k).counts, ← hstand] at hadvanced
    rw [hcounts, (hclaims k).counts, hnode'] at hwa hwb hwp hwn
    rw [← hstand] at hwa hwb
    rw [(hclaims k).map, hcommands] at hslots
    refine ⟨hexec, f', hframe, fun st c hst hc => ?_⟩
    subst hst hc
    have hatp := (hslots p (by simp)).trans hwp
    have hatn := (hslots n (by simp)).trans hwn
    exact ⟨hadvanced, (hslots a (by simp)).trans hwa, (hslots b (by simp)).trans hwb, congrArg Slot.count hatp,
      congrArg Slot.tag hatp, congrArg Slot.count hatn, congrArg Slot.tag hatn⟩

end Sys2Proof.Machine
end

section
/-!
SUPPORT. Between a break and the next refresh no running-diameter window opens (R4, R37, R43): a step of a passed-over
cycle, the claims and the writes of a frame keep a window shut and the signals of the stand as captured.
-/
namespace Sys2Proof.Machine

/-- A stand without a running-diameter window goes on without one. -/
def Stand.KeepsShut (st st' : Stand) : Prop := st.window = none → st'.window = none

section
variable {st st' st'' : Stand}

theorem Stand.KeepsShut.refl (st : Stand) : st.KeepsShut st := id

theorem Stand.KeepsShut.trans (h : st.KeepsShut st') (h' : st'.KeepsShut st'') : st.KeepsShut st'' := h' ∘ h

theorem Stand.KeepsShut.of_eq (h : st'.window = st.window) : st.KeepsShut st' := h.trans

end

/-! ### What a stand's own operations leave of its window -/

section
variable (st : Stand)

theorem Stand.staleWindow_shut (h : StandHand) (lh : LineHand) : st.KeepsShut (st.staleWindow h lh) := by
  unfold Stand.staleWindow
  split
  · exact fun _ => rfl
  · exact .refl st

theorem Stand.returnToHead_window : st.returnToHead.window = st.window :=
  (congrArg Stand.window st.returnToHead_frame :)

theorem Stand.enterFault_window (kind : FaultKind) (c : Word) (sig : Option StaleSignal) :
    (st.enterFault kind c sig).window = st.window := by
  unfold Stand.enterFault
  dsimp only
  split
  · exact st.returnToHead_window
  · rfl

theorem Stand.markFurther_window : st.markFurther.window = st.window := by
  unfold Stand.markFurther
  split <;> rfl

/-- R37, R43: in a passed-over cycle no window opens. -/
theorem Stand.windowStep_shut (lineLive : Bool) (inc : Nat) (grades : Vector Grade 16) :
    st.KeepsShut (st.windowStep lineLive true inc grades) := by
  intro hnone
  unfold Stand.windowStep
  dsimp only
  rw [hnone]
  split
  · split
    case h_1 h _ => cases h
    case h_2 => exact hnone
    case h_3 => exact hnone
  · exact hnone

theorem Stand.gaugeStep_window (h : StandHand) : (st.gaugeStep h).1.window = st.window := by
  unfold Stand.gaugeStep
  split
  case h_1 =>
    split
    case isTrue => rfl
    case isFalse =>
      split
      case h_1 =>
        unfold Stand.countReading
        split <;> rfl
      case h_2 => rfl
  case h_2 => rfl

theorem Stand.measureStep_shut (h : StandHand) (lineLive : Bool) (inc speed : Nat) (grades : Vector Grade 16) :
    st.KeepsShut (st.measureStep h lineLive true inc speed grades).1 := fun hnone =>
  (Stand.gaugeStep_window _ h).trans (Stand.windowStep_shut (st.measureRates.advanceAnchor inc) lineLive inc grades hnone)

theorem Stand.unmount_window : st.unmount.window = st.window := by
  have hreturned := Stand.returnToHead_window { st with mountPending := false }
  unfold Stand.unmount
  dsimp only
  split
  · exact hreturned
  · exact hreturned
  · exact hreturned
  · rfl

theorem Stand.reelChanges_window (h : StandHand) : (st.reelChanges h).window = st.window := by
  unfold Stand.reelChanges
  dsimp only
  split
  · exact st.unmount_window
  · split <;> rfl

theorem Stand.brakingStep_window : st.brakingStep.window = st.window := by
  unfold Stand.brakingStep
  split <;> rfl

theorem Stand.tryBind_window (waits : Bool) : (st.tryBind waits).window = st.window := by
  rcases st.tryBind_cases waits with ⟨-, h⟩ | ⟨q, rest, -, -, -, -, h⟩ <;> rw [h]

theorem Stand.settleWork_window : st.settleWork.window = st.window := by
  unfold Stand.settleWork
  split
  · exact Stand.tryBind_window _ false
  · rfl

theorem Stand.trackTape_window (h : ArmHand) (first : Nat) : (st.trackTape h first).window = st.window := by
  unfold Stand.trackTape
  dsimp only
  split <;> rfl

theorem Stand.schedulerRest_window (h : StandHand) (lineStale : Bool) (c : Word) :
    (st.schedulerRest h lineStale c).1.window = st.window := by
  unfold Stand.schedulerRest
  split
  case h_1 =>
    unfold Stand.accelWork
    dsimp only
    split
    · rfl
    · split <;> rfl
  case h_2 => split <;> rfl
  case h_3 =>
    unfold Stand.pendingWork
    split
    · rfl
    · split <;> rfl
  case h_4 =>
    unfold Stand.confirmWork
    split
    · split
      · rfl
      · split <;> rfl
    · rfl
  case h_5 => rfl

theorem Stand.schedulerStep_window (h : StandHand) (lineStale : Bool) (speed : Nat) (c : Word) (first : Nat) :
    (st.schedulerStep h lineStale speed c first).1.window = st.window := by
  have htrack : (if st.state.watched then st.trackTape (h.arm st.readyArm) first else st).window = st.window := by
    split
    · exact st.trackTape_window _ _
    · rfl
  unfold Stand.schedulerStep
  dsimp only
  generalize (if st.state.watched then st.trackTape (h.arm st.readyArm) first else st) = st1 at htrack ⊢
  split
  · split <;> exact htrack
  · exact (Stand.schedulerRest_window (st1.formTarget speed) h lineStale c).trans htrack

end

/-! ### What the steps of a stand leave of its window -/

section
variable (s : State) (k : StandId)

theorem State.takeFault_window (kind : FaultKind) (sig : Option StaleSignal) :
    ((s.takeFault k kind sig).stand k).window = (s.stand k).window := by
  by_cases hoffline : (s.stand k).state = .offline
  · rw [s.takeFault_of_offline k kind sig hoffline]
  by_cases hfault : (s.stand k).state = .fault
  · rw [s.takeFault_of_fault k kind sig hfault, State.stand_modStand, if_pos rfl]
    exact Stand.markFurther_window _
  rw [State.takeFault_stand_self kind sig hoffline hfault]
  exact Stand.enterFault_window _ kind _ sig

theorem State.refreshRequest_window : ((s.refreshRequest k).stand k).window = (s.stand k).window := by
  unfold State.refreshRequest
  dsimp only
  split
  · split
    · rw [State.setGroup_stand, State.stand_setStand_same]
    · rfl
  · rfl

theorem State.applyVerdict_shut (v : Verdict) : (s.stand k).KeepsShut ((s.applyVerdict k v).stand k) := by
  cases v with
  | stay => exact .of_eq (s.refreshRequest_window k)
  | fault kind further =>
    have hfirst := s.takeFault_window k kind none
    unfold State.applyVerdict
    dsimp only
    split
    · exact .of_eq ((State.takeFault_window _ k _ none).trans hfirst)
    · exact .of_eq hfirst
  | enterMatched =>
    refine .of_eq ((State.refreshRequest_window _ k).trans ?_)
    rw [State.stand_modStand, if_pos rfl]
  | leaveBand =>
    unfold State.applyVerdict State.leaveBand
    rw [State.stand_modStand, if_pos rfl, State.leaveGroup_stand]
    exact .of_eq rfl
  | confirmed =>
    unfold State.applyVerdict State.enterSettle
    rw [State.stand_modStand, if_pos rfl]
    exact fun _ => rfl

theorem State.transitions_shut (h : StandHand) (lineStale : Bool) (dg : Option Nat) (unmounted : Bool) :
    (s.stand k).KeepsShut ((s.transitions k h lineStale dg unmounted).stand k) := by
  unfold State.transitions
  dsimp only
  split
  case h_1 => exact .refl _
  case h_2 =>
    split
    · exact .refl _
    · rw [State.stand_setStand_same]
      exact .of_eq (Stand.tryBind_window _ false)
  case h_3 =>
    split
    · unfold State.gaugeDone
      split
      · rw [State.stand_modStand, if_pos rfl]
        exact .of_eq rfl
      · exact .of_eq (s.takeFault_window k _ none)
    · exact .refl _
  case h_4 =>
    split
    · rw [State.stand_setStand_same]
      exact .of_eq rfl
    · exact .refl _
  case h_5 =>
    rw [State.stand_setStand_same]
    exact .of_eq (Stand.settleWork_window _)
  case h_6 => exact .refl _
  case h_7 =>
    refine Stand.KeepsShut.trans ?_ (State.applyVerdict_shut _ k _)
    rw [State.stand_setStand_same]
    exact .of_eq (Stand.schedulerStep_window _ h lineStale _ _ _)

theorem State.controllerStep_shut (h : StandHand) (lineStale : Bool) (dg : Option Nat) :
    (s.stand k).KeepsShut ((s.controllerStep k h lineStale dg).stand k) := by
  have hworked : (s.stand k).KeepsShut ((s.stand k).reelChanges h).brakingStep :=
    .of_eq ((Stand.brakingStep_window _).trans (Stand.reelChanges_window _ h))
  refine hworked.trans ?_
  have hsteps := State.transitions_shut (s.setStand k ((s.stand k).reelChanges h).brakingStep) k h lineStale dg
    ((s.stand k).state != ((s.stand k).reelChanges h).state)
  rw [State.stand_setStand_same] at hsteps
  exact hsteps

theorem State.watchStand_window (lineStale : Bool) :
    ((s.watchStand k lineStale).stand k).window = (s.stand k).window := by
  have hwatch : ((s.setStand k ((s.stand k).watchStep lineStale)).stand k).window = (s.stand k).window := by
    rw [State.stand_setStand_same]
    rfl
  unfold State.watchStand
  dsimp only
  split
  · exact (State.takeFault_window _ k _ _).trans hwatch
  · exact hwatch

theorem State.standStep_shut (samples : Option (Vector Slot 96)) (lh : LineHand) :
    (s.stand k).KeepsShut ((State.standStep samples true lh s k).stand k) := by
  cases hk : (s.stand k).inService
  case false =>
    rw [State.standStep_of_not_inService hk]
    exact .refl _
  case true =>
    have hcaptured : (s.stand k).KeepsShut ((State.capturedAt samples true lh s k).stand k) := by
      have hshut : (s.stand k).KeepsShut (((s.stand k).captureStep samples true).1.staleWindow
          ((s.stand k).captureStep samples true).2 lh) :=
        Stand.KeepsShut.trans (.of_eq rfl) (Stand.staleWindow_shut ((s.stand k).captureStep samples true).1
          ((s.stand k).captureStep samples true).2 lh)
      have hwatched := State.watchStand_window (s.setStand k (((s.stand k).captureStep samples true).1.staleWindow
        ((s.stand k).captureStep samples true).2 lh)) k lh.stale
      rw [State.stand_setStand_same] at hwatched
      exact hshut.trans (.of_eq hwatched)
    rw [State.standStep_of_inService hk]
    have hcontrolled := State.controllerStep_shut ((State.capturedAt samples true lh s k).setStand k
      (State.measuredAt samples true lh s k).1) k ((s.stand k).captureStep samples true).2 lh.stale
      (State.measuredAt samples true lh s k).2
    rw [State.stand_setStand_same] at hcontrolled
    exact (hcaptured.trans (Stand.measureStep_shut _ ((s.stand k).captureStep samples true).2 (!lh.stale)
      lh.increment s.lineSpeed s.grades)).trans hcontrolled

/-- R37, R43: the steps of a passed-over cycle keep the window of every stand shut. -/
theorem State.cycleStep_shut (samples : Option (Vector Slot 96)) :
    (s.stand k).KeepsShut ((s.cycleStep samples true).stand k) := by
  have hstepped : (s.stand k).KeepsShut (s.stepped samples true k) := by
    obtain ⟨hstand, -⟩ := s.lineTaken_alike samples true k
    rw [← hstand]
    exact State.standStep_shut _ k samples _
  rcases s.cycleStep_stand samples true k with heq | ⟨-, g, heq⟩ <;> rw [heq]
  · exact hstepped
  · exact hstepped.trans (.of_eq rfl)

end

/-! ### What a frame leaves of a stand's signals and its window -/

/-- Two stands with the same five signals and the same window. -/
structure Stand.SameSignals (st st' : Stand) : Prop where
  status : st'.status = st.status
  spindle : ∀ x, (st'.arm x).spindle = (st.arm x).spindle
  gauge : ∀ x, (st'.arm x).gauge = (st.arm x).gauge
  window : st'.window = st.window

namespace Stand.SameSignals

variable {st st' st'' : Stand}

theorem refl (st : Stand) : st.SameSignals st := ⟨rfl, fun _ => rfl, fun _ => rfl, rfl⟩

theorem trans (h : st.SameSignals st') (h' : st'.SameSignals st'') : st.SameSignals st'' :=
  ⟨h'.status.trans h.status, fun x => (h'.spindle x).trans (h.spindle x), fun x => (h'.gauge x).trans (h.gauge x),
    h'.window.trans h.window⟩

theorem of_linkSide (h : st.SameLinkSide st') (hw : st'.window = st.window) : st.SameSignals st' :=
  ⟨h.status, h.spindle, h.gauge, hw⟩

/-- The arms' further fields are not looked at, but where they stay the signals do. -/
theorem of_eq (h : (st'.status, st'.armA, st'.armB, st'.window) = (st.status, st.armA, st.armB, st.window)) :
    st.SameSignals st' := by
  obtain ⟨hstatus, ha, hb, hwindow⟩ : st'.status = st.status ∧ st'.armA = st.armA ∧ st'.armB = st.armB ∧
      st'.window = st.window := by simpa only [Prod.mk.injEq] using h
  have harm (x : Arm) : st'.arm x = st.arm x := by
    cases x
    · exact ha
    · exact hb
  exact ⟨hstatus, fun x => by rw [harm], fun x => by rw [harm], hwindow⟩

end Stand.SameSignals

section
variable (s : State) (j k : StandId)

theorem State.claimFaulted_signals : (s.stand j).SameSignals ((s.claimFaulted k).stand j) := by
  by_cases hj : j = k
  · subst hj
    have hlost : (s.stand j).SameSignals ((s.modStand j fun st => { st with claimLost := true }).stand j) := by
      rw [State.stand_modStand, if_pos rfl]
      exact .of_eq rfl
    exact hlost.trans (.of_linkSide (State.takeFault_linkSide _ j _ none) (State.takeFault_window _ j _ none))
  · rw [s.claimFaulted_other hj]
    exact .refl _

theorem State.claimConflict_signals : (s.stand j).SameSignals ((s.claimConflict k).stand j) := by
  rw [State.claimConflict_stand_decided]
  refine (s.claimFaulted_signals j k).trans ?_
  rcases (State.decideChanged_grantsAny s (s.claimFaulted k)).stand j with heq | ⟨-, g, heq⟩ <;> rw [heq]
  · exact .refl _
  · exact .of_eq rfl

theorem State.foldl_claimConflict_signals (l : List StandId) :
    (s.stand j).SameSignals ((l.foldl State.claimConflict s).stand j) := by
  induction l generalizing s with
  | nil => exact .refl _
  | cons k l ih => exact (s.claimConflict_signals j k).trans (ih _)

theorem State.fireStep_signals (m : Word) : (s.stand k).SameSignals ((s.fireStep k m).1.stand k) := by
  unfold State.fireStep
  dsimp only
  split
  · split <;> rw [State.stand_setStand_same] <;> exact .of_eq rfl
  · exact .refl _

theorem State.knifeStep_signals (m : Word) : (s.stand k).SameSignals ((s.knifeStep k m).1.stand k) := by
  unfold State.knifeStep
  dsimp only
  split
  · split
    · rw [State.stand_setStand_same]
      exact .of_eq rfl
    · exact .refl _
  · exact .refl _

theorem State.writeStand_signals (m : Word) (acc : State × Vector Slot 48) :
    (acc.1.stand j).SameSignals ((State.writeStand m acc k).1.stand j) := by
  by_cases hj : j = k
  · subst hj
    cases hwritten : (acc.1.stand j).written
    case false =>
      rw [State.writeStand_of_not_written hwritten]
      exact .refl _
    case true =>
      rw [State.writeStand_of_written hwritten, State.advanced_stand]
      exact ((acc.1.fireStep_signals j m).trans (State.knifeStep_signals _ j m)).trans (.of_eq rfl)
  · rw [State.writeStand_other acc hj]
    exact .refl _

theorem State.foldl_writeStand_signals (m : Word) (l : List StandId) (acc : State × Vector Slot 48) :
    (acc.1.stand j).SameSignals ((l.foldl (State.writeStand m) acc).1.stand j) := by
  induction l generalizing acc with
  | nil => exact .refl _
  | cons k l ih => exact (State.writeStand_signals j k m acc).trans (ih _)

/-- R1, R7, R16, R17: the claims and the writes of a frame leave every stand's signals and window. -/
theorem State.passOutbound_signals (f : OutFrame) : (s.stand j).SameSignals ((s.passOutbound f).stand j) := by
  cases haddr : s.hasAddress
  case false =>
    unfold State.passOutbound
    rw [if_neg (by rw [haddr]; exact Bool.false_ne_true)]
    exact .refl _
  case true =>
    obtain ⟨w, hw, -, hstand⟩ := State.passOutbound_of_address haddr f
    have hchecked : (s.stand j).SameSignals ((s.checkClaims f.slots).stand j) := by
      rw [State.checkClaims_stand]
      exact s.foldl_claimConflict_signals j _
    rw [hstand, hw]
    exact hchecked.trans (State.foldl_writeStand_signals j s.cycle allStands (s.checkClaims f.slots, f.slots))

theorem State.claimConflict_line : (s.claimConflict k).line = s.line := by
  have hfaulted := (s.claimFaulted_actsAt k).frame
  have hdecided := (State.decideChanged_grantsAny s (s.claimFaulted k)).frame
  rw [State.claimConflict_eq]
  generalize State.decideChanged s (s.claimFaulted k) = t at hdecided ⊢
  rw [State.joinLog_frame]
  exact (congrArg State.line hdecided :).trans (congrArg State.line hfaulted :)

theorem State.foldl_claimConflict_line (l : List StandId) : (l.foldl State.claimConflict s).line = s.line := by
  induction l generalizing s with
  | nil => rfl
  | cons k l ih => exact (ih _).trans (s.claimConflict_line k)

/-- An outbound frame leaves the signal LINE. -/
theorem State.passOutbound_line (f : OutFrame) : (s.passOutbound f).line = s.line := by
  have hchecked : (s.checkClaims f.slots).line = s.line := s.foldl_claimConflict_line _
  have hwritten := State.foldl_writeStand_frame s.cycle allStands (s.checkClaims f.slots, f.slots)
  unfold State.passOutbound
  split
  · generalize allStands.foldl (State.writeStand s.cycle) (s.checkClaims f.slots, f.slots) = w at hwritten ⊢
    exact (congrArg State.line hwritten :).trans hchecked
  · rfl

end

end Sys2Proof.Machine
end

section
/-! SUPPORT. The steps a marker makes up for (R3, R4, R26, R37): signals, histories and windows through them. -/
namespace Sys2Proof.Machine

/-! ### The advance of the engine cycle (R3) -/

theorem cycleAdvance_pos (c : Word) (num : BitVec 16) : 1 ≤ cycleAdvance c num := by
  unfold cycleAdvance
  dsimp only
  split <;> omega

theorem cycleAdvance_le (c : Word) (num : BitVec 16) : cycleAdvance c num ≤ 65536 := by
  have hlt := (num - c.setWidth 16).isLt
  unfold cycleAdvance
  dsimp only
  split <;> omega

/-- R3: the low 16 bits of the advanced cycle are the number received. -/
theorem cycleAdvance_number (c : Word) (num : BitVec 16) :
    (c + BitVec.ofNat 32 (cycleAdvance c num)).setWidth 16 = num := by
  have hnum := num.isLt
  have hdiff : (num - c.setWidth 16).toNat = (65536 - c.toNat % 65536 + num.toNat) % 65536 := by
    rw [BitVec.toNat_sub, BitVec.toNat_setWidth]
  have hadvance : cycleAdvance c num =
      if (num - c.setWidth 16).toNat = 0 then 65536 else (num - c.setWidth 16).toNat := rfl
  apply BitVec.eq_of_toNat_eq
  rw [BitVec.toNat_setWidth, BitVec.toNat_add, BitVec.toNat_ofNat, hadvance, hdiff]
  split <;> omega

/-- R3, R4: an advance by 1 is that to the next number. -/
theorem cycleAdvance_eq_one {c : Word} {num : BitVec 16} : cycleAdvance c num = 1 ↔ num = (c + 1).setWidth 16 := by
  constructor
  · intro hone
    have hnumber := cycleAdvance_number c num
    rw [hone] at hnumber
    exact hnumber.symm
  · rintro rfl
    have hdiff : (c + 1).setWidth 16 - c.setWidth 16 = 1#16 := by bv_omega
    unfold cycleAdvance
    rw [hdiff]
    rfl

/-! ### The steps that a marker makes up for -/

/-- R4, R26: one passed-over cycle. -/
def State.passOne (s : State) : State := { s with engineCycle := some (s.cycle + 1) }.cycleStep none true

theorem State.passOver_eq_iterate (n : Nat) (s : State) : State.passOver n s = State.passOne^[n] s := by
  induction n generalizing s with
  | zero => rfl
  | succ n ih => exact ih s.passOne

/-- R4, R16: the part that a marker finds, the fires prepared for another frame dropped. -/
def State.found (s : State) (d : Nat) : State :=
  let s0 := { s with heldReply := none, inFlight := s.inFlight.map fun g => { g with samples := none } }
  if d = 1 then s0 else s0.dropFires

/-- R26: the part when the step of the cycle in force has been taken. -/
def State.taken (s : State) (d : Nat) : State :=
  if s.stepPending = true then { s.found d with stepPending := false }.cycleStep none false else s.found d

/-- R4, R37: the part before the passed-over cycles. -/
def State.caughtUp (s : State) (d : Nat) : State :=
  if d ≠ 1 ∨ s.linkLost = true then (s.taken d).restart else s.taken d

section
variable {s : State} {k : StandId} {c : Word} {num : BitVec 16} {d : Nat}

theorem State.found_onlyWork (s : State) (d : Nat) : ({ s with
    heldReply := none, inFlight := s.inFlight.map fun g => { g with samples := none } } : State).OnlyWork (s.found d) := by
  unfold State.found
  dsimp only
  split
  · exact .refl _
  · exact State.dropFires_onlyWork _

theorem State.found_stepPending (s : State) (d : Nat) : (s.found d).stepPending = s.stepPending := by
  have hwork := s.found_onlyWork d
  unfold State.OnlyWork at hwork
  exact (congrArg State.stepPending hwork :)

theorem State.breaks_iff (s : State) (d : Nat) : s.breaks d = true ↔ d ≠ 1 ∨ s.linkLost = true := by
  simp [State.breaks]

/-- R1, R3, R26: a marker after the first. -/
theorem State.beginCycle_of_some (h : s.engineCycle = some c) (num : BitVec 16) :
    s.beginCycle num = { State.passOne^[cycleAdvance c num - 1] (s.caughtUp (cycleAdvance c num)) with
      engineCycle := some (c + BitVec.ofNat 32 (cycleAdvance c num)), lastCycle := some num, watchArmed := true
      linkLost := false, stepPending := true, returnDecided := false, imageActive := s.imageMap } := by
  have hmap : (s.beginCycle num).imageActive = s.imageMap := by rw [(s.beginCycle_frame num).2]
  have hbegun : s.beginCycle num = { { s.discardSamples with heldReply := none }.advanceCycle c (cycleAdvance c num) with
      lastCycle := some num, watchArmed := true, linkLost := false, stepPending := true, returnDecided := false
      imageActive := (s.beginCycle num).imageActive } := by
    unfold State.beginCycle
    dsimp only [State.discardSamples]
    rw [h]
  have hpending : (s.found (cycleAdvance c num)).pendingStep = if s.stepPending = true then
      { s.found (cycleAdvance c num) with stepPending := false }.cycleStep none false else s.found (cycleAdvance c num) := by
    rw [← s.found_stepPending (cycleAdvance c num)]
    rfl
  have hcaught : s.caughtUp (cycleAdvance c num) = if s.breaks (cycleAdvance c num) then
      (s.found (cycleAdvance c num)).pendingStep.restart else (s.found (cycleAdvance c num)).pendingStep := by
    rw [hpending]
    exact if_congr (s.breaks_iff _).symm rfl rfl
  rw [hbegun, hmap, ← State.passOver_eq_iterate, hcaught]
  rfl

/-! ### Signals through these steps -/

theorem State.cycleStep_inService (h : (s.stand k).inService = true) (samples : Option (Vector Slot 96))
    (passedOver : Bool) : ((s.cycleStep samples passedOver).stand k).inService = true := by
  rcases s.cycleStep_stand samples passedOver k with heq | ⟨-, g, heq⟩ <;> rw [heq]
  · exact State.stepped_inService h
  · rfl

theorem State.found_stand (s : State) (d : Nat) (k : StandId) :
    (s.found d).stand k = s.stand k ∨ (s.found d).stand k = (s.stand k).dropFire := by
  unfold State.found
  dsimp only
  split
  · exact .inl rfl
  · exact .inr (State.dropFires_stand _ k)

theorem State.found_linkSide (s : State) (d : Nat) (k : StandId) : (s.stand k).SameLinkSide ((s.found d).stand k) := by
  rcases s.found_stand d k with heq | heq <;> rw [heq]
  · exact .refl _
  · exact .of_eq rfl

theorem State.found_inService (h : (s.stand k).inService = true) (d : Nat) : ((s.found d).stand k).inService = true := by
  rcases s.found_stand d k with heq | heq <;> rw [heq] <;> exact h

/-- R26, R31: the signals of a stand in service after the step of the cycle in force, without samples. -/
theorem State.taken_signals (h : (s.stand k).inService = true) (d : Nat) :
    ((s.taken d).stand k).inService = true ∧ ((s.taken d).stand k).map = (s.stand k).map ∧
      ((s.taken d).stand k).status = (if s.stepPending = true then
        ((s.stand k).status.step (s.stand k).map.status none).1 else (s.stand k).status) ∧
      ∀ x, (((s.taken d).stand k).arm x).spindle = (if s.stepPending = true then
          (((s.stand k).arm x).spindle.step ((s.stand k).map.spindle x) none false).1 else ((s.stand k).arm x).spindle) ∧
        (((s.taken d).stand k).arm x).gauge = (if s.stepPending = true then
          (((s.stand k).arm x).gauge.step ((s.stand k).map.gauge x) none).1 else ((s.stand k).arm x).gauge) := by
  have hfound := State.found_inService h d
  have hside := s.found_linkSide d k
  unfold State.taken
  split
  case isTrue =>
    have hkept := State.cycleStep_inService (s := { s.found d with stepPending := false }) hfound none false
    have hmap := (State.cycleStep_linkSide (s := { s.found d with stepPending := false }) hfound none false).map
    obtain ⟨hstatus, harms⟩ := State.cycleStep_captures (s := { s.found d with stepPending := false }) hfound none false
    have hstand : State.stand { s.found d with stepPending := false } k = (s.found d).stand k := rfl
    rw [hstand] at hstatus
    refine ⟨hkept, hmap.trans hside.map, hstatus.trans (by rw [hside.status, hside.map]), fun x => ?_⟩
    obtain ⟨hspindle, hgauge⟩ := harms x
    rw [hstand] at hspindle hgauge
    exact ⟨hspindle.trans (by rw [hside.spindle, hside.map]), hgauge.trans (by rw [hside.gauge, hside.map])⟩
  case isFalse => exact ⟨hfound, hside.map, hside.status, fun x => ⟨hside.spindle x, hside.gauge x⟩⟩

/-- R4, R37: the signals of a stand in service before the passed-over cycles. -/
theorem State.caughtUp_signals (s : State) (k : StandId) (d : Nat) :
    ((s.caughtUp d).stand k).inService = ((s.taken d).stand k).inService ∧
      ((s.caughtUp d).stand k).map = ((s.taken d).stand k).map ∧
      ((s.caughtUp d).stand k).status = ((s.taken d).stand k).status ∧
      ∀ x, (((s.caughtUp d).stand k).arm x).spindle = (if d ≠ 1 ∨ s.linkLost = true then
          { (((s.taken d).stand k).arm x).spindle with hist := [] } else (((s.taken d).stand k).arm x).spindle) ∧
        (((s.caughtUp d).stand k).arm x).gauge = (((s.taken d).stand k).arm x).gauge := by
  unfold State.caughtUp
  split
  case isTrue =>
    rw [State.restart_stand]
    exact ⟨rfl, rfl, rfl, fun x => by cases x <;> exact ⟨rfl, rfl⟩⟩
  case isFalse => exact ⟨rfl, rfl, rfl, fun _ => ⟨rfl, rfl⟩⟩

theorem State.passOne_signals (h : (s.stand k).inService = true) :
    (s.passOne.stand k).inService = true ∧ (s.passOne.stand k).map = (s.stand k).map ∧
      (s.passOne.stand k).status = ((s.stand k).status.step (s.stand k).map.status none).1 ∧
      ∀ x, ((s.passOne.stand k).arm x).spindle =
          (((s.stand k).arm x).spindle.step ((s.stand k).map.spindle x) none true).1 ∧
        ((s.passOne.stand k).arm x).gauge = (((s.stand k).arm x).gauge.step ((s.stand k).map.gauge x) none).1 := by
  have hkept := State.cycleStep_inService (s := { s with engineCycle := some (s.cycle + 1) }) h none true
  have hmap := (State.cycleStep_linkSide (s := { s with engineCycle := some (s.cycle + 1) }) h none true).map
  obtain ⟨hstatus, harms⟩ := State.cycleStep_captures (s := { s with engineCycle := some (s.cycle + 1) }) h none true
  exact ⟨hkept, hmap, hstatus, harms⟩

/-- R26, R31: the signals of a stand in service after n passed-over cycles. -/
theorem State.iterate_passOne_signals (h : (s.stand k).inService = true) (n : Nat) :
    ((State.passOne^[n] s).stand k).status =
        (fun g : Status => (g.step (s.stand k).map.status none).1)^[n] (s.stand k).status ∧
      ∀ x, (((State.passOne^[n] s).stand k).arm x).spindle =
          (fun p : Spindle => (p.step ((s.stand k).map.spindle x) none true).1)^[n] ((s.stand k).arm x).spindle ∧
        (((State.passOne^[n] s).stand k).arm x).gauge =
          (fun u : Gauge => (u.step ((s.stand k).map.gauge x) none).1)^[n] ((s.stand k).arm x).gauge := by
  induction n generalizing s with
  | zero => exact ⟨rfl, fun _ => ⟨rfl, rfl⟩⟩
  | succ n ih =>
    obtain ⟨hkept, hmap, hstatus, harms⟩ := State.passOne_signals h
    obtain ⟨ihstatus, iharms⟩ := ih hkept
    simp only [hmap] at ihstatus iharms
    refine ⟨ihstatus.trans (by rw [hstatus]; rfl), fun x => ?_⟩
    obtain ⟨ihspindle, ihgauge⟩ := iharms x
    obtain ⟨hspindle, hgauge⟩ := harms x
    exact ⟨ihspindle.trans (by rw [hspindle]; rfl), ihgauge.trans (by rw [hgauge]; rfl)⟩

/-! ### LINE through these steps -/

theorem State.cycleStep_lineMap (s : State) (samples : Option (Vector Slot 96)) (passedOver : Bool) :
    (s.cycleStep samples passedOver).lineMap = s.lineMap := by
  have hwork := s.cycleStep_onlyWork samples passedOver
  unfold State.OnlyWork at hwork
  exact (congrArg State.lineMap hwork :)

theorem State.found_line (s : State) (d : Nat) : (s.found d).line = s.line ∧ (s.found d).lineMap = s.lineMap := by
  have hmodified (t : State) (l : List StandId) :
      (l.foldl (fun t k => t.modStand k Stand.dropFire) t).line = t.line := by
    induction l generalizing t with
    | nil => rfl
    | cons k l ih => exact ih _
  have hwork := s.found_onlyWork d
  unfold State.OnlyWork at hwork
  refine ⟨?_, (congrArg State.lineMap hwork :)⟩
  unfold State.found
  dsimp only
  split
  · rfl
  · exact hmodified _ allStands

theorem State.taken_line {e : RetEntry} (h : s.lineMap = some e) (d : Nat) :
    (s.taken d).lineMap = some e ∧
      (s.taken d).line = if s.stepPending = true then s.line.step (some e) none false else s.line := by
  obtain ⟨hline, hmap⟩ := s.found_line d
  unfold State.taken
  split
  case isTrue =>
    have hmapped : State.lineMap { s.found d with stepPending := false } = some e := hmap.trans h
    refine ⟨(State.cycleStep_lineMap _ none false).trans hmapped, (State.cycleStep_line_of_mapped hmapped).trans ?_⟩
    rw [← hline]
  case isFalse => exact ⟨hmap.trans h, hline⟩

theorem State.restart_line (s : State) : s.restart.line = { s.line with hist := [] } ∧ s.restart.lineMap = s.lineMap := by
  have hmodified (t : State) (l : List StandId) :
      (l.foldl (fun t k => t.modStand k Stand.restart) t).line = t.line := by
    induction l generalizing t with
    | nil => rfl
    | cons k l ih => exact ih _
  have hwork := s.restart_onlyWork
  unfold State.OnlyWork at hwork
  exact ⟨hmodified _ allStands, (congrArg State.lineMap hwork :)⟩

theorem State.caughtUp_line (s : State) (d : Nat) :
    (s.caughtUp d).lineMap = (s.taken d).lineMap ∧ (s.caughtUp d).line =
      if d ≠ 1 ∨ s.linkLost = true then { (s.taken d).line with hist := [] } else (s.taken d).line := by
  obtain ⟨hline, hmap⟩ := (s.taken d).restart_line
  unfold State.caughtUp
  split
  case isTrue => exact ⟨hmap, hline⟩
  case isFalse => exact ⟨rfl, rfl⟩

theorem State.iterate_passOne_line {e : RetEntry} (h : s.lineMap = some e) (n : Nat) :
    (State.passOne^[n] s).line = (fun g : Line => g.step (some e) none true)^[n] s.line := by
  induction n generalizing s with
  | zero => rfl
  | succ n ih =>
    have hmap : s.passOne.lineMap = some e := (State.cycleStep_lineMap _ none true).trans h
    have hline : s.passOne.line = s.line.step (some e) none true :=
      State.cycleStep_line_of_mapped (s := { s with engineCycle := some (s.cycle + 1) }) h
    exact (ih hmap).trans (by rw [hline]; rfl)

end

end Sys2Proof.Machine
end

section
/-! SUPPORT. After a break: empty histories, no running-diameter window, a gauge window from its start (R37, R58): O4. -/
namespace Sys2Proof.Machine

/-! ### Histories and windows -/

/-- R37: a stand whose histories are empty and which has no running-diameter window. -/
def Stand.Restarted (st : Stand) : Prop := (∀ x, (st.arm x).spindle.hist = []) ∧ st.window = none

theorem stepHistory_nil {α : Type} (c : Capture) (held : Option α) : stepHistory [] c held true = [] := by
  unfold stepHistory
  split
  · rfl
  · cases held <;> rfl

section
variable {s : State} {k : StandId}

theorem Spindle.step_hist_nil {g : Spindle} (h : g.hist = []) (e : Option RetEntry) : (g.step e none true).1.hist = [] := by
  rw [Spindle.step_of_not_fresh (by rw [entrySlot_none]; rfl), h]
  exact stepHistory_nil _ _

theorem Line.step_hist_nil {g : Line} (h : g.hist = []) (e : Option RetEntry) : (g.step e none true).hist = [] := by
  unfold Line.step
  rw [entrySlot_none, h]
  exact stepHistory_nil _ _

theorem Stand.restart_restarted (st : Stand) : st.restart.Restarted := ⟨fun x => by cases x <;> rfl, rfl⟩

theorem State.stepped_hist_nil (h : ∀ x, ((s.stand k).arm x).spindle.hist = []) (x : Arm) :
    ((s.stepped none true k).arm x).spindle.hist = [] := by
  cases hk : (s.stand k).inService
  case false =>
    rw [State.stepped_of_offline hk]
    exact h x
  case true =>
    rw [(State.stepped_linkSide hk none true).spindle x]
    cases x
    · exact Spindle.step_hist_nil (h .a) _
    · exact Spindle.step_hist_nil (h .b) _

/-- R37: a passed-over cycle leaves a restarted stand restarted. -/
theorem State.passOne_restarted (h : (s.stand k).Restarted) : (s.passOne.stand k).Restarted := by
  obtain ⟨hhist, hwindow⟩ := h
  have hshut := State.cycleStep_shut { s with engineCycle := some (s.cycle + 1) } k none hwindow
  have hstepped := State.stepped_hist_nil (s := { s with engineCycle := some (s.cycle + 1) }) (k := k) hhist
  refine ⟨fun x => ?_, hshut⟩
  unfold State.passOne
  rcases State.cycleStep_stand { s with engineCycle := some (s.cycle + 1) } none true k with heq | ⟨-, g, heq⟩ <;> rw [heq]
  · exact hstepped x
  · cases x
    · exact hstepped .a
    · exact hstepped .b

theorem State.iterate_passOne_restarted (h : (s.stand k).Restarted) (n : Nat) :
    ((State.passOne^[n] s).stand k).Restarted := by
  induction n generalizing s with
  | zero => exact h
  | succ n ih => exact ih (State.passOne_restarted h)

theorem State.iterate_passOne_line_hist (h : s.line.hist = []) (n : Nat) : (State.passOne^[n] s).line.hist = [] := by
  induction n generalizing s with
  | zero => exact h
  | succ n ih =>
    refine ih ?_
    cases hmap : s.lineMap with
    | none =>
      exact (congrArg Line.hist
        (State.cycleStep_line_of_unmapped (s := { s with engineCycle := some (s.cycle + 1) }) hmap)).trans h
    | some e =>
      exact (congrArg Line.hist
        (State.cycleStep_line_of_mapped (s := { s with engineCycle := some (s.cycle + 1) }) hmap)).trans
        (Line.step_hist_nil h _)

/-- R4, R37: at a break the part restarts before the passed-over cycles. -/
theorem State.caughtUp_of_break {d : Nat} (h : d ≠ 1 ∨ s.linkLost = true) : s.caughtUp d = (s.taken d).restart := if_pos h

end

/-! ### The gauge window of a stand in CHECKING -/

/-- R58: a stand in CHECKING whose gauge window, on arm x, has the given sum and count. -/
def Stand.Gauging (st : Stand) (x : Arm) (sum count : Nat) : Prop :=
  st.state = .checking ∧ ∃ b, st.gaugeWindow = some ⟨x, sum, count, b⟩

section
variable {s : State} {k : StandId} {st : Stand} {x : Arm} {sum count : Nat}

theorem Gauge.step_of_no_samples (g : Gauge) (e : Option RetEntry) : (g.step e none).2 = (none, none, false) := by
  rw [Gauge.step_of_not_fresh (by rw [entrySlot_none]; rfl)]

/-- R28, R29: without samples an arm hands over no reading and no change of reel-present. -/
theorem Stand.captureStep_hand (st : Stand) (passedOver : Bool) (x : Arm) :
    ((st.captureStep none passedOver).2.arm x).reading = none ∧
      ((st.captureStep none passedOver).2.arm x).change = none ∧
      ((st.captureStep none passedOver).2.arm x).firstTrue = false := by
  have hnone (g : Gauge) (e : Option RetEntry) : (g.step e none).2.1 = none ∧ (g.step e none).2.2.1 = none ∧
      (g.step e none).2.2.2 = false := by
    rw [g.step_of_no_samples e]
    exact ⟨rfl, rfl, rfl⟩
  cases x
  · exact hnone st.armA.gauge st.map.gaugeA
  · exact hnone st.armB.gauge st.map.gaugeB

theorem Stand.windowStep_gauging (h : st.Gauging x sum count) (lineLive passedOver : Bool) (inc : Nat)
    (grades : Vector Grade 16) : (st.windowStep lineLive passedOver inc grades).Gauging x sum count := by
  unfold Stand.windowStep
  dsimp only
  split
  · split
    · unfold Stand.advanceWindow
      dsimp only
      split
      · unfold Stand.acceptTest
        split <;> exact h
      · exact h
    · split <;> exact h
    · exact h
  · exact h

theorem Stand.gaugeStep_gauging (h : st.Gauging x sum count) {hand : StandHand} (hnone : (hand.arm x).reading = none) :
    (st.gaugeStep hand).1.Gauging x sum count ∧ (st.gaugeStep hand).2 = none := by
  obtain ⟨hstate, b, hw⟩ := h
  cases b
  case true =>
    rw [Stand.gaugeStep_of_waiting hand hw rfl]
    exact ⟨⟨hstate, false, rfl⟩, rfl⟩
  case false =>
    rw [Stand.gaugeStep_of_counting hand hw rfl]
    dsimp only
    rw [hnone]
    exact ⟨⟨hstate, false, hw⟩, rfl⟩

theorem Stand.measureStep_gauging (h : st.Gauging x sum count) {hand : StandHand} (hnone : (hand.arm x).reading = none)
    (lineLive passedOver : Bool) (inc speed : Nat) (grades : Vector Grade 16) :
    (st.measureStep hand lineLive passedOver inc speed grades).1.Gauging x sum count ∧
      (st.measureStep hand lineLive passedOver inc speed grades).2 = none := by
  have hwindow := Stand.windowStep_gauging (st := st.measureRates.advanceAnchor inc) h lineLive passedOver inc grades
  exact Stand.gaugeStep_gauging (st := ((st.measureRates.advanceAnchor inc).windowStep lineLive passedOver inc
    grades).measureLength speed) hwindow hnone

theorem Stand.staleWindow_gauging (h : st.Gauging x sum count) (hand : StandHand) (lh : LineHand) :
    (st.staleWindow hand lh).Gauging x sum count := by
  unfold Stand.staleWindow
  split <;> exact h

theorem Stand.brakingStep_gauging (h : st.Gauging x sum count) : st.brakingStep.Gauging x sum count := by
  unfold Stand.brakingStep
  split <;> exact h

/-- R35: the stale watch does not watch a stand in CHECKING. -/
theorem State.watchStand_gauging (h : (s.stand k).Gauging x sum count) (lineStale : Bool) :
    ((s.watchStand k lineStale).stand k).Gauging x sum count := by
  have hwatched : (s.stand k).state.watched = false := by rw [h.1]; rfl
  rw [State.watchStand_of_none, State.stand_setStand_same]
  · exact h
  · simp [Stand.watchExpired, Stand.watchStep, watchCount, hwatched]

theorem State.controllerStep_gauging (h : (s.stand k).Gauging x sum count) {hand : StandHand}
    (hchange : ∀ y, (hand.arm y).change = none ∧ (hand.arm y).firstTrue = false) (lineStale : Bool) :
    ((s.controllerStep k hand lineStale none).stand k).Gauging x sum count := by
  obtain ⟨hnone, hfirst⟩ := hchange (s.stand k).readyArm
  have hsame : (s.stand k).reelChanges hand = s.stand k := by
    refine Stand.reelChanges_of_none (by rw [hnone]; exact nofun) fun hmount => ?_
    obtain ⟨-, hedge | ⟨htrue, -⟩⟩ := ((s.stand k).mountEdge_iff _ _).mp hmount
    · rw [hnone] at hedge; cases hedge
    · rw [hfirst] at htrue; cases htrue
  have hbraked := Stand.brakingStep_gauging h
  have hstand : (s.setStand k (s.stand k).brakingStep).stand k = (s.stand k).brakingStep := State.stand_setStand_same _ _ _
  unfold State.controllerStep
  dsimp only
  rw [hsame, State.transitions_of_checking (by rw [hstand]; exact hbraked.1)]
  dsimp only
  rw [hstand]
  exact hbraked

/-- R58: the steps of a cycle without samples leave a stand in CHECKING and the sum and count of its gauge window. -/
theorem State.standStep_gauging (h : (s.stand k).Gauging x sum count) (passedOver : Bool) (lh : LineHand) :
    ((State.standStep none passedOver lh s k).stand k).Gauging x sum count := by
  have hservice : (s.stand k).inService = true := by
    rw [Stand.inService_iff, h.1]
    exact nofun
  have hhand := (s.stand k).captureStep_hand passedOver
  have hcaptured : ((State.capturedAt none passedOver lh s k).stand k).Gauging x sum count := by
    have hwindow := Stand.staleWindow_gauging (st := ((s.stand k).captureStep none passedOver).1) h
      ((s.stand k).captureStep none passedOver).2 lh
    refine State.watchStand_gauging (s := s.setStand k (((s.stand k).captureStep none passedOver).1.staleWindow
      ((s.stand k).captureStep none passedOver).2 lh)) ?_ lh.stale
    rw [State.stand_setStand_same]
    exact hwindow
  obtain ⟨hmeasured, hdg⟩ := Stand.measureStep_gauging hcaptured (hhand x).1 (!lh.stale) passedOver lh.increment s.lineSpeed
    s.grades
  have hdg' : (State.measuredAt none passedOver lh s k).2 = none := hdg
  rw [State.standStep_of_inService hservice, hdg']
  refine State.controllerStep_gauging ?_ (fun y => (hhand y).2) lh.stale
  rw [State.stand_setStand_same]
  exact hmeasured

theorem State.cycleStep_gauging (hs : GroupsAgree s) (h : (s.stand k).Gauging x sum count) (passedOver : Bool) :
    ((s.cycleStep none passedOver).stand k).Gauging x sum count := by
  have hstepped : (s.stepped none passedOver k).Gauging x sum count := by
    obtain ⟨hstand, -⟩ := s.lineTaken_alike none passedOver k
    exact State.standStep_gauging (by rw [hstand]; exact h) passedOver _
  rcases s.cycleStep_stand none passedOver k with heq | ⟨hrequests, -⟩
  · rw [heq]
    exact hstepped
  · have hmatched := Stand.matched_of_requests (hrequests hs)
    rw [hstepped.1] at hmatched
    cases hmatched

theorem State.passOne_agrees (hs : GroupsAgree s) : GroupsAgree s.passOne :=
  (State.cycleStep_keepsClaims { s with engineCycle := some (s.cycle + 1) } none true hs).1

theorem State.iterate_passOne_gauging (hs : GroupsAgree s) (h : (s.stand k).Gauging x sum count) (n : Nat) :
    ((State.passOne^[n] s).stand k).Gauging x sum count := by
  induction n generalizing s with
  | zero => exact h
  | succ n ih =>
    exact ih (State.passOne_agrees hs)
      (State.cycleStep_gauging (s := { s with engineCycle := some (s.cycle + 1) }) hs h true)

theorem State.found_agrees (hs : GroupsAgree s) (d : Nat) : GroupsAgree (s.found d) := by
  unfold State.found
  dsimp only
  split
  · exact hs
  · exact (State.dropFires_keepsAgreement _ hs).1

theorem State.taken_gauging (hs : GroupsAgree s) (h : (s.stand k).Gauging x sum count) (d : Nat) :
    GroupsAgree (s.taken d) ∧ ((s.taken d).stand k).Gauging x sum count := by
  have hfound : ((s.found d).stand k).Gauging x sum count := by
    rcases s.found_stand d k with heq | heq <;> rw [heq] <;> exact h
  have hagree := State.found_agrees hs d
  unfold State.taken
  split
  · exact ⟨(State.cycleStep_keepsClaims { s.found d with stepPending := false } none false hagree).1,
      State.cycleStep_gauging (s := { s.found d with stepPending := false }) hagree hfound false⟩
  · exact ⟨hagree, hfound⟩

/-- R58: at a break the gauge window of a stand in CHECKING starts again. -/
theorem State.taken_restart_gauging (hs : GroupsAgree s) (h : (s.stand k).Gauging x sum count) (d : Nat) :
    GroupsAgree (s.taken d).restart ∧ ((s.taken d).restart.stand k).Gauging x 0 0 := by
  obtain ⟨hagree, hstate, b, hw⟩ := State.taken_gauging hs h d
  refine ⟨((s.taken d).restart_keepsAgreement hagree).1, ?_⟩
  rw [State.restart_stand]
  exact ⟨hstate, b, by unfold Stand.restart; rw [hw]; rfl⟩

/-! ### A frame, and a stand in CHECKING -/

theorem State.advanced_gauging (h : (s.stand k).Gauging x sum count) (m : Word) :
    ((s.advanced k m).stand k).Gauging x sum count := by
  have hfire : ((s.fireStep k m).1.stand k).Gauging x sum count := by
    unfold State.fireStep
    dsimp only
    split
    case h_1 p _ =>
      have hnot : ¬ ((s.stand k).state = .firingPending ∧ p.cycle = m) := fun hdue => by
        rw [h.1] at hdue
        cases hdue.1
      rw [if_neg hnot, State.stand_setStand_same]
      exact h
    case h_2 => exact h
  rw [State.advanced_stand, State.knifeStep_of_not_issued (by rw [hfire.1]; exact nofun)]
  exact hfire

theorem State.writeStand_gauging {acc : State × Vector Slot 48} (h : (acc.1.stand k).Gauging x sum count) (m : Word)
    (j : StandId) : ((State.writeStand m acc j).1.stand k).Gauging x sum count := by
  by_cases hj : k = j
  · subst hj
    cases hwritten : (acc.1.stand k).written
    case false =>
      rw [State.writeStand_of_not_written hwritten]
      exact h
    case true =>
      rw [State.writeStand_of_written hwritten]
      exact State.advanced_gauging h m
  · rw [State.writeStand_other acc hj]
    exact h

theorem State.foldl_writeStand_gauging {acc : State × Vector Slot 48} (h : (acc.1.stand k).Gauging x sum count) (m : Word)
    (l : List StandId) : ((l.foldl (State.writeStand m) acc).1.stand k).Gauging x sum count := by
  induction l generalizing acc with
  | nil => exact h
  | cons j l ih => exact ih (State.writeStand_gauging h m j)

/-- R7, R58: a frame strikes a stand in CHECKING, or leaves it and its gauge window. -/
theorem State.passOutbound_gauging (hs : GroupsAgree s) (h : (s.stand k).Gauging x sum count) (f : OutFrame) :
    ((s.passOutbound f).stand k).state = .fault ∨ ((s.passOutbound f).stand k).Gauging x sum count := by
  cases haddr : s.hasAddress
  case false =>
    unfold State.passOutbound
    rw [if_neg (by rw [haddr]; exact Bool.false_ne_true)]
    exact .inr h
  case true =>
    obtain ⟨w, hw, -, hstand⟩ := State.passOutbound_of_address haddr f
    rw [hstand, hw]
    by_cases hfails : s.claimFails f.slots k = true
    · have hunwritten : ((s.checkClaims f.slots).stand k).written = false := by
        rw [← Bool.not_eq_true, State.written_of_checkClaims hs]
        exact fun ⟨_, _, hnot⟩ => hnot hfails
      rw [State.foldl_writeStand_stand_of_not_written (acc := (s.checkClaims f.slots, f.slots)) hunwritten]
      exact .inl (State.checkClaims_struck hs hfails).2.1
    · have hsame := (State.checkClaims_of_not_fails hs hfails).eq_of_not_matched (by rw [h.1]; exact nofun)
      exact .inr (State.foldl_writeStand_gauging (acc := (s.checkClaims f.slots, f.slots)) (by rw [hsame]; exact h) _ _)

end

end Sys2Proof.Machine
end

section
/-! SUPPORT. The start marker and the steps it makes up for (R3, R4, R26, R37): O4. -/
namespace Sys2Proof.Machine

section
variable {s : State} {f : OutFrame} {c : Word} {k : StandId}

/-- R1, R3, R11, R13, R14, R18, R23: what a marker writes of the part. -/
theorem State.marker_fields (s : State) (f : OutFrame) :
    let t := (s.beginCycle f.cycle).passOutbound f
    t.lastCycle = some f.cycle ∧ t.watchArmed = true ∧ t.linkLost = false ∧ t.heldReply = none ∧
      t.returnDecided = false ∧ t.stepPending = true ∧ t.imageActive = s.imageMap ∧ t.outPassing = s.hasAddress ∧
      t.engineCycle = (s.beginCycle f.cycle).engineCycle := by
  have hbegun := (s.beginCycle_frame f.cycle).2
  have hpassed := (s.beginCycle f.cycle).passOutbound_frame f
  dsimp only
  generalize s.beginCycle f.cycle = u at hbegun hpassed ⊢
  generalize u.passOutbound f = t at hpassed ⊢
  have hnode : u.nodeAddr = s.nodeAddr := (congrArg State.nodeAddr hbegun :)
  have haddr : u.hasAddress = s.hasAddress := by
    unfold State.hasAddress
    rw [hnode]
  exact ⟨(congrArg State.lastCycle hpassed :).trans (congrArg State.lastCycle hbegun :),
    (congrArg State.watchArmed hpassed :).trans (congrArg State.watchArmed hbegun :),
    (congrArg State.linkLost hpassed :).trans (congrArg State.linkLost hbegun :),
    (congrArg State.heldReply hpassed :).trans (congrArg State.heldReply hbegun :),
    (congrArg State.returnDecided hpassed :).trans (congrArg State.returnDecided hbegun :),
    (congrArg State.stepPending hpassed :).trans (congrArg State.stepPending hbegun :),
    (congrArg State.imageActive hpassed :).trans (congrArg State.imageActive hbegun :),
    (congrArg State.outPassing hpassed :).trans haddr, (congrArg State.engineCycle hpassed :)⟩

theorem State.beginCycle_of_none (h : s.engineCycle = none) (num : BitVec 16) :
    (s.beginCycle num).engineCycle = some (num.setWidth 32) := by
  unfold State.beginCycle
  dsimp only [State.discardSamples]
  rw [h]

/-- R26: stands and LINE after the marker's steps are those after the passed-over cycles. -/
theorem State.beginCycle_steps (h : s.engineCycle = some c) (num : BitVec 16) :
    (s.beginCycle num).engineCycle = some (c + BitVec.ofNat 32 (cycleAdvance c num)) ∧
      (s.beginCycle num).line = (State.passOne^[cycleAdvance c num - 1] (s.caughtUp (cycleAdvance c num))).line ∧
      ∀ k, (s.beginCycle num).stand k =
        (State.passOne^[cycleAdvance c num - 1] (s.caughtUp (cycleAdvance c num))).stand k := by
  have hbegun := State.beginCycle_of_some h num
  generalize State.passOne^[cycleAdvance c num - 1] (s.caughtUp (cycleAdvance c num)) = v at hbegun ⊢
  rw [hbegun]
  exact ⟨rfl, rfl, fun _ => rfl⟩

/-- R26, R31, R37: LINE after a marker. -/
theorem State.beginCycle_line (h : s.engineCycle = some c) (num : BitVec 16) {e : RetEntry} (hmap : s.lineMap = some e) :
    (s.beginCycle num).line = (fun g : Line => g.step (some e) none true)^[cycleAdvance c num - 1]
      (if cycleAdvance c num ≠ 1 ∨ s.linkLost = true then
        { (if s.stepPending = true then s.line.step (some e) none false else s.line) with hist := [] }
      else if s.stepPending = true then s.line.step (some e) none false else s.line) := by
  obtain ⟨-, hsteps, -⟩ := State.beginCycle_steps h num
  generalize cycleAdvance c num = d at *
  obtain ⟨htakenMap, htaken⟩ := State.taken_line hmap d
  obtain ⟨hcaughtMap, hcaught⟩ := s.caughtUp_line d
  rw [hsteps, State.iterate_passOne_line (hcaughtMap.trans htakenMap), hcaught, htaken]

/-- R26, R31, R37: the signals of a stand in service after a marker. -/
theorem State.beginCycle_signals (h : s.engineCycle = some c) (num : BitVec 16) (hk : (s.stand k).inService = true) :
    let d := cycleAdvance c num
    let m := (s.stand k).map
    let g := (s.stand k).status
    ((s.beginCycle num).stand k).status = (fun g : Status => (g.step m.status none).1)^[d - 1]
        (if s.stepPending = true then (g.step m.status none).1 else g) ∧
      ∀ x,
        let p := ((s.stand k).arm x).spindle
        let p' := if s.stepPending = true then (p.step (m.spindle x) none false).1 else p
        let u := ((s.stand k).arm x).gauge
        (((s.beginCycle num).stand k).arm x).spindle = (fun p : Spindle => (p.step (m.spindle x) none true).1)^[d - 1]
            (if d ≠ 1 ∨ s.linkLost = true then { p' with hist := [] } else p') ∧
          (((s.beginCycle num).stand k).arm x).gauge = (fun u : Gauge => (u.step (m.gauge x) none).1)^[d - 1]
            (if s.stepPending = true then (u.step (m.gauge x) none).1 else u) := by
  obtain ⟨-, -, hsteps⟩ := State.beginCycle_steps h num
  dsimp only
  generalize cycleAdvance c num = d at *
  obtain ⟨htakenService, htakenMap, htakenStatus, htakenArms⟩ := State.taken_signals hk d
  obtain ⟨hservice, hmap, hstatus, harms⟩ := s.caughtUp_signals k d
  obtain ⟨hlast, hlastArms⟩ := State.iterate_passOne_signals (hservice.trans htakenService) (d - 1)
  simp only [hmap.trans htakenMap] at hlast hlastArms
  rw [hsteps]
  refine ⟨hlast.trans (by rw [hstatus, htakenStatus]), fun x => ?_⟩
  obtain ⟨hspindle, hgauge⟩ := hlastArms x
  obtain ⟨hcaughtSpindle, hcaughtGauge⟩ := harms x
  obtain ⟨htakenSpindle, htakenGauge⟩ := htakenArms x
  exact ⟨hspindle.trans (by rw [hcaughtSpindle, htakenSpindle]), hgauge.trans (by rw [hcaughtGauge, htakenGauge])⟩

/-- R4, R37, R43: after a marker that is a break every history is empty, and no running-diameter window is open. -/
theorem State.beginCycle_of_break (h : s.engineCycle = some c) {num : BitVec 16}
    (hbreak : num ≠ (c + 1).setWidth 16 ∨ s.linkLost = true) :
    (s.beginCycle num).line.hist = [] ∧ ∀ k, ((s.beginCycle num).stand k).Restarted := by
  obtain ⟨-, hline, hstands⟩ := State.beginCycle_steps h num
  replace hbreak := hbreak.imp_left (mt cycleAdvance_eq_one.mp)
  rw [State.caughtUp_of_break hbreak] at hline hstands
  refine ⟨?_, fun k => ?_⟩
  · rw [hline]
    refine State.iterate_passOne_line_hist ?_ _
    rw [(State.restart_line _).1]
  · rw [hstands]
    refine State.iterate_passOne_restarted ?_ _
    rw [State.restart_stand]
    exact Stand.restart_restarted _

/-- R58: after a marker that is a break the gauge window of a stand in CHECKING is at its start. -/
theorem State.beginCycle_gauging (h : s.engineCycle = some c) {num : BitVec 16}
    (hbreak : num ≠ (c + 1).setWidth 16 ∨ s.linkLost = true) (hs : GroupsAgree s) {x : Arm} {sum count : Nat}
    (hk : (s.stand k).Gauging x sum count) : ((s.beginCycle num).stand k).Gauging x 0 0 := by
  obtain ⟨-, -, hstands⟩ := State.beginCycle_steps h num
  replace hbreak := hbreak.imp_left (mt cycleAdvance_eq_one.mp)
  obtain ⟨hagree, hgauging⟩ := State.taken_restart_gauging hs hk (cycleAdvance c num)
  rw [hstands, State.caughtUp_of_break hbreak]
  exact State.iterate_passOne_gauging hagree hgauging _

end

/-- Settles O4: a marker is the steps of the cycles without samples (`beginCycle_of_some`) and its frame, which leaves the
signals they made (`passOutbound_signals`). -/
theorem markerExtendsEngineCycle : Obligations.MarkerExtendsEngineCycle := by
  refine ⟨fun s f hreset => ?_, fun s f c hreset hc => ?_, fun s passedOver k hs => ?_⟩
  · have hexec : exec (.outboundStartMarker f) s = .next ((s.beginCycle f.cycle).passOutbound f) :=
      congrArg Host.Outcome.next (State.startMarker_of_running hreset f)
    obtain ⟨hlast, harmed, hlost, hheld, hdecided, hpending, himage, hpassing, hcycle⟩ := s.marker_fields f
    have hline := (s.beginCycle f.cycle).passOutbound_line f
    have hsignals (k : StandId) := (s.beginCycle f.cycle).passOutbound_signals k f
    refine ⟨_, hexec, hlast, harmed, hlost, hheld, hdecided, hpending, himage, hpassing,
      fun hnone => hcycle.trans (State.beginCycle_of_none hnone _), fun c hc => ⟨?_, fun hbreak => ?_⟩⟩
    · refine ⟨cycleAdvance c f.cycle, cycleAdvance_pos _ _, cycleAdvance_le _ _,
        hcycle.trans (State.beginCycle_steps hc _).1, cycleAdvance_number _ _,
        fun e hmap => hline.trans (State.beginCycle_line hc _ hmap), fun k hk => ?_⟩
      obtain ⟨hstatus, harms⟩ := State.beginCycle_signals hc f.cycle hk
      refine ⟨(hsignals k).status.trans hstatus, fun x => ?_⟩
      obtain ⟨hspindle, hgauge⟩ := harms x
      exact ⟨((hsignals k).spindle x).trans hspindle, ((hsignals k).gauge x).trans hgauge⟩
    · obtain ⟨hhist, hrestarted⟩ := State.beginCycle_of_break hc hbreak
      refine ⟨(congrArg Line.hist hline).trans hhist, fun k => ?_⟩
      obtain ⟨hempty, hwindow⟩ := hrestarted k
      refine ⟨(congrArg Spindle.hist ((hsignals k).spindle .a)).trans (hempty .a),
        (congrArg Spindle.hist ((hsignals k).spindle .b)).trans (hempty .b), (hsignals k).window.trans hwindow,
        fun hs w hstate hw => ?_⟩
      have hgauging := State.beginCycle_gauging hc hbreak hs (k := k) ⟨hstate, w.waits, hw⟩
      exact State.passOutbound_gauging (State.beginCycle_claims hs f.cycle).1 hgauging f
  · exact ⟨congrArg Host.Outcome.next (State.startMarker_of_running hreset f), cycleAdvance c f.cycle, cycleAdvance_pos _ _,
      cycleAdvance_le _ _, cycleAdvance_number _ _, State.beginCycle_of_some hc f.cycle⟩
  · exact (s.cycleStep_stand none passedOver k).imp_right fun ⟨hrequests, hgrant⟩ => ⟨hrequests hs, hgrant⟩

end Sys2Proof.Machine
end
